-- ==== Sys2Proof/Word.lean ====
section
/-! DEFINITION. The words of the block: a byte, a 32-bit register and a 64-bit packet path (00_scope.md R12, 01 R31, R35). -/

namespace Sys2Proof

/-- A byte of a packet, a message or a memory. -/
abbrev Byte := BitVec 8

/-- A register: 32 bits (R31). -/
abbrev Word := BitVec 32

end Sys2Proof
end

