-- ==== Sys2Proof/Packet.lean ====
section
/-! DEFINITION. What the commands of the block carry: packets of the Tirril protocol (03 R79-R81), messages of the
joist lanes and rafter ports (11 R341), frames and samples of the beam channels (04 R117, 07 R219), Ethernet requests
and PTP messages (12 R378, R384), and the small name types of the units and lanes they name. -/

namespace Sys2Proof

/-- The port at which a packet reaches the device, numbered as the audit entry numbers it (15 R463). -/
inductive Port where
  | eth0 | eth1 | spi | rafter
deriving DecidableEq, Repr

/-- A host address as the device learns it from a datagram: MAC, IPv4 address and UDP port (12 R378, 03 R77). -/
structure HostAddr where
  mac : Nat
  ip  : Nat
  udp : Nat
deriving DecidableEq, Repr

/-- A Tirril packet as received (R79-R81), apart from its opcode: the header fields as they stand in the packet, the
parameter bytes, the tag (empty when SECURE is clear) and the CRC that the packet carries. `dport` is the UDP port that a datagram was sent to
(R76); it means nothing at the other ports. -/
structure Packet where
  port     : Port
  origin   : HostAddr
  dport    : BitVec 16
  version  : Byte
  flags    : Byte
  sequence : Word
  path     : List Byte
  atEra    : Word
  atNs     : Word
  session  : Word
  params   : List Byte
  tag      : List Byte
  crc      : Word
deriving DecidableEq, Repr

/-- A message of a joist lane or a rafter port (R341) without its type, which the command's name gives. `whole` says that its END came and that no
control block of another type fell in it (R339, R341), `parity` how many of its stripes did not XOR to zero with all four lanes there (R357). -/
structure Msg where
  src     : Byte
  dst     : Byte
  flags   : Byte
  seq     : Byte
  payload : List Byte
  crc     : Word
  whole   : Bool := true
  parity  : Nat := 0
deriving DecidableEq, Repr

/-- A serial lane (R338): a joist lane, or lane `k` of the upstream or downstream rafter port. -/
inductive Lane where
  | joist (n : Fin 16)
  | up (k : Fin 4)
  | down (k : Fin 4)
deriving DecidableEq, Repr

/-- What is wrong with a received frame as a frame: a datagram that is a fragment or fails its UDP checksum (R77), or a frame that is tagged or has a bad FCS (R377). -/
inductive FrameFault where
  | sound | badUdp | badMac
deriving DecidableEq, Repr

/-- The two rafter ports (R374). -/
inductive RPort where
  | up | down
deriving DecidableEq, Repr

/-- Why a lane lost its signal (R340, R356), as LANE_LOST reports it (R370). -/
inductive LossCause where
  | los | lol | headers | align
deriving DecidableEq, Repr

/-- A leaf unit of the tree (R36). -/
inductive Leaf where
  | beam (n : Fin 48)
  | motor (n : Fin 8)
  | led (n : Fin 16)
  | joist (n : Fin 16)
  | rafter (n : Fin 2)
  | eth (n : Fin 2)
  | time
  | spi
deriving DecidableEq, Repr

/-- The kinds of excursion event (R238), in the order of their codes 1-4. -/
inductive ExcKind where
  | high | low | backrefl | sat
deriving DecidableEq, Repr

/-- One sample instant of a beam's two melt-pool inputs: the s14 codes of AIN0 and AIN1 (R219). -/
structure Sample where
  ain0 : BitVec 14
  ain1 : BitVec 14
deriving DecidableEq, Repr

/-- A PTP Announce as the best master choice uses it (R384, R385): `identity` is the grandmaster's, `sender` the port identity of the clock that sent it, `interval` that
clock's Announce interval in ns. -/
structure Announce where
  priority1    : Byte
  clockClass   : Byte
  accuracy     : Byte
  variance     : BitVec 16
  priority2    : Byte
  identity     : BitVec 64
  stepsRemoved : BitVec 16
  utcOffset    : BitVec 16
  utcValid     : Bool
  domain       : Byte
  sdo          : BitVec 4
  interval     : Nat
  sender       : BitVec 80
deriving DecidableEq, Repr

/-- A PTP Sync, Follow_Up or Delay_Resp (R384, R387): the port identity of its sender, the message's sequence, its origin or receive time in
0.01 ns since the PTP epoch with its corrections, and whether a Follow_Up follows. -/
structure PtpTime where
  sender   : BitVec 80
  seqId    : BitVec 16
  time     : Int
  twoStep  : Bool
  domain   : Byte
  sdo      : BitVec 4
deriving DecidableEq, Repr

/-- What an adjacency step saw on the pins of the channel's neighbours (R446). -/
structure AdjSeen where
  below : Bool
  above : Bool
deriving DecidableEq, Repr

end Sys2Proof
end

