-- ==== Sys2Proof/Syntax.lean ====
section
/-! DEFINITION. The commands of the block: one constructor for each row of spec/opcode_table.json, in the table's order.
The first operand `t` of each is the device time in ns at which the command reaches the block (log entry 1); a row
that is a Tirril opcode carries the received packet; an event carries what the event itself brings. -/

namespace Sys2Proof

inductive Instr where
  /-- POWER_ON (R54): VIN rises above 4.8 V after being off, starting the power-on filter. -/
  | powerOn (t : Nat) (vin : Nat)
  /-- POR_RELEASE (R52): VIN has stayed above 4.8 V for 10 ms; start-up runs its steps and the device enters CONFIG. -/
  | porRelease (t : Nat)
  /-- BROWN_OUT (R63): VIN stays below 4.6 V for 2 µs; both latches set, domains stop and the emergency page is committed. -/
  | brownOut (t : Nat) (vin : Nat)
  /-- PIN_RESET (R54): RESET_N held low for at least 1 µs causes a device reset held while the pin stays low. -/
  | pinReset (t : Nat)
  /-- RESET_N_RISE (R54): The rising edge of RESET_N starts start-up after a pin reset. -/
  | resetNRise (t : Nat)
  /-- WATCHDOG (R54): Firmware fails to service the watchdog for 100 ms, causing a device reset. -/
  | watchdog (t : Nat)
  /-- THERMAL_TRIP (R54): Die temperature reaches 110 °C, causing a held device reset. -/
  | thermalTrip (t : Nat)
  /-- THERMAL_RELEASE (R54): The die has stayed below 95 °C for 1 ms, releasing the thermal reset. -/
  | thermalRelease (t : Nat)
  /-- REFERENCE_LOSS (R54): The 25 MHz reference is absent for 2 Sill ticks, causing a held device reset. -/
  | referenceLoss (t : Nat)
  /-- REFERENCE_RESTORED (R54): The 25 MHz reference has been present for 10 ms, releasing the reference reset. -/
  | referenceRestored (t : Nat)
  /-- WAKE_EVENT (R57): A falling edge on WAKE_N or assertion of SPI_CS_N wakes the device from SILL. -/
  | wakeEvent (t : Nat) (spi : Bool)
  /-- WAKE_ALARM (R57): Device time reaches the wake alarm set by SHUTDOWN and the device leaves SILL. -/
  | wakeAlarm (t : Nat)
  /-- LASER_EN_FALL (R59): A low pulse on LASER_EN_A or LASER_EN_B sets both latches, gates lasers off and moves the device to HOLD. -/
  | laserEnFall (t : Nat) (chanB : Bool) (width : Nat)
  /-- LASER_EN_RISE (R60): A LASER_EN input rises, advancing the lockout-ending sequence and the 10 ms high condition. -/
  | laserEnRise (t : Nat) (chanB : Bool)
  /-- DISCREPANCY (R60): LASER_EN_A and LASER_EN_B differ for 10 ms, setting DISCREPANCY, the latches and a lockout. -/
  | discrepancy (t : Nat)
  /-- VIN_WARNING (R63): VIN falls below 5.6 V; a supervisor snapshot is taken and the SUPPLY alert is sent. -/
  | vinWarning (t : Nat) (vin : Nat)
  /-- SUPPLY_DIP (R63): VIN rises above 5.8 V after a dip; a SUPPLY_DIP record and histogram entry are written. -/
  | supplyDip (t : Nat) (vin : Nat)
  /-- VIN_HIGH (R62): VIN crosses 41.0 V, changing VIN_HIGH with a record and SUPPLY alert. -/
  | vinHigh (t : Nat) (vin : Nat)
  /-- VMOT_FAULT (R62): VMOT leaves or re-enters its limits; ports go to safe state, the bridge latch sets and HOLD follows if an axis moved. -/
  | vmotFault (t : Nat) (mv : Nat)
  /-- VLED_FAULT (R62): VLED leaves or re-enters its limits; enabled LED channels go to safe state and FAULT. -/
  | vledFault (t : Nat) (mv : Nat)
  /-- HOLDUP_LOW (R62): HOLDUP crosses 4.8 V after its 1 ms filter, changing HOLDUP_LOW with an alert. -/
  | holdupLow (t : Nat) (mv : Nat)
  /-- TEMP_WARNING (R62): Die temperature crosses the 100 °C warning, changing TEMP_WARN with a record. -/
  | tempWarning (t : Nat) (temp : BitVec 16)
  /-- PAUSE_REACHED (R50): The last beam has stopped after entry to PAUSE, so the mode becomes PAUSE. -/
  | pauseReached (t : Nat)
  /-- LAYER_END_MOVE (R181): Every device of the chain has sent LAYER_DONE and the manager moves the chain to the next mode or HOLD. -/
  | layerEndMove (t : Nat)
  /-- SPI_WRITE (R78): An SPI WRITE transaction clocks in one complete packet. -/
  | spiWrite (t : Nat) (bytes : List Byte)
  /-- SPI_READ (R78): An SPI READ transaction clocks out the next queued packet with its length. -/
  | spiRead (t : Nat) (clocked : Nat)
  /-- SPI_STATUS (R78): An SPI STATUS transaction clocks out OUT_PENDING, IN_FULL and READY. -/
  | spiStatus (t : Nat)
  /-- PACKET_DISCARD (R84): A received datagram or SPI write fails the length or magic check, or a UDP check, and is discarded without reply. -/
  | packetDiscard (t : Nat) (port : Port) (bytes : List Byte) (fault : FrameFault)
  /-- SESSION_TIMEOUT (R88): A session's idle timeout passes without a packet and the session closes, aborting its bulk transfers. -/
  | sessionTimeout (t : Nat) (slot : Fin 8)
  /-- ALERT_RETRANSMIT (R100): An unacknowledged alert is sent again after 200 ms, or dropped after its fifth retransmission. -/
  | alertRetransmit (t : Nat) (slot : Fin 8) (alert : Word)
  /-- BULK_TIMEOUT (R108): A bulk transfer receives no packet for 10 s and is aborted with BULK_ABORTED. -/
  | bulkTimeout (t : Nat) (id : BitVec 16)
  /-- SCHEDULED_EXECUTE (R94): A scheduled command reaches its execute-at time, is checked again and executes, followed by EXEC_RESULT. -/
  | scheduledExecute (t : Nat)
  /-- PING (R97): Returns device time. -/
  | ping (t : Nat) (p : Packet)
  /-- SESSION_OPEN (R87): Opens a session and returns its identifier and the device time. -/
  | sessionOpen (t : Nat) (p : Packet)
  /-- SESSION_CLOSE (R88): Closes the packet's session. -/
  | sessionClose (t : Nat) (p : Packet)
  /-- DEVICE_INFO (R97): Returns DEVICE_ID, CHAIN, firmware version and BOOT_STATUS. -/
  | deviceInfo (t : Nat) (p : Packet)
  /-- STATUS_GET (R43): Returns a leaf's UNIT_STATUS or a frame's aggregated status record. -/
  | statusGet (t : Nat) (p : Packet)
  /-- FAULT_ACK (R42): Writes ACK_PENDING of every leaf under the path. -/
  | faultAck (t : Nat) (p : Packet)
  /-- MODE_SET (R49): Requests a mode move, checked against R47 and completed with MODE_CHANGED or MODE_REFUSED. -/
  | modeSet (t : Nat) (p : Packet)
  /-- HOLD (R51): Host hold cause moves the device to HOLD. -/
  | hold (t : Nat) (p : Packet)
  /-- SAFE (R59): Sets the laser-safety latch. -/
  | safe (t : Nat) (p : Packet)
  /-- LATCH_CLEAR (R61): Clears the laser-safety and bridge latches when their conditions hold. -/
  | latchClear (t : Nat) (p : Packet)
  /-- RESET (R54): Host-commanded device reset. -/
  | reset (t : Nat) (p : Packet)
  /-- SHUTDOWN (R69): Runs the orderly shutdown steps, commits the shutdown page and enters SILL. -/
  | shutdown (t : Nat) (p : Packet)
  /-- SCHEDULE_LIST (R98): Lists pending scheduled commands in execution order. -/
  | scheduleList (t : Nat) (p : Packet)
  /-- SCHEDULE_CANCEL (R94): Removes a pending scheduled command with status ABORTED. -/
  | scheduleCancel (t : Nat) (p : Packet)
  /-- ALERT_MASK (R100): Selects the alert groups the session receives. -/
  | alertMask (t : Nat) (p : Packet)
  /-- ALERT_ACK (R100): Acknowledges alerts up to a sequence number. -/
  | alertAck (t : Nat) (p : Packet)
  /-- REG_READ (R102): Reads consecutive registers, clearing RC fields returned. -/
  | regRead (t : Nat) (p : Packet)
  /-- REG_WRITE (R103): Writes consecutive registers that have no row of their own, checked whole before any write. -/
  | regWrite (t : Nat) (p : Packet)
  /-- REG_MODIFY (R104): Performs an atomic masked write of one register. -/
  | regModify (t : Nat) (p : Packet)
  /-- REG_READ_LIST (R102): Reads scattered registers. -/
  | regReadList (t : Nat) (p : Packet)
  /-- REG_WRITE_LIST (R103): Writes scattered registers, checked whole before any write. -/
  | regWriteList (t : Nat) (p : Packet)
  /-- ACK_PENDING_WRITE (R42): Writing 1 to UNIT_STATUS.ACK_PENDING acknowledges a fault and may return the unit to OK or DISABLED. -/
  | ackPendingWrite (t : Nat) (unit : Leaf)
  /-- REFUSE_CAUSE_READ (R70): A read of MODE returns and clears REFUSE_CAUSE. -/
  | refuseCauseRead (t : Nat)
  /-- VIN_MIN_READ (R75): A read of VIN_MIN returns and restarts the lowest VIN measurement. -/
  | vinMinRead (t : Nat)
  /-- DEV_TIME_ERA_READ (R400): A read of DEV_TIME_ERA latches the ns count into DEV_TIME_NS. -/
  | devTimeEraRead (t : Nat)
  /-- MT_CONFIG_ENABLE_WRITE (R138): A write of MT_CONFIG.ENABLE enables or disables a beam as BEAM_ENABLE or BEAM_DISABLE. -/
  | mtConfigEnableWrite (t : Nat) (b : Fin 48) (secure enable : Bool)
  /-- TRACE_ARM (R245): Writing TRACE_CTRL.ARM as 1 arms the Plumb tuning trace for a profile, discarding the old trace. -/
  | traceArm (t : Nat) (b : Fin 48) (secure : Bool) (profile : Fin 8)
  /-- GRAIN_WINDOW_WRITE (R274): A write that changes E_LSB, the Grain origin or size clears all four plane roles. -/
  | grainWindowWrite (t : Nat) (secure : Bool) (address : Nat) (value : Word)
  /-- BULK_OPEN (R106): Starts a bulk transfer into one kind's area and returns its identifier. -/
  | bulkOpen (t : Nat) (p : Packet)
  /-- BULK_DATA (R107): Writes one chunk of a bulk transfer. -/
  | bulkData (t : Nat) (p : Packet)
  /-- BULK_CLOSE (R108): Checks completeness and CRC of a transfer and makes its data valid. -/
  | bulkClose (t : Nat) (p : Packet)
  /-- BULK_ABORT (R108): Discards a bulk transfer. -/
  | bulkAbort (t : Nat) (p : Packet)
  /-- BULK_STATUS (R108): Returns the missing ranges of a transfer. -/
  | bulkStatus (t : Nat) (p : Packet)
  /-- BULK_READ (R109): Reads a memory range within one readable region. -/
  | bulkRead (t : Nat) (p : Packet)
  /-- JOB_BEGIN (R164): Opens a job with a generation number. -/
  | jobBegin (t : Nat) (p : Packet)
  /-- JOB_END (R164): Closes the open job. -/
  | jobEnd (t : Nat) (p : Packet)
  /-- LAYER_DECLARE (R162): Starts the check of the package in the inactive half. -/
  | layerDeclare (t : Nat) (p : Packet)
  /-- LAYER_CHECKED (R162): The package check ends, the inactive half becomes VALID or INVALID, and LAYER_CHECKED is sent. -/
  | layerChecked (t : Nat)
  /-- LAYER_ACTIVATE (R163): Swaps the layer-package halves, making a VALID package active and sending COVER_REPORT. -/
  | layerActivate (t : Nat) (p : Packet)
  /-- LAYER_RESUME (R67): Moves the device from IDLE to PAUSE at the point held in the resume block. -/
  | layerResume (t : Nat) (p : Packet)
  /-- LAYER_STATUS (R184): Returns layer and per-beam progress. -/
  | layerStatus (t : Nat) (p : Packet)
  /-- LAYER_ABORT (R183): Abandons the active layer and clears RESUME_INFO.VALID. -/
  | layerAbort (t : Nat) (p : Packet)
  /-- BEAM_ENABLE (R138): Enables beams and starts their attachment check. -/
  | beamEnable (t : Nat) (p : Packet)
  /-- BEAM_DISABLE (R138): Disables beams, failing with HOST_DISABLED a beam with remaining records. -/
  | beamDisable (t : Nat) (p : Packet)
  /-- PARAM_SET_LOAD (R140): Loads Kerf parameter sets after checking every value. -/
  | paramSetLoad (t : Nat) (p : Packet)
  /-- BEAM_STATUS (R140): Returns port and link state per beam. -/
  | beamStatus (t : Nat) (p : Packet)
  /-- LASER_SAFETY_SET (R140): Writes the pilot and service ceilings. -/
  | laserSafetySet (t : Nat) (p : Packet)
  /-- SCANNER_JOG (R140): Moves a scanner in field units in SERVICE with the gate closed. -/
  | scannerJog (t : Nat) (p : Packet)
  /-- JOG_DONE (R141): A scanner jog reaches its target and JOG_DONE is sent. -/
  | jogDone (t : Nat) (b : Fin 48)
  /-- RETURN_FRAME (R117): A mortise return frame arrives and updates actual position, status, NACK counts and tracking checks. -/
  | returnFrame (t : Nat) (b : Fin 48) (frame : BitVec 50)
  /-- RETURN_LINK_LOCK (R119): Eight consecutive valid return frames lock the return link and POS frames begin. -/
  | returnLinkLock (t : Nat) (b : Fin 48) (tap : BitVec 6)
  /-- LOCK_TIMEOUT (R119): An enabled beam fails to lock within 1 ms of the domain start, a SCANNER_LINK failure. -/
  | lockTimeout (t : Nat) (b : Fin 48)
  /-- ATTACHMENT_CHECK (R120): The beam attachment check runs or repeats every 100 ms until the beam leaves ABSENT. -/
  | attachmentCheck (t : Nat) (b : Fin 48) (locked rdy alm : Bool)
  /-- LINK_ESCALATION (R122): NACK or invalid-frame counts reach the escalation limit, a SCANNER_LINK beam failure. -/
  | linkEscalation (t : Nat) (b : Fin 48)
  /-- SCANNER_TRACKING (R123): Tracking error exceeds POS_ERR_LIMIT for POS_ERR_TIME samples, a beam failure. -/
  | scannerTracking (t : Nat) (b : Fin 48)
  /-- ALM_ACTIVE (R130): A filtered laser alarm becomes active, a LASER_ALARM beam failure. -/
  | almActive (t : Nat) (b : Fin 48)
  /-- RDY_INACTIVE (R130): Filtered RDY goes inactive, a LASER_NOT_READY failure in laser modes with the latch clear. -/
  | rdyInactive (t : Nat) (b : Fin 48)
  /-- RDY_GRACE_END (R130): The RDY_GRACE period ends; a still-inactive RDY becomes a LASER_NOT_READY failure. -/
  | rdyGraceEnd (t : Nat) (b : Fin 48)
  /-- FACET_EDGE (R136): A polygon facet edge is time-stamped and the next facet start is predicted. -/
  | facetEdge (t : Nat) (b : Fin 48) (stamp : Nat)
  /-- RASTER_LOCK (R137): 64 consecutive facets within SYNC_TOL lock the raster sync. -/
  | rasterLock (t : Nat) (b : Fin 48)
  /-- RASTER_SYNC_LOSS (R137): Four facets outside SYNC_TOL or a misplaced missing tooth lose the raster sync. -/
  | rasterSyncLoss (t : Nat) (b : Fin 48)
  /-- RASTER_LOSS_LIMIT (R137): A sync loss lasting LOSS_LIMIT ms with raster records remaining is a RASTER_SYNC beam failure. -/
  | rasterLossLimit (t : Nat) (b : Fin 48)
  /-- FIFO_REFILL (R167): Records fetched from DRAM arrive in a Kerf FIFO, letting a starved engine commit again. -/
  | fifoRefill (t : Nat) (b : Fin 48) (count : Nat)
  /-- RECORD_COMPLETE (R177): An exposure record completes, updating KF_LAST_DONE, the resume block and stick state. -/
  | recordComplete (t : Nat) (b : Fin 48)
  /-- TRUSS_ROUND (R194): A 1 µs Truss round takes in notices, runs release tests, grants sticks and moves the token. -/
  | trussRound (t : Nat)
  /-- RELEASE (R210): A Truss RELEASE message from a neighbour device is imported into the reservation. -/
  | release (t : Nat) (port : RPort) (m : Msg)
  /-- WITHDRAW (R210): A Truss WITHDRAW message removes an imported release. -/
  | withdraw (t : Nat) (port : RPort) (m : Msg)
  /-- CLAIM (R211): A Truss CLAIM message imports a remote claim. -/
  | claim (t : Nat) (port : RPort) (m : Msg)
  /-- UNCLAIM (R211): A Truss UNCLAIM message removes a remote claim. -/
  | unclaim (t : Nat) (port : RPort) (m : Msg)
  /-- HEARTBEAT (R210): A Truss HEARTBEAT keeps an import fresh. -/
  | heartbeat (t : Nat) (port : RPort) (m : Msg)
  /-- IMPORT_STALE (R212): No message has arrived from a rafter port for 5 µs, so its import is stale and CROSS_STALE is sent. -/
  | importStale (t : Nat) (port : RPort)
  /-- TRUSS_RESYNC (R362): A TRUSS_RESYNC request makes the sender resend every live exported release and claim. -/
  | trussResync (t : Nat) (port : RPort) (m : Msg)
  /-- WAIT_LONG (R200): A beam's wait exceeds WAIT_ALERT_MS and WAIT_LONG is sent. -/
  | waitLong (t : Nat) (b : Fin 48)
  /-- GAS_STALE (R207): The head's blower-speed value is older than 100 ms and the last value stays in force. -/
  | gasStale (t : Nat)
  /-- FEATURE_WINDOW (R224): A 20-sample window closes and forms features, class and flags for the beam. -/
  | featureWindow (t : Nat) (b : Fin 48) (samples : List Sample)
  /-- CAMERA_TIMEOUT (R241): No valid camera frame for CAM_TIMEOUT frame periods marks the camera lost. -/
  | cameraTimeout (t : Nat) (b : Fin 48)
  /-- EXCURSION_OPEN (R239): EXC_MIN consecutive qualifying tests open an excursion event and may send EXCURSION. -/
  | excursionOpen (t : Nat) (b : Fin 48) (kind : ExcKind)
  /-- EXCURSION_CLOSE (R239): EXC_MIN non-qualifying tests close an excursion event, counting and recording it. -/
  | excursionClose (t : Nat) (b : Fin 48) (kind : ExcKind)
  /-- TRACE_DONE (R245): The tuning trace fills 128 entries, sets DONE and sends TRACE_DONE. -/
  | traceDone (t : Nat) (b : Fin 48)
  /-- DEPOSIT_MERGE (R262): Deposited energy is merged into the P0 tile in DRAM. -/
  | depositMerge (t : Nat)
  /-- TILE_PREFETCH (R269): A Grain tile column arrives in a beam's cache. -/
  | tilePrefetch (t : Nat) (b : Fin 48) (tile : Nat)
  /-- GRAIN_QUERY (R266): A lookahead query reads the cached cells around a planned tick. -/
  | grainQuery (t : Nat) (b : Fin 48)
  /-- GRAIN_ROLL (R265): After the last merge of a finished layer the roll starts and plane roles switch. -/
  | grainRoll (t : Nat)
  /-- ROLL_END (R265): The roll pass ends, clearing ROLLING and setting GR_ROLL_MS. -/
  | rollEnd (t : Nat)
  /-- MARK_SCAN_START (R291): Scribe starts a fiducial mark scan on a beam when all conditions hold. -/
  | markScanStart (t : Nat) (b : Fin 48)
  /-- MARK_SCAN_DONE (R292): A mark scan completes and gives a centroid or an INVALID cause. `late` are the samples since the beam's last window closed. Whether one
  saturated and whether the recoater covered the mark are the block's own findings (R293), so the two places for them carry nothing. -/
  | markScanDone (t : Nat) (b : Fin 48) (late : List Sample) (saturated covered : Unit)
  /-- PASS_FIT (R295): All marks of a pass are attempted and the fit runs, applying, holding or failing the result. -/
  | passFit (t : Nat) (b : Fin 48)
  /-- RESULT_APPLY (R297): An APPLY_PENDING result is applied to the table at the first permitted moment. -/
  | resultApply (t : Nat) (b : Fin 48)
  /-- PASS_TIMEOUT (R294): PASS_LAYERS layer starts pass since the request and the pass fails with TIMEOUT. -/
  | passTimeout (t : Nat) (b : Fin 48)
  /-- LIVE_BOUNDARY (R327): A live frame boundary arrives every P ms; layers flip and a composition starts. -/
  | liveBoundary (t : Nat)
  /-- LAYER_END_BOUNDARY (R327): The awaited fences advance, or END_WAIT_MS passes, after layer end, making a layer-end boundary. -/
  | layerEndBoundary (t : Nat)
  /-- COMPOSITION_DONE (R329): A composition ends, the back surface becomes front and FRAME_DONE is sent. -/
  | compositionDone (t : Nat)
  /-- FRAME_LOCK_EXPIRY (R330): A front-surface lock reaches 2 s and is released. -/
  | frameLockExpiry (t : Nat)
  /-- FOOTPRINT_DONE (R316): The Kerf renderer draws the layer's last piece and fence 16 advances. -/
  | footprintDone (t : Nat)
  /-- HEAT_RENDER_DONE (R317): A heat rendering completes and fence 17 advances. -/
  | heatRenderDone (t : Nat)
  /-- LANE_SIGNAL_LOST (R340): LOS or LOL is set on a lane; it leaves UP, is erased or retrains, and its unit faults. -/
  | laneSignalLost (t : Nat) (lane : Lane) (cause : LossCause)
  /-- LANE_SIGNAL_OK (R342): LOS and LOL clear together and the lane moves from SIGNAL to ALIGN. -/
  | laneSignalOk (t : Nat) (lane : Lane)
  /-- LANE_ALIGNED (R343): The alignment search finds the block boundary and the lane moves to HELLO. -/
  | laneAligned (t : Nat) (lane : Lane) (pos : Fin 66)
  /-- ATTEMPT_TIMEOUT (R342): A training attempt fails to reach UP within 20 ms, leading to backoff or ABSENT. -/
  | attemptTimeout (t : Nat) (lane : Lane)
  /-- BACKOFF_END (R344): A lane's backoff wait ends and a new attempt starts. -/
  | backoffEnd (t : Nat) (lane : Lane)
  /-- DISCOVERY_RESCAN (R344): The 1,000 ms rescan gives each ABSENT lane one attempt. -/
  | discoveryRescan (t : Nat)
  /-- HELLO (R346): A head HELLO arrives; HELLO_ACK is sent and the lane reaches UP or retrains for a new head. -/
  | hello (t : Nat) (n : Fin 16) (m : Msg)
  /-- FRAME_START (R347): A camera FRAME_START message begins a frame. -/
  | frameStart (t : Nat) (n : Fin 16) (m : Msg)
  /-- LINE (R349): A camera LINE message delivers one line of pixels. -/
  | line (t : Nat) (n : Fin 16) (m : Msg)
  /-- FRAME_END (R349): FRAME_END completes a frame, delivering it to Plumb or the capture ring and advancing the lane's fence. -/
  | frameEnd (t : Nat) (n : Fin 16) (m : Msg)
  /-- SENSOR (R351): A SENSOR message updates sensor channel values with their sample times. -/
  | sensor (t : Nat) (n : Fin 16) (m : Msg)
  /-- REPLY (R352): A head REPLY is delivered to the host as HEAD_REPLY. -/
  | reply (t : Nat) (n : Fin 16) (m : Msg)
  /-- WINDOW (R350): A camera WINDOW message announces an exposure window to the LED channels. -/
  | window (t : Nat) (n : Fin 16) (m : Msg)
  /-- TIME (R348): Every 100 µs the device sends TIME with device time and delay on each UP joist lane. -/
  | time (t : Nat) (n : Fin 16)
  /-- TIME_ECHO (R348): A head TIME_ECHO updates the one-way delay of the lane. -/
  | timeEcho (t : Nat) (n : Fin 16) (m : Msg)
  /-- TIME_MISS (R348): No TIME_ECHO arrives for 1 ms and TIME_MISS counts. -/
  | timeMiss (t : Nat) (n : Fin 16)
  /-- HEAD_REPLY_TIMEOUT (R352): No REPLY arrives within 100 ms of a COMMAND and HEAD_REPLY is sent with status timeout. -/
  | headReplyTimeout (t : Nat) (n : Fin 16)
  /-- ALIGN (R356): A rafter ALIGN block aligns the lanes, rejoins a retrained lane or brings the port up. -/
  | align (t : Nat) (port : RPort) (k num : Fin 4) (stripe : Word)
  /-- PORT_HELLO (R360): A rafter PORT_HELLO completes a hop handshake and may bring in a worker. -/
  | portHello (t : Nat) (port : RPort) (m : Msg)
  /-- INDEX (R364): A worker receives its chain index and the manager's device time. -/
  | index (t : Nat) (m : Msg)
  /-- TIME_SYNC_SEND (R366): Every 10 µs the manager or an upstream worker sends TIME_SYNC on each downstream lane. -/
  | timeSyncSend (t : Nat)
  /-- TIME_SYNC (R366): A worker receives TIME_SYNC, answers with TIME_ECHO and disciplines its device time. -/
  | timeSync (t : Nat) (lane : RPort × Fin 4) (m : Msg)
  /-- RAFTER_TIME_ECHO (R366): A rafter TIME_ECHO gives the round trip for a lane's hop delay. -/
  | rafterTimeEcho (t : Nat) (port : RPort) (k : Fin 4) (m : Msg)
  /-- CONTROL (R361): A rafter CONTROL message, such as a HOLD notice, OFFSET or LED commit, is acted on and acknowledged. -/
  | control (t : Nat) (port : RPort) (m : Msg)
  /-- CONTROL_ACK (R361): A CONTROL_ACK stops the retransmission of a CONTROL message. -/
  | controlAck (t : Nat) (port : RPort) (m : Msg)
  /-- CONTROL_RETRY (R361): An unacknowledged CONTROL message is repeated after 5 µs. -/
  | controlRetry (t : Nat) (port : RPort)
  /-- TIRRIL (R363): A TIRRIL segment is forwarded along the chain or reassembled at its destination. -/
  | tirril (t : Nat) (port : RPort) (m : Msg)
  /-- WORKER_LOST (R367): A worker's TIME_SYNC is absent for 100 µs or its port is down; DEVICE_LOST is sent and the chain enters HOLD. -/
  | workerLost (t : Nat) (index : Fin 16)
  /-- ETH_LINK_UP (R380): An Ethernet PCS holds block lock for 10 ms and the link comes up. -/
  | ethLinkUp (t : Nat) (n : Fin 2)
  /-- ETH_LINK_DOWN (R380): An Ethernet port loses lock for 100 µs; the link goes down and the port faults. -/
  | ethLinkDown (t : Nat) (n : Fin 2)
  /-- ARP_REQUEST (R378): An ARP request for the port's address is answered. -/
  | arpRequest (t : Nat) (n : Fin 2) (sender : HostAddr) (target : Word)
  /-- ICMP_ECHO (R378): An ICMP echo request is answered. -/
  | icmpEcho (t : Nat) (n : Fin 2) (sender : HostAddr) (target : Word) (data : List Byte)
  /-- ANNOUNCE (R385): A PTP Announce feeds the best master clock choice and may change master or port. -/
  | announce (t : Nat) (n : Fin 2) (a : Announce)
  /-- SYNC (R387): A PTP Sync with known times runs the servo update or a step request. -/
  | sync (t : Nat) (n : Fin 2) (m : PtpTime) (stamp : Int) (interval : Int)
  /-- FOLLOW_UP (R387): A PTP Follow_Up supplies the origin time of a two-step Sync. -/
  | followUp (t : Nat) (n : Fin 2) (m : PtpTime)
  /-- DELAY_REQ (R384): Every 2^LOG_DELAY_REQ s a Delay_Req is sent to the master. -/
  | delayReq (t : Nat)
  /-- DELAY_RESP (R385): A PTP Delay_Resp updates the path delay. -/
  | delayResp (t : Nat) (n : Fin 2) (m : PtpTime)
  /-- HOLDOVER (R388): No usable Sync for the announce timeout puts the servo in HOLDOVER. -/
  | holdover (t : Nat)
  /-- OFFSET_BROADCAST (R392): Every 100 ms or on change the manager sends OFFSET to every worker. -/
  | offsetBroadcast (t : Nat)
  /-- OFFSET_APPLY (R392): The apply time of a broadcast OFFSET is reached and every device changes OFFSET. -/
  | offsetApply (t : Nat)
  /-- PLANNING_TICK (R408): Every 10 µs the planner chooses the next jerk and checks following, skew and stalls. -/
  | planningTick (t : Nat) (p : Fin 8)
  /-- MOVE_DONE (R429): A move reaches its target or is cut short and MOVE_DONE is sent. -/
  | moveDone (t : Nat) (p : Fin 8)
  /-- HOLD_CURRENT (R405): After 200 ms at standstill the coil current drops to the hold percentage. -/
  | holdCurrent (t : Nat) (p : Fin 8)
  /-- DRIVER_SHORT (R404): Current reaches 1.5 × I_RUN within BLANK and the port's gates turn off as a DRIVER fault. -/
  | driverShort (t : Nat) (p : Fin 8)
  /-- HOME_STALL (R415): A stall against the hard stop sets the home position and starts the backoff. -/
  | homeStall (t : Nat) (p : Fin 8)
  /-- HOME_DONE (R415): Homing ends after backoff or a failure and HOME_DONE is sent. -/
  | homeDone (t : Nat) (p : Fin 8)
  /-- LIMIT_EDGE (R418): A debounced limit input edge stops a moving axis or raises LIMIT_CHATTER. -/
  | limitEdge (t : Nat) (p : Fin 8) (positive level : Bool)
  /-- INDEX_EVENT (R421): An index or reference event corrects the position or raises INDEX_MISMATCH. -/
  | indexEvent (t : Nat) (f : Fin 8) (quadError : Bool)
  /-- ENCODER_FAULT (R420): Feedback errors in one revolution exceed QUAD_LIMIT and the axis faults. -/
  | encoderFault (t : Nat) (f : Fin 8)
  /-- WINDOW_START (R438): An announced exposure window starts and LOCKED or GATED channels restart their PWM. -/
  | windowStart (t : Nat) (n : Fin 16)
  /-- WINDOW_END (R442): An exposure window ends, applying deferred LED values and stopping GATED emission. -/
  | windowEnd (t : Nat) (n : Fin 16)
  /-- NTC_CONVERSION (R439): Every 10 ms the NTC inputs are converted and compensation and derating are updated. -/
  | ntcConversion (t : Nat) (ohms : List (Option Nat))
  /-- LED_SHORT (R435): Current above 1.5 × i_eff early in an on-time turns the channel off with LED_SHORT. -/
  | ledShort (t : Nat) (c : Fin 16)
  /-- LED_OPEN (R444): Three consecutive on-times miss their current and the channel faults with LED_OPEN. -/
  | ledOpen (t : Nat) (c : Fin 16)
  /-- PROVING_PULSE (R445): A once-per-second proving pulse tests a lamp, or the channel becomes UNVERIFIED. -/
  | provingPulse (t : Nat) (c : Fin 16) (slot pass : Bool)
  /-- ADJACENCY_STEP (R446): One adjacency test step drives a channel's pins and watches its neighbours for shorts. -/
  | adjacencyStep (t : Nat) (c : Fin 16) (seen : AdjSeen)
  /-- PAGE_COMMIT (R465): A staging page that is full, aged or forced commits to both nonvolatile copies. -/
  | pageCommit (t : Nat)
  /-- TOKEN_ACCRUAL (R465): One commit token accrues per second up to BURST. -/
  | tokenAccrual (t : Nat)
  /-- RINGS_COMMIT (R472): Every 600 s the Rings image is written to the other copy and the Tally page is forced. -/
  | ringsCommit (t : Nat)
  /-- ERA_MARK (R468): The low 16 bits of the era wrap and an ERA_MARK record is staged. -/
  | eraMark (t : Nat)
  /-- GATE_MISMATCH (R469): A GATE level differs from its command for 20 ns; a snapshot and GATE_MISMATCH follow. -/
  | gateMismatch (t : Nat) (b : Fin 48) (commanded : Bool) (duration : Nat)
  /-- MEMORY_CE (R30): A single-bit ECC error is corrected in place and counted. -/
  | memoryCe (t : Nat) (address : Nat)
  /-- MEMORY_UE (R30): An uncorrectable memory error is handled by the action of its region. -/
  | memoryUe (t : Nat) (address : Nat)
  /-- TRUSS_CONFIG (R213): Sets separation, lee-zone rules and enables. -/
  | trussConfig (t : Nat) (p : Packet)
  /-- TERRITORY_LOAD (R213): Loads beam territories. -/
  | territoryLoad (t : Nat) (p : Packet)
  /-- GASFLOW_SET (R207): Sets the gas-flow source, direction, speed and length. -/
  | gasflowSet (t : Nat) (p : Packet)
  /-- TRUSS_STATUS (R213): Returns holds, waits and assignments. -/
  | trussStatus (t : Nat) (p : Packet)
  /-- STICK_QUERY (R213): Returns owner and state of sticks. -/
  | stickQuery (t : Nat) (p : Packet)
  /-- PLUMB_CONFIG (R246): Writes a Plumb profile, beam, temperature-table or camera section. -/
  | plumbConfig (t : Nat) (p : Packet)
  /-- PLUMB_FEATURES (R247): Returns melt-pool features or trace entries. -/
  | plumbFeatures (t : Nat) (p : Packet)
  /-- GRAIN_MATERIAL (R272): Sets decay, conduction and G table constants, pending during a layer. -/
  | grainMaterial (t : Nat) (p : Packet)
  /-- GRAIN_READ (R273): Returns decayed Grain cells. -/
  | grainRead (t : Nat) (p : Packet)
  /-- GRAIN_CLEAR (R274): Clears the masked plane roles. -/
  | grainClear (t : Nat) (p : Packet)
  /-- SCRIBE_TABLE_WRITE (R285): Restores beams' correction tables from staging. -/
  | scribeTableWrite (t : Nat) (p : Packet)
  /-- SCRIBE_TABLE_READ (R287): Returns a piece of a beam's correction table with SCB_GEN. -/
  | scribeTableRead (t : Nat) (p : Packet)
  /-- SCRIBE_FIDUCIALS (R288): Loads fiducial entries and restarts every pass. -/
  | scribeFiducials (t : Nat) (p : Packet)
  /-- SCRIBE_PASS (R299): Requests a calibration pass of a model on beams. -/
  | scribePass (t : Nat) (p : Packet)
  /-- SCRIBE_CONFIRM (R298): Applies or rejects a held Scribe result. -/
  | scribeConfirm (t : Nat) (p : Packet)
  /-- SCRIBE_QUALITY (R299): Returns Scribe quality figures per beam. -/
  | scribeQuality (t : Nat) (p : Packet)
  /-- VENEER_LAYER_CONFIG (R326): Writes one Veneer layer's staging slot. -/
  | veneerLayerConfig (t : Nat) (p : Packet)
  /-- VENEER_COMMIT (R320): Checks and makes staged layers pending. -/
  | veneerCommit (t : Nat) (p : Packet)
  /-- VENEER_FENCE (R333): Advances or sets a host fence. -/
  | veneerFence (t : Nat) (p : Packet)
  /-- VENEER_COEFF_LOAD (R324): Copies staged scaler coefficients. -/
  | veneerCoeffLoad (t : Nat) (p : Packet)
  /-- VENEER_FRAME_READ (R330): Reads the front surface, optionally locking or unlocking it. -/
  | veneerFrameRead (t : Nat) (p : Packet)
  /-- VENEER_LIVE (R327): Sets the live-view period. -/
  | veneerLive (t : Nat) (p : Packet)
  /-- LANE_CONFIG (R369): Writes lane or rafter port settings. -/
  | laneConfig (t : Nat) (p : Packet)
  /-- LANE_BITSLIP (R343): Performs manual alignment slips on a lane. -/
  | laneBitslip (t : Nat) (p : Packet)
  /-- LANE_STATUS (R369): Returns lane and port status. -/
  | laneStatus (t : Nat) (p : Packet)
  /-- LANE_BOND (R353): Bonds or unbonds a pair of joist lanes. -/
  | laneBond (t : Nat) (p : Packet)
  /-- DISCOVERY_SCAN (R344): Starts an immediate rescan attempt on ABSENT lanes. -/
  | discoveryScan (t : Nat) (p : Packet)
  /-- HEAD_COMMAND (R352): Sends a COMMAND message to a head. -/
  | headCommand (t : Nat) (p : Packet)
  /-- TIME_GET (R395): Returns device time, OFFSET and network time. -/
  | timeGet (t : Nat) (p : Packet)
  /-- TIME_SERVO_CONFIG (R395): Writes time source, step threshold, gains and lock settings. -/
  | timeServoConfig (t : Nat) (p : Packet)
  /-- TIME_STEP (R391): Sets, adds to or applies a held step of OFFSET. -/
  | timeStep (t : Nat) (p : Packet)
  /-- PTP_CONFIG (R395): Writes IEEE 1588 settings. -/
  | ptpConfig (t : Nat) (p : Packet)
  /-- TIME_STATUS (R395): Returns servo state and counters. -/
  | timeStatus (t : Nat) (p : Packet)
  /-- PORT_CONFIG (R428): Configures a motor port. -/
  | portConfig (t : Nat) (p : Packet)
  /-- MOVE (R409): Starts or retargets an axis move. -/
  | move (t : Nat) (p : Packet)
  /-- STOP (R428): Stops an axis under its limits, aborting homing. -/
  | stop (t : Nat) (p : Packet)
  /-- HOME (R415): Starts stall homing of an axis. -/
  | home (t : Nat) (p : Packet)
  /-- LIMITS_SET (R410): Sets profile limits, effective at the next planning tick. -/
  | limitsSet (t : Nat) (p : Packet)
  /-- AXIS_STATUS (R428): Returns position and flags per axis. -/
  | axisStatus (t : Nat) (p : Packet)
  /-- POSITION_SET (R428): Restores an axis position and fixes the reference count. -/
  | positionSet (t : Nat) (p : Packet)
  /-- PASSTHROUGH_CONFIG (R424): Sets a pass-through output's source and enable. -/
  | passthroughConfig (t : Nat) (p : Packet)
  /-- LED_CONFIG (R448): Configures LED channels. -/
  | ledConfig (t : Nat) (p : Packet)
  /-- LED_STAGE (R441): Stages I_SET and DUTY of LED channels. -/
  | ledStage (t : Nat) (p : Packet)
  /-- LED_COMMIT (R441): Applies staged LED values across the chain at one time. -/
  | ledCommit (t : Nat) (p : Packet)
  /-- LED_STATUS (R448): Returns LED channel status. -/
  | ledStatus (t : Nat) (p : Packet)
  /-- ADJACENCY_TEST (R446): Starts a full adjacency test. -/
  | adjacencyTest (t : Nat) (p : Packet)
  /-- TALLY_READ (R474): Returns Tally records in index order. -/
  | tallyRead (t : Nat) (p : Packet)
  /-- TALLY_INFO (R474): Returns Tally areas, pointers and status. -/
  | tallyInfo (t : Nat) (p : Packet)
  /-- AUDIT_READ (R474): Returns audit records. -/
  | auditRead (t : Nat) (p : Packet)
  /-- RINGS_READ (R474): Returns bytes of the live or committed Rings image. -/
  | ringsRead (t : Nat) (p : Packet)
  /-- TALLY_MARK (R474): Writes a HOST_MARK record. -/
  | tallyMark (t : Nat) (p : Packet)
  /-- RINGS_CONFIG (R471): Changes a set of histogram limits. -/
  | ringsConfig (t : Nat) (p : Packet)
  /-- SEC_INFO (R488): Returns security state and slot versions. -/
  | secInfo (t : Nat) (p : Packet)
  /-- WORLD_ASSIGN (R480): Sets the block world mask. -/
  | worldAssign (t : Nat) (p : Packet)
  /-- KEY_PROVISION (R484): Programs the next OTP key slot. -/
  | keyProvision (t : Nat) (p : Packet)
  /-- UPDATE_BEGIN (R486): Opens the non-active firmware slot for writing. -/
  | updateBegin (t : Nat) (p : Packet)
  /-- UPDATE_VERIFY (R486): Checks the written image and marks the slot WRITTEN or INVALID. -/
  | updateVerify (t : Nat) (p : Packet)
  /-- UPDATE_COMMIT (R486): Marks the WRITTEN slot TRIAL and causes the update reset. -/
  | updateCommit (t : Nat) (p : Packet)
  /-- UPDATE_CONFIRM (R486): Makes the TRIAL slot ACTIVE and raises SEC_FLOOR. -/
  | updateConfirm (t : Nat) (p : Packet)
  /-- FRAME_CREATE (R110): Creates a custom frame. -/
  | frameCreate (t : Nat) (p : Packet)
  /-- FRAME_DELETE (R110): Deletes a custom frame. -/
  | frameDelete (t : Nat) (p : Packet)
  /-- FRAME_ADD (R110): Adds members to a frame. -/
  | frameAdd (t : Nat) (p : Packet)
  /-- FRAME_REMOVE (R110): Removes members from a frame. -/
  | frameRemove (t : Nat) (p : Packet)
  /-- FRAME_LIST (R110): Returns a frame's attributes and members. -/
  | frameList (t : Nat) (p : Packet)
  /-- FRAME_ATTR (R110): Sets a frame's attributes. -/
  | frameAttr (t : Nat) (p : Packet)
  /-- SCANNER_TICK (R114): At each 250 ns scanner tick the Kerf engine commits its plan, Scribe converts the target, the mortise port sends its forward frame, and on even ticks the tenon port forms m and sends its PWR frame. -/
  | scannerTick (t : Nat)
  /-- REF32_LOSS (R75): The 32.768 kHz reference goes absent, REF32_LOST is set and Sill time runs from the 25 MHz reference. -/
  | ref32Loss (t : Nat)
  /-- REF32_RESTORED (R75): The 32.768 kHz reference returns, REF32_LOST clears and Sill time runs from it again. -/
  | ref32Restored (t : Nat)
  /-- LANE_ERASED (R357): A rafter lane whose block carries an invalid sync header is erased, its payload is rebuilt from parity, and the port degrades or goes down. -/
  | laneErased (t : Nat) (port : RPort) (k : Fin 4)
  /-- BAD_OPCODE (R84): A received packet with a non-existent opcode, or the ALERT opcode, passes steps 1-8 and is answered with BAD_OPCODE. -/
  | badOpcode (t : Nat) (opcode : BitVec 16) (p : Packet)
  /-- STAGING_WRITE_COMPLETE (R464): A record's write into staging completes, its pending repeats are applied, a pre-buffer entry drains, and a LOST record with TALLY_LOST follows if events were lost. -/
  | stagingWriteComplete (t : Nat)
  /-- FEEDBACK_EDGE (R420): A filtered change on a feedback input line is accepted or rejected, moving the count, updating FB_PERIOD, or counting a quadrature or edge fault that flags the axis UNCERTAIN. -/
  | feedbackEdge (t : Nat) (f : Fin 8) (a b z stable : Bool)
  /-- CHATTER_QUIET (R418): A limit input has seen no edge for 100 ms, so a LIMIT_CHATTER fault whose ACK_PENDING was written clears. -/
  | chatterQuiet (t : Nat) (p : Fin 8) (positive : Bool)
  /-- ALM_INACTIVE (R138): The filtered laser alarm goes inactive, so the LASER_ALARM cause clears and an acknowledged beam returns to OK or DISABLED. -/
  | almInactive (t : Nat) (b : Fin 48)
  /-- RDY_ACTIVE (R130): The filtered laser ready input becomes active, clearing a LASER_NOT_READY cause and updating TN_STATUS. -/
  | rdyActive (t : Nat) (b : Fin 48)
deriving DecidableEq, Repr

end Sys2Proof
end

