-- ==== Sys2Proof/WellFormed.lean ====
section
/-! DEFINITION. Which commands are well formed: the lengths that a packet (03_tirril_packets.md R79-R83), a message (11_lanes_links.md R341) and a
conversion of the NTC inputs (14 R439) must have. -/

namespace Sys2Proof

/-- A packet whose parts have lengths that R79, R80 and R83 allow: an 8-byte path, parameters in whole words up to 8,192 bytes, and a tag of 16 bytes
exactly when SECURE is set. -/
def Packet.formed (p : Packet) : Bool :=
  p.path.length == 8 && p.params.length % 4 == 0 && decide (p.params.length ≤ 8192) && p.tag.length == (if p.flags.getLsbD 1 then 16 else 0)

/-- A rafter message carries at most 256 bytes (R359). -/
def Msg.onRafter (m : Msg) : Bool := decide (m.payload.length ≤ 256)

/-- A joist message carries at most 65,535 bytes (R341). -/
def Msg.onJoist (m : Msg) : Bool := decide (m.payload.length ≤ 65535)

/-- A well-formed command. -/
def Instr.wf (i : Instr) : Bool :=
  match i with
  | .powerOn _ _ | .porRelease _ | .brownOut _ _ | .pinReset _ | .resetNRise _ | .watchdog _ | .thermalTrip _ | .thermalRelease _ | .referenceLoss _
  | .referenceRestored _ | .wakeEvent _ _ | .wakeAlarm _ | .laserEnFall _ _ _ | .laserEnRise _ _ | .discrepancy _ | .vinWarning _ _ | .supplyDip _ _
  | .vinHigh _ _ | .vmotFault _ _ | .vledFault _ _ | .holdupLow _ _ | .tempWarning _ _ | .pauseReached _ | .layerEndMove _ | .spiWrite _ _
  | .spiRead _ _ | .spiStatus _ | .packetDiscard _ _ _ _ | .sessionTimeout _ _ | .alertRetransmit _ _ _ | .bulkTimeout _ _ | .scheduledExecute _
  | .ackPendingWrite _ _ | .refuseCauseRead _ | .vinMinRead _ | .devTimeEraRead _ | .mtConfigEnableWrite _ _ _ _ | .traceArm _ _ _ _
  | .grainWindowWrite _ _ _ _ | .layerChecked _ | .jogDone _ _ | .returnFrame _ _ _ | .returnLinkLock _ _ _ | .lockTimeout _ _
  | .attachmentCheck _ _ _ _ _ | .linkEscalation _ _ | .scannerTracking _ _ | .almActive _ _ | .rdyInactive _ _ | .rdyGraceEnd _ _ | .facetEdge _ _ _
  | .rasterLock _ _ | .rasterSyncLoss _ _ | .rasterLossLimit _ _ | .fifoRefill _ _ _ | .recordComplete _ _ | .trussRound _ | .importStale _ _
  | .waitLong _ _ | .gasStale _ | .featureWindow _ _ _ | .cameraTimeout _ _ | .excursionOpen _ _ _ | .excursionClose _ _ _ | .traceDone _ _
  | .depositMerge _ | .tilePrefetch _ _ _ | .grainQuery _ _ | .grainRoll _ | .rollEnd _ | .markScanStart _ _ | .markScanDone _ _ _ _ _ | .passFit _ _
  | .resultApply _ _ | .passTimeout _ _ | .liveBoundary _ | .layerEndBoundary _ | .compositionDone _ | .frameLockExpiry _ | .footprintDone _
  | .heatRenderDone _ | .laneSignalLost _ _ _ | .laneSignalOk _ _ | .laneAligned _ _ _ | .attemptTimeout _ _ | .backoffEnd _ _ | .discoveryRescan _
  | .time _ _ | .timeMiss _ _ | .headReplyTimeout _ _ | .align _ _ _ _ _ | .timeSyncSend _ | .controlRetry _ _ | .workerLost _ _ | .ethLinkUp _ _
  | .ethLinkDown _ _ | .arpRequest _ _ _ _ | .icmpEcho _ _ _ _ _ | .announce _ _ _ | .sync _ _ _ _ _ | .followUp _ _ _ | .delayReq _
  | .delayResp _ _ _ | .holdover _ | .offsetBroadcast _ | .offsetApply _ | .planningTick _ _ | .moveDone _ _ | .holdCurrent _ _ | .driverShort _ _
  | .homeStall _ _ | .homeDone _ _ | .limitEdge _ _ _ _ | .indexEvent _ _ _ | .encoderFault _ _ | .windowStart _ _ | .windowEnd _ _ | .ledShort _ _
  | .ledOpen _ _ | .provingPulse _ _ _ _ | .adjacencyStep _ _ _ | .pageCommit _ | .tokenAccrual _ | .ringsCommit _ | .eraMark _
  | .gateMismatch _ _ _ _ | .memoryCe _ _ | .memoryUe _ _ | .scannerTick _ | .ref32Loss _ | .ref32Restored _ | .laneErased _ _ _
  | .stagingWriteComplete _ | .feedbackEdge _ _ _ _ _ _ | .chatterQuiet _ _ _ | .almInactive _ _ | .rdyActive _ _ => true
  | .ping _ p | .sessionOpen _ p | .sessionClose _ p | .deviceInfo _ p | .statusGet _ p | .faultAck _ p | .modeSet _ p | .hold _ p | .safe _ p
  | .latchClear _ p | .reset _ p | .shutdown _ p | .scheduleList _ p | .scheduleCancel _ p | .alertMask _ p | .alertAck _ p | .regRead _ p
  | .regWrite _ p | .regModify _ p | .regReadList _ p | .regWriteList _ p | .bulkOpen _ p | .bulkData _ p | .bulkClose _ p | .bulkAbort _ p
  | .bulkStatus _ p | .bulkRead _ p | .jobBegin _ p | .jobEnd _ p | .layerDeclare _ p | .layerActivate _ p | .layerResume _ p | .layerStatus _ p
  | .layerAbort _ p | .beamEnable _ p | .beamDisable _ p | .paramSetLoad _ p | .beamStatus _ p | .laserSafetySet _ p | .scannerJog _ p
  | .trussConfig _ p | .territoryLoad _ p | .gasflowSet _ p | .trussStatus _ p | .stickQuery _ p | .plumbConfig _ p | .plumbFeatures _ p
  | .grainMaterial _ p | .grainRead _ p | .grainClear _ p | .scribeTableWrite _ p | .scribeTableRead _ p | .scribeFiducials _ p | .scribePass _ p
  | .scribeConfirm _ p | .scribeQuality _ p | .veneerLayerConfig _ p | .veneerCommit _ p | .veneerFence _ p | .veneerCoeffLoad _ p
  | .veneerFrameRead _ p | .veneerLive _ p | .laneConfig _ p | .laneBitslip _ p | .laneStatus _ p | .laneBond _ p | .discoveryScan _ p
  | .headCommand _ p | .timeGet _ p | .timeServoConfig _ p | .timeStep _ p | .ptpConfig _ p | .timeStatus _ p | .portConfig _ p | .move _ p
  | .stop _ p | .home _ p | .limitsSet _ p | .axisStatus _ p | .positionSet _ p | .passthroughConfig _ p | .ledConfig _ p | .ledStage _ p
  | .ledCommit _ p | .ledStatus _ p | .adjacencyTest _ p | .tallyRead _ p | .tallyInfo _ p | .auditRead _ p | .ringsRead _ p | .tallyMark _ p
  | .ringsConfig _ p | .secInfo _ p | .worldAssign _ p | .keyProvision _ p | .updateBegin _ p | .updateVerify _ p | .updateCommit _ p
  | .updateConfirm _ p | .frameCreate _ p | .frameDelete _ p | .frameAdd _ p | .frameRemove _ p | .frameList _ p | .frameAttr _ p | .badOpcode _ _ p
  => p.formed
  | .release _ _ m | .withdraw _ _ m | .claim _ _ m | .unclaim _ _ m | .heartbeat _ _ m | .trussResync _ _ m | .portHello _ _ m | .index _ m
  | .timeSync _ _ m | .rafterTimeEcho _ _ _ m | .control _ _ m | .controlAck _ _ m | .tirril _ _ m => m.onRafter
  | .hello _ _ m | .frameStart _ _ m | .line _ _ m | .frameEnd _ _ m | .sensor _ _ m | .reply _ _ m | .window _ _ m | .timeEcho _ _ m => m.onJoist
  | .ntcConversion _ ohms => ohms.length == 4

end Sys2Proof
end

