-- ==== Sys2Proof/Decode.lean ====
section
/-! DEFINITION. The commands that a word spells. The table gives no row bits: a packet's opcode stands in its header, which the command carries, and an
event has no encoding. -/

namespace Sys2Proof

/-- The command that `nbits` bits `w` spell: none, for no row has bits. -/
def decodeTableWord (_nbits _w : Nat) : Option Instr := none

end Sys2Proof
end

