-- ==== Sys2Proof/Machine/Bits.lean ====
section
/-! DEFINITION. Bit fields, byte order, fixed point and rounding (00_scope.md R11-R13), CRCs (03 R82, 04 R115, R124) and
the exact real arithmetic that the geometry of the later chapters needs, all structurally recursive. -/

namespace Sys2Proof.Machine

/-- Bits [lo+len-1 : lo] of a word, as a number (R11: bit 0 is the least significant). -/
def field (w : Word) (lo len : Nat) : Nat := (w.toNat / 2 ^ lo) % 2 ^ len

/-- Bit `lo` of a word. -/
def flag (w : Word) (lo : Nat) : Bool := w.getLsbD lo

/-- The word with ones in bits [lo+len-1 : lo]. -/
def maskAt (lo len : Nat) : Word := BitVec.ofNat 32 ((2 ^ len - 1) * 2 ^ lo)

/-- `w` with the field of `len` bits at `lo` holding `v`. -/
def putField (w : Word) (lo len v : Nat) : Word :=
  (w &&& ~~~(maskAt lo len)) ||| BitVec.ofNat 32 ((v % 2 ^ len) * 2 ^ lo)

/-- `w` with bit `lo` set to `b`. -/
def putFlag (w : Word) (lo : Nat) (b : Bool) : Word := putField w lo 1 (if b then 1 else 0)

/-- A Boolean as the bit value that reports it. -/
def bit (b : Bool) : Nat := if b then 1 else 0

/-- The two's complement reading of the low `n` bits of a number (R13). -/
def signed (n v : Nat) : Int :=
  if v % 2 ^ n < 2 ^ (n - 1) then (v % 2 ^ n : Nat) else (v % 2 ^ n : Nat) - (2 ^ n : Nat)

/-- The low `n` bits of an integer, as a number. -/
def unsignedOf (n : Nat) (v : Int) : Nat := (v % (2 ^ n : Nat)).toNat

/-- An integer stored in a register. -/
def wordOfInt (v : Int) : Word := BitVec.ofNat 32 (unsignedOf 32 v)

/-- The s32 that a register holds. -/
def s32 (w : Word) : Int := signed 32 w.toNat

/-- Clamp to an interval. -/
def clampInt (lo hi v : Int) : Int := if v < lo then lo else if hi < v then hi else v

/-- A 32-bit counter that saturates (R111, R145 and every 'saturating' counter). -/
def satInc (w : Word) (k : Nat) : Word := BitVec.ofNat 32 (min (w.toNat + k) 0xFFFFFFFF)

/-- The `n` little-endian bytes of a number (R12). -/
def leBytes : Nat → Nat → List Byte
  | 0, _ => []
  | n + 1, v => BitVec.ofNat 8 v :: leBytes n (v / 256)

/-- The number that little-endian bytes spell (R12). -/
def leNat : List Byte → Nat
  | [] => 0
  | b :: r => b.toNat + 256 * leNat r

/-- `n` bytes from offset `off`, read little-endian; bytes beyond the end read 0. -/
def leAt (bs : List Byte) (off n : Nat) : Nat := leNat ((bs.drop off).take n)

/-- The byte at an offset. -/
def byteAt (bs : List Byte) (off : Nat) : Nat := (bs.getD off 0).toNat

/-- A word of bytes. -/
def leWord (bs : List Byte) (off : Nat) : Word := BitVec.ofNat 32 (leAt bs off 4)

/-- An s32 read from bytes. -/
def leS32 (bs : List Byte) (off : Nat) : Int := signed 32 (leAt bs off 4)

/-- Whether the `n` bytes from `off` are all 0. -/
def zeroAt (bs : List Byte) (off n : Nat) : Bool := ((bs.drop off).take n).all (· == 0)

/-- A list padded with zero bytes to a multiple of 4 (R99). -/
def pad4 (bs : List Byte) : List Byte := bs ++ List.replicate ((4 - bs.length % 4) % 4) 0

/-- `n` elements of `f`, in order. -/
def tabulate {α : Type} (n : Nat) (f : Nat → α) : List α := (List.range n).map f

/-- The list with `f` applied at one index. -/
def updAt {α : Type} (l : List α) (i : Nat) (f : α → α) : List α := l.modify i f

/-! ## Division and rounding -/

/-- Rounding of a quotient to nearest, half away from zero (R169, R234, R281); the divisor is positive. -/
def roundHalfAway (num : Int) (den : Nat) : Int :=
  if 0 ≤ num then (2 * num + den) / (2 * den) else -((2 * (-num) + den) / (2 * den))

/-- The quotient towards zero. -/
def truncDiv (num : Int) (den : Int) : Int := Int.tdiv num den

/-- The least multiple count: the quotient rounded up; the divisor is positive. -/
def ceilDiv (a b : Nat) : Nat := if b = 0 then 0 else (a + b - 1) / b

/-- One step of the binary square root: `r` is the root of the bits read so far. -/
def isqrtGo : Nat → Nat → Nat → Nat
  | 0, _, r => r
  | k + 1, n, r =>
    let c := r + 2 ^ k
    isqrtGo k n (if c * c ≤ n then c else r)

/-- The integer square root, rounded down, of a number below 2^(2k). -/
def isqrtBits (k n : Nat) : Nat := isqrtGo k n 0

/-- The integer square root, rounded down (numbers below 2^256). -/
def isqrt (n : Nat) : Nat := isqrtBits 128 n

/-- The square root rounded up (R169). -/
def isqrtUp (n : Nat) : Nat := let r := isqrt n; if r * r = n then r else r + 1

/-! ## CRCs -/

/-- One bit of CRC-32C, processed reflected (R82): 0x82F6_3B78 is 0x1EDC_6F41 reflected. -/
def crc32cBit : Nat → Nat → Nat
  | 0, c => c
  | k + 1, c => crc32cBit k (if c % 2 = 1 then Nat.xor (c / 2) 0x82F63B78 else c / 2)

/-- CRC-32C over bytes, from a running value. -/
def crc32cGo : List Byte → Nat → Nat
  | [], c => c
  | b :: r, c => crc32cGo r (crc32cBit 8 (Nat.xor c b.toNat))

/-- CRC-32C (R82): initial value and final XOR 0xFFFF_FFFF. -/
def crc32c (bs : List Byte) : Word := BitVec.ofNat 32 (Nat.xor (crc32cGo bs 0xFFFFFFFF) 0xFFFFFFFF)

/-- A CRC of `width` bits, most significant bit first, not reflected, over the low `n` bits of `v` in descending order. -/
def crcMsb (width poly : Nat) : Nat → Nat → Nat → Nat
  | 0, _, c => c
  | n + 1, v, c =>
    let fb := ((v / 2 ^ n) % 2 + c / 2 ^ (width - 1)) % 2
    let c' := (c * 2) % 2 ^ width
    crcMsb width poly n v (if fb = 1 then Nat.xor c' poly else c')

/-- The CRC-16 of the mortise frames (R115). -/
def crc16 (n v : Nat) : Nat := crcMsb 16 0x1021 n v 0xFFFF

/-- The CRC-5 of the PWR frame (R124). -/
def crc5 (n v : Nat) : Nat := crcMsb 5 0b00101 n v 0b11111

/-! ## Real functions in fixed point

The spec's formulas use 2^x, sine, cosine, tangent, ln and exp of real numbers. The functions below give them in units of 2^-60 by
series whose remainder is far below the last place that any result keeps (log entry 30). -/

/-- The unit of the fixed-point reals: 2^60. -/
def one60 : Int := 2 ^ 60

/-- A product of fixed-point reals. -/
def mul60 (a b : Int) : Int := a * b / one60

/-- The quotient of two integers as a fixed-point real. -/
def frac60 (num den : Int) : Int := num * one60 / den

/-- A fixed-point real rounded to the nearest integer, half away from zero. -/
def round60 (a : Int) : Int := roundHalfAway a (2 ^ 60)

/-- The power series of exp at a small argument: `term` is the term reached, `k` its index. -/
def expSeries : Nat → Nat → Int → Int → Int → Int
  | 0, _, _, _, acc => acc
  | fuel + 1, k, x, term, acc =>
    let term' := mul60 term x / ((k : Int) + 1)
    expSeries fuel (k + 1) x term' (acc + term')

/-- ln 2 in units of 2^-60. -/
def ln2 : Int := 799144290325165978

/-- exp of a fixed-point real that is at most 0: exp(x) = 2^-k * exp(x + k ln 2). -/
def expNeg (x : Int) : Int :=
  let k := ((-x) / ln2).toNat
  let r := x + k * ln2
  if 200 < k then 0 else expSeries 30 0 r one60 one60 / (2 ^ k : Nat)

/-- 2^(-a/b) in units of 2^-60; b is positive. -/
def pow2Neg (a b : Nat) : Int :=
  if b = 0 then one60 else
  let k := a / b
  if 200 < k then 0 else expSeries 30 0 (-(frac60 ((a % b : Nat) : Int) b * ln2 / one60)) one60 one60 / (2 ^ k : Nat)

/-- 2^(a/b) in units of 2^-60; b is positive. -/
def pow2 (a b : Nat) : Int :=
  if b = 0 then one60 else
  expSeries 30 0 (frac60 ((a % b : Nat) : Int) b * ln2 / one60) one60 one60 * (2 ^ (a / b) : Nat)

/-- The power series of sine from the term `x^k/k!` on. -/
def sinSeries : Nat → Nat → Int → Int → Int → Int
  | 0, _, _, _, acc => acc
  | fuel + 1, k, xx, term, acc =>
    let term' := -(mul60 term xx) / (((k : Int) + 1) * ((k : Int) + 2))
    sinSeries fuel (k + 2) xx term' (acc + term')

/-- Pi in units of 2^-60. -/
def pi60 : Int := 3622009729038561421

/-- The sine of `num/den` of a full turn, in units of 2^-60. -/
def sinTurn (num : Int) (den : Nat) : Int :=
  if den = 0 then 0 else
  let r := num % (den : Int)
  let q := 4 * r / (den : Int)
  -- the angle reduced to a quarter turn
  let r' : Int := if q = 0 then r * 2 else if q = 1 ∨ q = 2 then (den : Int) - 2 * r else 2 * r - 2 * (den : Int)
  let x := r' * pi60 / (den : Int)
  sinSeries 20 1 (mul60 x x) x x

/-- The cosine of `num/den` of a full turn. -/
def cosTurn (num : Int) (den : Nat) : Int := sinTurn (4 * num + den) (4 * den)

/-- The natural logarithm of a positive quotient by halving the argument to [1/2, 1] and the atanh series. -/
def lnSeries : Nat → Nat → Int → Int → Int → Int
  | 0, _, _, _, acc => acc
  | fuel + 1, k, yy, power, acc => lnSeries fuel (k + 2) yy (mul60 power yy) (acc + power / (k : Int))

/-- ln(num/den) in units of 2^-60, for positive num and den. -/
def ln60 (num den : Nat) : Int :=
  if num = 0 ∨ den = 0 then 0 else
  let e := (num.log2 : Int) - (den.log2 : Int)
  let m := if 0 ≤ e then frac60 num ((den : Int) * (2 ^ e.toNat : Nat)) else frac60 ((num : Int) * (2 ^ (-e).toNat : Nat)) den
  let y := (m - one60) * one60 / (m + one60)
  2 * lnSeries 60 1 (mul60 y y) y 0 + e * ln2

/-- A number whose bits are given by a list, bit 0 first. -/
def maskOf (l : List Bool) : Nat := l.foldr (fun b n => bit b + 2 * n) 0

/-- The offsets of the checks that fail. -/
def badAt (l : List (Bool × Nat)) : List Nat := (l.filter (·.1)).map (·.2)

/-! ## Byte ranges, each as its first offset and its end, disjoint and rising -/

/-- A range joined to others. -/
def addRange (a z : Nat) : List (Nat × Nat) → List (Nat × Nat)
  | [] => if a < z then [(a, z)] else []
  | (x, y) :: r =>
    if z ≤ a then (x, y) :: r
    else if y < a then (x, y) :: addRange a z r
    else if z < x then (a, z) :: (x, y) :: r
    else addRange (min a x) (max z y) r

/-- A range taken out of others. -/
def cutRange (a z : Nat) (rs : List (Nat × Nat)) : List (Nat × Nat) :=
  rs.flatMap fun r => ([(r.1, min r.2 a), (max r.1 z, r.2)]).filter fun p => decide (p.1 < p.2)

/-- What is missing of [a, z). -/
def gapsFrom (a z : Nat) : List (Nat × Nat) → List (Nat × Nat)
  | [] => if a < z then [(a, z)] else []
  | (x, y) :: r => (if a < min x z then [(a, min x z)] else []) ++ gapsFrom (max a y) z r

/-- Whether ranges cover [a, z). -/
def covers (rs : List (Nat × Nat)) (a z : Nat) : Bool := (gapsFrom a z rs).isEmpty

end Sys2Proof.Machine
end

