-- ==== Sys2Proof/Machine/Sha.lean ====
section
/-! DEFINITION. SHA-256 and HMAC-SHA-256, as the tags (03 R83), the key check (16 R484) and the image digest (16 R485) use them. The constants
are computed as the standard defines them, from the roots of the first primes; the chain is kept as two runs of four words, newest first. -/

namespace Sys2Proof.Machine

open Sys2Proof

/-- The first 64 primes. -/
def primes64 : List Nat :=
  [2, 3, 5, 7, 11, 13, 17, 19, 23, 29, 31, 37, 41, 43, 47, 53, 59, 61, 67, 71, 73, 79, 83, 89, 97, 101, 103, 107, 109, 113, 127, 131,
   137, 139, 149, 151, 157, 163, 167, 173, 179, 181, 191, 193, 197, 199, 211, 223, 227, 229, 233, 239, 241, 251, 257, 263, 269, 271, 277, 281, 283, 293, 307, 311]

/-- The largest number whose `k`-th power is at most `n`, bit by bit from bit `bits - 1` down, above the root `r` found so far. -/
def powerRoot (k n : Nat) : Nat → Nat → Nat
  | 0, r => r
  | bits + 1, r => powerRoot k n bits (if (r + 2 ^ bits) ^ k ≤ n then r + 2 ^ bits else r)

/-- The first 32 bits of the fraction of the `k`-th root of a prime. -/
def rootBits (k p : Nat) : Word := BitVec.ofNat 32 (powerRoot k (p * 2 ^ (32 * k)) 40 0)

/-- The 64 constants of the rounds: cube roots. -/
def digestSteps : List Word := primes64.map (rootBits 3)

/-- The chain of a digest: the four words that the sums of the second choice enter (`lead`) and the four that follow (`tail`), newest first. -/
structure Digest where
  lead : List Word
  tail : List Word
deriving DecidableEq, Repr

/-- The chain before any byte: square roots. -/
def Digest.start : Digest :=
  let ws := (primes64.take 8).map (rootBits 2)
  ⟨ws.take 4, ws.drop 4⟩

/-- The exclusive or of three turns of a word to the right. -/
def turns (w : Word) (i j k : Nat) : Word := w.rotateRight i ^^^ w.rotateRight j ^^^ w.rotateRight k

/-- Word `i` of a run. -/
def nth (ws : List Word) (i : Nat) : Word := ws.getD i 0

/-- One round with its constant and its message word added up: a new word enters each run and its oldest leaves. -/
def Digest.step (d : Digest) (kw : Word) : Digest :=
  let x := nth d.tail 0
  let pick := nth d.tail 2 ^^^ (x &&& (nth d.tail 1 ^^^ nth d.tail 2))
  let grown := nth d.tail 3 + turns x 6 11 25 + pick + kw
  let y := nth d.lead 0
  let most := (y &&& nth d.lead 1) ||| (nth d.lead 2 &&& (y ||| nth d.lead 1))
  ⟨(grown + turns y 2 13 22 + most) :: d.lead.take 3, (nth d.lead 3 + grown) :: d.tail.take 3⟩

/-- The word that follows a window of sixteen message words, oldest first. -/
def windowNext (win : List Word) : Word :=
  let near := nth win 14
  let far := nth win 1
  nth win 0 + nth win 9 + (far.rotateRight 7 ^^^ far.rotateRight 18 ^^^ far.ushiftRight 3)
    + (near.rotateRight 17 ^^^ near.rotateRight 19 ^^^ near.ushiftRight 10)

/-- The rounds: each takes the oldest word of the window, which then moves on by one. -/
def Digest.rounds : List Word → List Word → Digest → Digest
  | [], _, d => d
  | k :: ks, win, d => Digest.rounds ks (win.drop 1 ++ [windowNext win]) (d.step (k + nth win 0))

/-- A number's four bytes, most significant first. -/
def beBytes (w : Word) : List Byte := (leBytes 4 w.toNat).reverse

/-- The sixteen words of a block of 64 bytes, each most significant byte first. -/
def blockWords (blk : List Byte) : List Word :=
  tabulate 16 fun i => BitVec.ofNat 32 (leNat ((blk.drop (4 * i)).take 4).reverse)

/-- One block joins the chain. -/
def Digest.absorb (d : Digest) (blk : List Byte) : Digest :=
  let r := Digest.rounds digestSteps (blockWords blk) d
  ⟨d.lead.zipWith (· + ·) r.lead, d.tail.zipWith (· + ·) r.tail⟩

/-- `n` blocks in turn. -/
def Digest.absorbAll : Nat → List Byte → Digest → Digest
  | 0, _, d => d
  | n + 1, bs, d => Digest.absorbAll n (bs.drop 64) (d.absorb (bs.take 64))

/-- SHA-256 of bytes: 32 bytes. The message ends in a bit 1, zeros, and its length in bits. -/
def sha256 (bs : List Byte) : List Byte :=
  let blocks := bs.length / 64 + (if bs.length % 64 < 56 then 1 else 2)
  let body := bs ++ 0x80 :: List.replicate (64 * blocks - bs.length - 9) 0
  let d := Digest.absorbAll blocks (body ++ (leBytes 8 (8 * bs.length)).reverse) Digest.start
  (d.lead ++ d.tail).flatMap beBytes

/-- HMAC-SHA-256 under a 32-byte key. -/
def hmac (key msg : List Byte) : List Byte :=
  let wide := (key ++ List.replicate 64 0).take 64
  sha256 (wide.map (· ^^^ 0x5c) ++ sha256 (wide.map (· ^^^ 0x36) ++ msg))

end Sys2Proof.Machine
end

