-- ==== Sys2Proof/Machine/Parts.lean ====
section
/-! DEFINITION. The parts of the state: the modes, safety, supply, packet front end, beam channels, engines, links, motion, light and
recorder, each as plain data. Registers that the spec gives as plain words live in the register file (`State.regs`) under their own
addresses; the parts here hold what the registers do not, or what they only report. -/

namespace Sys2Proof.Machine

/-! ## Modes, safety, supply, resets (02) -/

/-- The twelve modes, in the order of their codes 0x0-0xB (R45). -/
inductive Mode where
  | sill | boot | config | idle | calibrate | preheat | recoat | expose | pause | hold | service | update
deriving DecidableEq, Repr

/-- The MODE register's own state (R70). `transition` names the target of a move in progress; `atLayerEnd` says that the
present hold came at a layer end (R47, R181); `graceFrom` is the later of the
latest laser mode entry and latch clearing (R130), `entered` the time of the last move. -/
structure ModeCtl where
  mode        : Mode
  prev        : Mode
  transition  : Option Mode
  holdCause   : Byte
  refuseCause : Byte
  atLayerEnd  : Bool
  graceFrom   : Nat
  entered     : Nat
deriving DecidableEq, Repr

/-- How far a discrepancy lockout has come (R60): both inputs low together, then both high together. -/
inductive LockStage where
  | waitLow | waitHigh
deriving DecidableEq, Repr

/-- The two latches, the LASER_EN inputs and the discrepancy logic of the Sill domain (R59-R61, R71). `lowA`, `lowB`,
`highA`, `highB` are the device times at which an input last fell or rose. -/
structure Safety where
  laserLatch  : Bool
  bridgeLatch : Bool
  laserCause  : Nat
  bridgeCause : Nat
  enA   : Bool
  enB   : Bool
  lowA  : Nat
  lowB  : Nat
  highA : Nat
  highB : Nat
  discSince : Option Nat
  lockout   : Bool
  lockStage : LockStage
deriving DecidableEq, Repr

/-- Whether the module is without VIN, in the power-on filter, or released (R52, R54). -/
inductive PowerState where
  | off | filtering | on
deriving DecidableEq, Repr

/-- Supplies, references and resets (R52-R58, R62-R64, R72, R73): `modeAt` is the mode before the last reset, 255 where it is not
known, and `axesAt` the positions and flags of the motor ports held then (R456); `cold` marks a power-up whose start-up has not run, `closing` a SHUTDOWN whose axes
are still stopping, with its wake alarm (R69). -/
structure Power where
  power       : PowerState
  cold        : Bool
  heldPin     : Bool
  heldThermal : Bool
  heldRef     : Bool
  resetNLow   : Bool
  ref25       : Bool
  ref32       : Bool
  mgrSel      : Bool
  resetCause  : Word
  bootStatus  : Word
  wakeAlarm   : Option Nat
  dipActive   : Bool
  dipMin      : Nat
  dipStart    : Nat
  porAt       : Nat
  startupEnd  : Nat
  beamStart   : Nat
  sillFrac    : BitVec 6
  timeFrac    : BitVec 32
  modeAt      : Nat
  axesAt      : List Byte
  closing     : Option (Option Nat)
deriving DecidableEq, Repr

/-- The resume block (R65-R67, R74): bit k of `sticks` is shared stick k. -/
structure Resume where
  layer         : Word
  jobGen        : BitVec 16
  valid         : Bool
  sticksValid   : Bool
  grainCleared  : Bool
  index         : List Word
  sticks        : BitVec 16384
deriving DecidableEq, Repr

/-! ## Packets (03) -/

/-- A status code of a reply (R95). -/
inductive Status where
  | ok | okLate | badOpcode | badParam | denied | late | tooFar | busy | wrongMode | bufShort | noUnit
  | stepRefused | crc | duplicate | badVersion | badSession | authFail | incomplete | aborted
deriving DecidableEq, Repr

/-- A reply (R85, R86): the request's header fields it echoes, the time, the 16-byte result prefix and the opcode's results. -/
structure Reply where
  port     : Port
  origin   : HostAddr
  opcode   : Nat
  version  : Byte
  sequence : Word
  rpath    : List Byte
  session  : Word
  time     : Nat
  secure   : Bool
  status   : Status
  cause    : Nat
  value    : Nat
  path     : List Byte
  body     : List Byte
deriving DecidableEq, Repr

/-- An alert waiting in a session's queue (R99, R100). -/
structure Alert where
  seq      : Nat
  code     : Nat
  severity : Nat
  tally    : Word
  path     : List Byte
  time     : Nat
  payload  : List Byte
  sentAt   : Nat
  resent   : Nat
deriving DecidableEq, Repr

/-- One sequence number that a session has seen: its number, the port and the source of the copy to answer, the bytes of its reply while they
are cached, and whether a worker's reply is still awaited (R77, R89, R90, R363). -/
structure Seen where
  seq   : Word
  port  : Port
  origin : HostAddr
  reply : Option (List Byte)
  waits : Bool
deriving DecidableEq, Repr

/-- An open session (R87-R90, R100). -/
structure Session where
  slot      : Fin 8
  id        : Word
  client    : Word
  dual      : Bool
  jumbo     : Bool
  timeout   : Nat
  highest   : Option Word
  seen      : List Seen
  alertMask : BitVec 16
  alertSeq  : Nat
  alerts    : List Alert
  lostNow   : Nat
  addr0     : Option HostAddr
  addr1     : Option HostAddr
  lastPort  : Port
  lastAddr  : HostAddr
  lastAt    : Nat
deriving DecidableEq, Repr

/-- A scheduled command (R93, R94): its execute-at time, its packet and the world judged at acceptance (R480). -/
structure Sched where
  due     : Nat
  opcode  : Nat
  packet  : Packet
  secure  : Bool
  client  : Word
deriving DecidableEq, Repr

/-- A bulk transfer (R106-R108). `got` are the byte ranges received, as first offset and end. -/
structure Transfer where
  id      : Nat
  session : Word
  kind    : Nat
  offset  : Nat
  length  : Nat
  crc     : Word
  got     : List (Nat × Nat)
  secure  : Bool
  lastAt  : Nat
deriving DecidableEq, Repr

/-- A member of a custom frame: a leaf, or another custom frame by its number in the frame table, or a default frame. -/
inductive Member where
  | leaf (u : Leaf)
  | frame (id : Nat)
  | dflt (level1 : Fin 6)
deriving DecidableEq, Repr

/-- A custom frame (R37, R110). `level1` is its index under the root when it was created there; the members carry their indices. -/
structure Frame where
  id      : Nat
  level1  : Option Nat
  attrs   : Byte
  members : List (Nat × Member)
deriving DecidableEq, Repr

/-- The packet front end beyond its registers. `asked` names who sent the packets of session 0 that await a
worker's reply, `spiOut` holds the outgoing packets; a worker keeps in `remote` the manager's sessions with their clients and whether each has
JUMBO_REPLIES, in `accepted` when the manager accepted a packet of a session and sequence number (R92), in `replied` its replies to the manager's packets
(R89), and in `moves` the times and targets of the moves that the manager has scheduled (R46, R94, log entry 25); `fanned` are the leaves
that a fanned-out command last set in motion (R38); `stage` and `coefs` are the staging areas of bulk kinds 0x03 and 0x06, with the byte ranges that closed transfers
wrote, and `areaOk` those ranges of DRAM for kinds 0x01 and 0x02 (R106, R108). -/
structure Front where
  sessions  : List Session
  sched     : List Sched
  transfers : List Transfer
  nextXfer  : Nat
  frames    : List Frame
  nextFrame : Nat
  asked     : List (Nat × Word × Port × HostAddr)
  remote    : List (Word × Word × Bool)
  accepted  : List (Word × Word × Nat × Nat)
  replied   : List (Word × Word × List Byte)
  moves     : List (Nat × Nat)
  fanned    : List Leaf
  spiOut    : List (List Byte)
  stageOk   : List (Nat × Nat)
  stage     : List Host.Cell
  coefOk    : List (Nat × Nat)
  coefs     : List Host.Cell
  areaOk    : List (Nat × Nat)
deriving DecidableEq, Repr

/-! ## Outputs -/

/-- A stripe (R355): whether its sync headers name control blocks, and the eight bytes of the block on each of lanes 0 to 3. -/
structure Stripe where
  control : Bool
  blocks  : List (List Byte)
deriving DecidableEq, Repr

/-- What leaves the block at its balls while one command is carried out. -/
inductive Out where
  /-- A datagram with its UDP checksum (R77). -/
  | packet (port : Port) (dest : HostAddr) (sum : BitVec 16) (bytes : List Byte)
  | mortise (b : Fin 48) (frame : BitVec 100)
  | pwr (b : Fin 48) (bits : BitVec 22)
  | gateEdge (b : Fin 48) (time : Nat) (level : Bool)
  | aout (b : Fin 48) (word : BitVec 16)
  | joist (n : Fin 16) (type : Byte) (m : Msg)
  /-- A message with the stripes that carry it over the four lanes (R355). -/
  | rafter (p : RPort) (type : Byte) (m : Msg) (stripes : List Stripe)
  | arp (n : Fin 2) (dest : HostAddr)
  | icmp (n : Fin 2) (dest : HostAddr) (data : List Byte)
  | igmp (n : Fin 2)
  | delayReq (n : Fin 2) (seqId : BitVec 16) (stamp : Int)
  | spi (bytes : List Byte)
  | wakeOut
deriving DecidableEq, Repr

/-! ## Layers and Kerf (05) -/

/-- The states of the active half, in the order of their codes (R152, R184). -/
inductive ActState where
  | none | ready | preheating | running | paused | held | complete | abandoned
deriving DecidableEq, Repr

/-- The states of the inactive half (R152, R184). -/
inductive InState where
  | empty | checking | valid | invalid
deriving DecidableEq, Repr

/-- A beam's entry of the beam directory (R154) and what the check recorded of its records (R162). -/
structure BeamDir where
  mainOff   : Nat
  mainCount : Nat
  preOff    : Nat
  preCount  : Nat
  psets     : List Nat
  raster    : Bool
  vector    : Bool
deriving DecidableEq, Repr

/-- What the device holds of a checked package (R153-R155, R162). -/
structure Pkg where
  nextIdle   : Bool
  hasPreheat : Bool
  layer      : Word
  jobGen     : BitVec 16
  length     : Nat
  stickCount : Nat
  stickDir   : Nat
  rasterOff  : Nat
  rasterLen  : Nat
  beamMask   : BitVec 48
  beams      : List BeamDir
deriving DecidableEq, Repr

/-- The states of a shared stick (R201). -/
inductive StickState where
  | free | granted | running | done | uncovered
deriving DecidableEq, Repr

/-- A shared stick of the active layer (R155, R201). `lastIn` is the record within it that completed last. -/
structure Stick where
  state    : StickState
  owner    : Option (Fin 48)
  off      : Nat
  count    : Nat
  eligible : BitVec 48
  grants   : Nat
deriving DecidableEq, Repr

/-- The layer machinery of the device (R152, R164, R166, R181). `starts` counts layer starts since reset (R294). -/
structure Layers where
  halfB      : Bool
  active     : ActState
  inactive   : InState
  activePkg  : Option Pkg
  inactPkg   : Option Pkg
  jobOpen    : Bool
  jobGen     : BitVec 16
  lastGen    : Option (BitVec 16)
  layerStart : Nat
  mainBegun  : Bool
  resumed    : Bool
  preDone    : Bool
  sticks     : List Stick
  uncovered  : List (Fin 48)
  mainUncov  : Bool
  layersDone : List Nat
  sentDone   : Bool
  starts     : Nat
deriving DecidableEq, Repr

/-- The states of a Kerf engine, in the order of their codes (R187). -/
inductive Engine where
  | off | ready | running | window | stick | draining | done | stopped | failed
deriving DecidableEq, Repr

/-- A point in bed units (R14). -/
structure Pt where
  x : Int
  y : Int
  z : Int
deriving DecidableEq, Repr

/-- An exposure record (R156, R158), with its args as the sixteen bytes that they are. -/
structure Rec where
  type  : Byte
  flags : Byte
  pset  : Byte
  sub   : Byte
  stop  : Pt
  args  : List Byte
deriving DecidableEq, Repr

/-- Where a record lies: in the beam's main stream, its preheat stream or a shared stick; or what a Scribe mark scan plans. -/
inductive Place where
  | main (i : Nat)
  | pre (i : Nat)
  | stick (k i : Nat)
  | scan
deriving DecidableEq, Repr

/-- A stretch of the plan over whole ticks: the target moves from `p` to `q` in `n` ticks after bed tick `t0`, each tick's target
as R169 rounds it; a hold has p = q. `wob` is 0 for a straight motion, 1 a circle, 2 a figure-eight of R173. A stop ends the stretch after
`cut` of its ticks. -/
structure Seg where
  t0   : Nat
  n    : Nat
  p    : Pt
  q    : Pt
  wob  : Nat
  amp  : Nat
  freq : Nat
  cut  : Nat
deriving DecidableEq, Repr

/-- A gate interval in bed time, ns (R171), with what the power word, the windows and the camera
need of its record: power, set, profile, place and path direction. -/
structure GateIv where
  start   : Nat
  stop    : Nat
  power   : Nat
  pset    : Nat
  profile : Nat
  noFF    : Bool
  place   : Place
  dx      : Int
  dy      : Int
deriving DecidableEq, Repr

/-- An exposing piece (R191): from `p` to `q` over [t0, t1] ns, widened by `e` bed units; a capsule covers all of the way from `p` to `q` during
the whole time. -/
structure Piece where
  t0 : Nat
  t1 : Nat
  px : Int
  py : Int
  qx : Int
  qy : Int
  e  : Nat
  capsule : Bool
deriving DecidableEq, Repr

/-- A released record with its plan (R195, R196): `begins` is the bed time at which a raster line starts and else the record's start, `endPt` where
the beam then is and `rawEnd` the end point as the record gives it. The `from` fields are the engine's state before the release, which a withdrawal
restores. -/
structure Rel where
  place    : Place
  record   : Rec
  start    : Nat
  begins   : Nat
  complete : Nat
  segs     : List Seg
  gates    : List GateIv
  pieces   : List Piece
  round    : Nat
  endPt    : Pt
  rawEnd   : Pt
  clamped  : Nat
  fromPt   : Pt
  fromRaw  : Pt
  fromDone : Nat
  fromChain : Bool
deriving DecidableEq, Repr

/-- The rules that refuse a candidate (R214). -/
inductive Rule where
  | sep | lee | claim | full
deriving DecidableEq, Repr

/-- A Kerf engine with its place in Truss (R167-R182, R195, R202). `fifo` holds fetched records not yet released, `next` is the
index of the first of them in its stream, `queue` the fetched records of the stick that it holds; `pos` is the point last planned and `raw` the end point that
the motion record planned last gives (they differ by a run-in or a run-out, R176), both without a focus offset. `planned` are the gate intervals
as R171 gives them and `gates` what R128 leaves of them; `past` the pieces of completed records that the lee rule still needs (R193); `failAt` the time of the failure
whose notice Truss awaits. -/
structure Kerf where
  engine    : Engine
  held      : Bool
  starved   : Bool
  preheat   : Bool
  fifo      : List Rec
  next      : Nat
  rels      : List Rel
  queue     : List Rec
  frontier  : Nat
  pos       : Pt
  raw       : Pt
  planned   : List GateIv
  gates     : List GateIv
  past      : List Piece
  wantStick : Bool
  taken     : Nat
  limit     : Nat
  stick     : Option (Nat × Nat)
  failed    : Bool
  failIndex : Word
  failAt    : Nat
  notice    : Bool
  waitSince : Option Nat
  lastRule  : Option Rule
  blocker   : Nat
  refusals  : Nat
  sticks    : Nat
  waitSent  : Bool
  tagSentAt : Option Nat
  tagMerged : Nat
  starveSet : Bool
  coast     : List Seg
  chain     : Bool
  stickDone : Nat
  preDone   : Bool
  onNs      : Nat
deriving DecidableEq, Repr

/-- Truss beyond its registers (R198, R199): the token holder, or where the next search starts when `free`; the round in which the
holder took it; the pieces of the claim as exported; and the sample time of the head value for which GAS_STALE was sent. -/
structure Truss where
  token      : Nat
  free       : Bool
  claimRound : Nat
  claimOut   : List Piece
  gasSent    : Option Nat
deriving DecidableEq, Repr

/-! ## Beam ports (04) -/

/-- The causes of a beam failure in the order of R133. -/
inductive FailCause where
  | laserAlarm | scannerFault | scannerLink | scannerTracking | scribeTable | laserNotReady | rasterSync | hostDisabled
deriving DecidableEq, Repr

/-- Causes that hold a beam in DEGRADED (R118, R242, R30). -/
inductive DegCause where
  | scannerTemp | cameraLost | grainInvalid
deriving DecidableEq, Repr

/-- Raster sync of one beam (R136, R137): `periods` are the last eight periods of each facet in ns, newest first; `waitZero` holds lines back
after a regained lock until the next facet 0. -/
structure Raster where
  locked    : Bool
  goodRun   : Nat
  badRun    : Nat
  misplaced : Bool
  facet     : Nat
  lastStamp : Nat
  periods   : List (List Nat)
  lostAt    : Option Nat
  waitZero  : Bool
deriving DecidableEq, Repr

/-- The mortise and tenon ports of one beam (R114-R137). `targets` are the field-unit targets sent last, newest first, and `hold` the one
sent while no plan moves the beam; `haveSet` has a bit for each axis whose actual position has come since lock, and is 8 once POS
frames have begun; `startAt` is the domain start from which the lock time runs; `nacks` and `invalids` are the times of those frames;
`words` the power words sent with their frame times, newest first; the lags are those in force (R129); `failedAt` is the BEAM cycle of the beam's last
failure (R133). -/
structure Chan where
  seq       : BitVec 4
  running   : Bool
  targets   : List (Int × Int × Int)
  hold      : Int × Int × Int
  idleLeft  : Nat
  selNext   : Nat
  goodRun   : Nat
  badRun    : Nat
  nackRun   : Nat
  nacks     : List Nat
  invalids  : List Nat
  trackX    : Nat
  trackY    : Nat
  trackZ    : Nat
  haveSet   : Nat
  lockedAt  : Nat
  startAt   : Option Nat
  linkSeen  : Bool
  rdySeen   : Bool
  repairs   : Nat
  repairAt  : Option Nat
  fails     : List FailCause
  degs      : List DegCause
  jog       : Option (Int × Int × Int × Nat)
  scanLag   : Nat
  gateLag   : Nat
  pwrLag    : Nat
  words     : List (Nat × Nat)
  failedAt  : Option Nat
deriving DecidableEq, Repr

/-! ## Plumb (07) -/

/-- An open excursion event (R239): `last` is the stamp of its last qualifying test, and `frames` says that the tests are camera frames. -/
structure ExcOpen where
  profile : Nat
  start   : Nat
  windows : Nat
  extreme : Nat
  place   : Place
  x       : Int
  y       : Int
  last    : Nat
  frames  : Bool
deriving DecidableEq, Repr

/-- The run counts and the open event of one excursion kind. -/
structure Exc where
  runIn   : Nat
  runOut  : Nat
  first   : ExcOpen
  opened  : Option ExcOpen
deriving DecidableEq, Repr

/-- A camera path of a beam (R226-R229, R241-R243): `inUse` and `lane` are ENABLE and LANE as they are in force, `recent` the last frames' validity and badness, newest
first, `lastGood` the last valid frame, and `back` says that 64 valid frames in a row have come since the loss. -/
structure Cam where
  inUse      : Bool
  lane       : Nat
  lost       : Bool
  halfRate   : Bool
  validRun   : Nat
  recent     : List (Bool × Bool)
  stamps     : List Nat
  lastGood   : Option Nat
  back       : Bool
  area       : Nat
  length     : Nat
  centX      : Int
  centY      : Int
  lastValid  : Bool
  noPool     : Bool
  lossWaits  : Option Nat
deriving DecidableEq, Repr

/-- What an update changed, for a beam failure in the same BEAM cycle that discards it (R244): the device time of the update and the values before it. -/
structure Undo where
  time    : Nat
  integ   : List Int
  f       : Nat
  trace   : List (List Byte)
  updates : BitVec 32
  lastUpd : List (Nat × Nat)
deriving DecidableEq, Repr

/-- A Plumb controller (R223-R245). `f`, `m`, `g`, `mff` are u2.14, `fOut` the f of the last frame; the integrators are s2.30. `lastUpd` is the time of each
profile's latest update (R228), `undo` the latest update of the beam, and `ceilings` the writes of PL_CEILING of the last microsecond, newest first: device time and the value
before it. -/
structure Plumb where
  integ     : List Int
  f         : Nat
  fOut      : Nat
  m         : Nat
  g         : Nat
  mff       : Nat
  profile   : Nat
  fallback  : Bool
  noFb      : Bool
  frozen    : Bool
  window    : Nat
  sat0      : Bool
  sat1      : Bool
  tempValid : Bool
  int0      : Nat
  int1      : Nat
  int0f     : Nat
  int1f     : Nat
  ratio     : Nat
  temp      : Nat
  tempf     : Nat
  windowNs  : Nat
  high      : Bool
  low       : Bool
  backrefl  : Bool
  dark0     : List Int
  dark1     : List Int
  clampHi   : Bool
  clampLo   : Bool
  exc       : List Exc
  excRecs   : Nat
  excAt     : Option Nat
  excMerged : Nat
  trace     : List (List Byte)
  tracing   : Bool
  cam       : Cam
  pendProf  : List (Nat × List Word)
  lastUpd   : List (Nat × Nat)
  undo      : Option Undo
  ceilings  : List (Nat × Nat)
deriving DecidableEq, Repr

/-! ## Grain (08) -/

/-- A deposit that is not yet merged (R261, R262), in E_LSB units; `key` names the imported piece it comes from: device, beam, round. -/
structure Deposit where
  beam  : Option (Fin 48)
  cx    : Nat
  cy    : Nat
  units : Nat
  time  : Nat
  key   : Option (Nat × Nat × Nat)
deriving DecidableEq, Repr

/-- A cached tile column (R269): for each of the four planes, P0 first, the nonzero bytes of the tile at 0-2047 and of its
directory entry at 2048-2055; when the P0 copy was taken, when it was last queried, and whether a merge wrote the tile since. -/
structure Column where
  tile    : Nat
  planes  : List (List Host.Cell)
  taken   : Nat
  queried : Nat
  stale   : Bool
deriving DecidableEq, Repr

/-- A query result (R266): the tick it serves, as an offset in a record's plan, or as the bed tick for a held tick; its time and the
weighted sums of the four planes in units of 2^-32. -/
structure Query where
  place   : Option Place
  off     : Nat
  tq      : Nat
  sums    : List Nat
  invalid : Bool
  outside : Bool
deriving DecidableEq, Repr

/-- The Grain map engine beyond its registers (R261-R271). `carry` holds each beam's remainder as a numerator over the denominator of
R261; `columns` and `queries` have one list for each beam; `rollLayer` is the number of the layer whose roll is due; `whole`
says that the roll that is due or runs follows a layer that became COMPLETE; `traffic` is what the map moved in the last 10 ms, newest first: device time, bytes and
whether the roll pass moved them (R270). -/
structure Grain where
  carry    : List (Nat × Nat)
  deposits : List Deposit
  columns  : List (List Column)
  queries  : List (List Query)
  tRoll    : Nat
  pendRoll : Bool
  rollLayer : Nat
  pendMat  : List (Nat × Word)
  rolling  : Bool
  leadMin  : Option Nat
  whole    : Bool
  traffic  : List (Nat × Nat × Bool)
deriving DecidableEq, Repr

/-! ## Scribe (09) -/

/-- The state of a live table (R284). -/
inductive TableState where
  | notLoaded | loaded | restoreNeeded
deriving DecidableEq, Repr

/-- One attempt at a fiducial (R292, R306): its outcome, the error r at the mark in bed units and its device time. -/
structure Meas where
  valid : Bool
  cause : Nat
  ex    : Rat
  ey    : Rat
  time  : Nat
deriving DecidableEq, Repr

/-- A pass of one beam (R294): `layers` counts layer starts since the request. -/
structure Pass where
  model  : Nat
  hold   : Bool
  layers : Nat
deriving DecidableEq, Repr

/-- A mark scan in progress (R290, R291): its end by the plan, whether the laser was ready at its start, the bed times of its lines, the sum and the number of the corrected
AIN1 samples of each point, by line and interval, whether one of them saturated, and whether the recoater axis has covered the mark. -/
structure Scan where
  fid     : Fin 256
  started : Nat
  ends    : Nat
  ready   : Bool
  lines   : Nat
  points  : Nat
  spans   : List (Nat × Nat)
  sums    : List ((Nat × Nat) × Int × Nat)
  sat     : Bool
  met     : Bool
deriving DecidableEq, Repr

/-- A fitted result that is held or waits (R295-R298): its figures, the time of the last valid measurement, the affine part about the
mean mark, the local field's spread and marks with their errors, and the post-fit residuals by fiducial with their times. -/
structure FitResult where
  id    : Word
  model : Nat
  n     : Nat
  rms   : Nat
  max   : Nat
  drms  : Nat
  dmax  : Nat
  last  : Nat
  fitAt : Nat
  wait  : Bool
  spread : Nat
  res   : List (Nat × Rat × Rat × Nat)
  tx    : Rat
  ty    : Rat
  axx   : Rat
  axy   : Rat
  ayx   : Rat
  ayy   : Rat
  mx    : Rat
  my    : Rat
  marks : List (Int × Int × Rat × Rat)
deriving DecidableEq, Repr

/-- The Scribe state of one beam. `resid` are the applied pass's post-fit residuals at fiducials with their times, `fitAt` the time of
its fit (R300). -/
structure Scribe where
  table   : TableState
  pass    : Option Pass
  scan    : Option Scan
  meas    : List (Nat × Meas)
  result  : Option FitResult
  cause   : Nat
  resid   : List (Nat × Rat × Rat × Nat)
  fitAt   : Nat
  invAt   : Option Nat
  invMerged : Nat
deriving DecidableEq, Repr

/-! ## Veneer (10) -/

/-- A composition (R329): its boundary's kind (1 layer end, 2 live), its start, the layers that held, and once it has ended its time in
us and its INVALID tiles. -/
structure Compose where
  kind    : Nat
  started : Nat
  held    : BitVec 16
  took    : Nat
  bad     : Nat
deriving DecidableEq, Repr

/-- A producer's ring (R315): the surface completed last, the one being written, and the one completed last before the instant of the latest advance (R332). -/
structure Ring where
  last    : Option Nat
  writing : Option Nat
  before  : Option Nat
deriving DecidableEq, Repr

/-- The compositor beyond its registers. Layers are held as their 64 configuration bytes (R319), `current` by number, `pend` and `staged`
where there is one; `shown` is the surface that each STREAM layer shows, `flipFence` the fence value when a layer last flipped,
`fencePrev` each fence's value before its latest advance with that time (R314); `endSince` holds the layer ends whose boundaries are
still due, with the fence values then, `endWaits` how many layer-end boundaries wait for a running composition, `endAt` the last layer-end boundary and `liveAt` the last live one. -/
structure Veneer where
  current   : List (List Byte)
  pend      : List (Option (List Byte))
  staged    : List (Option (List Byte))
  flipFence : List Word
  shown     : List (Option Nat)
  fencePrev : List (Word × Nat)
  groupHeld : List Nat
  coeffs    : List (List Byte)
  pendCoeff : List (Option (List Byte))
  rings     : List Ring
  compose   : Option Compose
  swapWait  : Option Compose
  lockUntil : Option Nat
  nextLive  : Nat
  endSince  : List (Nat × List Word)
  endWaits  : Nat
  endAt     : Option Nat
  liveAt    : Option Nat
  footprint : List Piece
  heatStart : Nat
deriving DecidableEq, Repr

/-! ## Lanes and links (11) -/

/-- The link states of a lane, in the order of their codes (R342). -/
inductive Link where
  | disabled | absent | signal | align | hello | up | backoff
deriving DecidableEq, Repr

/-- One lane's training (R340-R344): `since` is when its attempt, its time limit or its backoff began, `fails` the failed attempts of
the series, `rescan` marks a single attempt; `lostAt` is set while a loss of UP has neither retrained nor ended in ABSENT. -/
structure LaneSt where
  link    : Link
  since   : Nat
  los     : Bool
  lol     : Bool
  syncOk  : Bool
  slip    : Nat
  fails   : Nat
  rescan  : Bool
  everUp  : Bool
  lostAt  : Option Nat
  attempts : Nat
  manualDone : Bool
deriving DecidableEq, Repr

/-- A camera frame being received (R349). -/
structure RxFrame where
  num    : Word
  width  : Nat
  height : Nat
  bits   : Nat
  lines  : List (Nat × List Byte)
  bad    : Bool
deriving DecidableEq, Repr

/-- An exposure window announced by a camera (R350, R438). -/
structure Win where
  start : Nat
  dur   : Nat
  num   : Word
  running : Bool
deriving DecidableEq, Repr

/-- A joist lane (R346-R353): the next seq number of each type, and the outstanding command's tag, time and whether its REPLY is lost (R346). -/
structure Joist where
  lane    : LaneSt
  head    : List Byte
  bonded  : Bool
  half    : Bool
  seqOut  : List (Nat × Nat)
  timeAt  : List (Nat × Nat)
  echoAt  : Nat
  command : Option (BitVec 16 × Nat × Bool)
  frame   : Option RxFrame
  windows : List Win
  sensors : List (Nat × Nat × Nat)
deriving DecidableEq, Repr

/-- The states of a rafter port (R374). -/
inductive PortSt where
  | disabled | absent | training | up | degraded | down
deriving DecidableEq, Repr

/-- A CONTROL message that waits for its acknowledgement (R361). -/
structure Ctl where
  m      : Msg
  sentAt : Nat
deriving DecidableEq, Repr

/-- What a partner told in PORT_HELLO (R360); `via` is the device whose downstream neighbour it is. -/
structure Partner where
  deviceId : Word
  manager  : Bool
  index    : Option Nat
  time     : Nat
  via      : Nat
deriving DecidableEq, Repr

/-- An imported piece or claim of a remote beam (R209-R211). -/
structure Import where
  device : Nat
  beam   : Nat
  round  : Nat
  claim  : Bool
  piece  : Piece
  endless : Bool
  arrived : Nat
deriving DecidableEq, Repr

/-- A rafter port (R354-R363): the lanes in the stripe, when each was last erased, whether each lane's headers have been clean since an ALIGN, the TIME_SYNC numbers
sent by lane with their times, the next seq number of each type, the CONTROL messages not yet acknowledged and the numbers of those received last, the segments received of
Tirril packets by source, and of each lane the time and the stripe counter of its last ALIGN block (R356). -/
structure Rafter where
  lanes    : List LaneSt
  inStripe : List Bool
  erasedAt : List Nat
  clean    : List Bool
  port     : PortSt
  aligns   : List (Nat × Nat)
  partner  : Option Partner
  timeAt   : List (Nat × Byte × Nat)
  trussSeq : Option Byte
  seqOut   : List (Nat × Nat)
  controls : List Ctl
  ctlSeen  : List Byte
  segs     : List (Nat × List Byte)
  inMsgs   : List Import
  lastMsg  : Nat
  stale    : Bool
  resync   : Bool
deriving DecidableEq, Repr

/-- The chain (R34, R354, R364-R367). `members` are the admitted workers' indices and DEVICE_IDs, `places` the device upstream of each, `forming` says that
the chain's end has not been found since start-up step 7, `modes` and `layers` what the workers
last reported, `layerDone` the devices whose layer is done, `restart` the workers refused until the chain restarts. -/
structure Chain where
  index    : Nat
  manager  : Bool
  count    : Nat
  members  : List (Nat × Word)
  places   : List (Nat × Nat)
  forming  : Bool
  present  : BitVec 16
  lost     : BitVec 16
  waiting  : List Partner
  modes    : List (Nat × Nat)
  layers   : List (Nat × Nat × Nat)
  layerDone : List Nat
  restart  : List Nat
deriving DecidableEq, Repr

/-! ## Network time (12) -/

/-- The servo states, in the order of their codes (R388). -/
inductive Servo where
  | disabled | listening | acquiring | tracking | locked | holdover | stepHeld | host
deriving DecidableEq, Repr

/-- What PTP knows at one port (R384, R385): the best Announce and when it came, and when each master that is heard there last sent one. -/
structure PtpPort where
  best   : Option Announce
  since  : Nat
  heard  : List (BitVec 80 × Nat)
deriving DecidableEq, Repr

/-- The time unit beyond its registers (R381-R392). `iTerm` is the servo's integrator in units of 2^-16 ppb, `chosen` the identity of the master
chosen last, `lastT2` the times t1 and t2 of the last Sync that is complete, `sync` the sequence number, t2 and interval of a two-step one that waits for its Follow_Up. -/
structure TimeUnit where
  offset    : Int
  valid     : Bool
  pending   : Option Int
  rateAdj   : Int
  iTerm     : Int
  servo     : Servo
  lockRun   : Nat
  lastErr   : Int
  pathDelay : Option Int
  delays    : Nat
  ptpPort   : Option (Fin 2)
  chosen    : Option (BitVec 64)
  ports     : List PtpPort
  reqId     : BitVec 16
  reqAt     : Option (BitVec 16 × Int)
  lastT2    : Option (Int × Int)
  sync      : Option (BitVec 16 × Int × Int)
  apply     : Option (Nat × Int)
  linkUp0   : Bool
  linkUp1   : Bool
  everUp0   : Bool
  everUp1   : Bool
deriving DecidableEq, Repr

/-! ## Motion (13) -/

/-- What an axis is doing (R408, R415, R417). -/
inductive Motion where
  | rest | position | velocity | stopping | homing | backoff
deriving DecidableEq, Repr

/-- Why an axis stops, so that its end reports it (R417, R426, R429). -/
inductive StopWhy where
  | none | host | mode | latch | limitBefore | noStall | skew | aborted
deriving DecidableEq, Repr

/-- A motor port's axis (R403-R418). The plan's position, velocity and acceleration are exact: `p` in units of 10^-15/6 PU, `v` in
units of 10^-10/2 PU/s, `a` in units of 10^-5 PU/s² (log entry 31). `landing` marks the last deceleration onto the target, `newLims` holds the
limits in force until the next planning tick, `oldDmax` a DMAX kept under R410; `encBase` and `fbBase` are the position and count at the
last HOMED or POSITION_SET; `stallAt` and `faultAt` are the times of the last homing stall and of the last fault; `homeWhy` is the status with which a homing that is being stopped will end. -/
structure Axis where
  p        : Int
  v        : Int
  a        : Int
  target   : Int
  motion   : Motion
  why      : StopWhy
  landing  : Bool
  atTarget : Bool
  homed    : Bool
  uncertain : Bool
  oversh   : Bool
  oldDmax  : Option Nat
  newLims  : Option (Nat × Nat × Nat × Nat)
  limN     : Bool
  limP     : Bool
  edgesN   : List Nat
  edgesP   : List Nat
  restAt   : Option Nat
  holding  : Bool
  gatesOff : Bool
  homeFrom : Int
  stalled  : Bool
  stallAt  : Nat
  faults   : List Nat
  faultAt  : Nat
  iInt     : Int
  iRef     : Int
  encBase  : Int
  fbBase   : Int
  homeWhy  : Option Nat
deriving DecidableEq, Repr

/-- A feedback input (R419-R422): its lines, its latest count edge and direction, the latest intervals between teeth, the errors of this revolution and
the count at which it began, and the reference count, or that the next event fixes it. -/
structure Feed where
  a        : Bool
  b        : Bool
  z        : Bool
  lastEdge : Option Nat
  dir      : Int
  teeth    : List Nat
  errs     : Nat
  revFrom  : Int
  ref      : Option Int
  refArmed : Bool
deriving DecidableEq, Repr

/-! ## Light (14) -/

/-- An LED channel beyond its registers (R435-R446): I_SET in mA and DUTY in force, staged (and when), and deferred to a window's end; the start of its
latest PWM period; the tests it has passed; its latest proving pulse; and comp(T) * derate(T) in units of 10^-13. -/
structure Led where
  level    : Nat × Nat
  staged   : Option (Nat × Nat)
  stagedAt : Nat
  stagedOld : Option (Nat × Nat)
  deferred : Option (Nat × Nat)
  pwmStart : Nat
  adjOk    : Bool
  openOk   : Bool
  provedAt : Nat
  factor   : Int
  faults   : List Nat
deriving DecidableEq, Repr

/-- The lights frame (R439-R446): an adjacency test's steps still to come and the shorts it has found, which NTC inputs have failed, and
commits that wait for their time, with their identifiers. -/
structure Lights where
  leds     : List Led
  testing  : List Nat
  found    : Nat
  failed   : List Bool
  commits  : List (Nat × Nat)
deriving DecidableEq, Repr

/-! ## Tally and Rings (15) -/

/-- A record (R455-R463): its index, type and the whole bytes from offset 8; `time` is the header's device time. -/
structure TRec where
  index : Nat
  type  : Nat
  time  : Nat
  body  : List Byte
  last  : Nat
deriving DecidableEq, Repr

/-- A committed page (R453). `copies` says which of its two copies are good. -/
structure Page where
  kind     : Nat
  seq      : Nat
  first    : Nat
  eraFloor : Nat
  era      : Nat
  recs     : List TRec
  copies   : Bool × Bool
deriving DecidableEq, Repr

/-- The Rings image (R470). -/
structure Rings where
  seq      : Nat
  commitAt : Nat
  powerUps : Nat
  hubSecs  : Nat
  resets   : Nat
  layers   : Nat
  gateOn   : List Nat
  travel   : List Nat
  excHist  : List (List Nat)
  hists    : List (List Nat)
  losses   : List Nat
  stalls   : List Nat
  homings  : List Nat
  limits   : List (List Int)
deriving DecidableEq, Repr

/-- The recorder (R452-R472). `pageFail` counts bad copies since the last reset, `retired` the pool pages in use (R454, R477). `writing` is the record being written into staging, `pre` the pre-buffer, `staged` the records of
staging in index order; `circ` and `firstArea` are the committed pages, oldest first. -/
structure Tally where
  next      : Nat
  pageSeq   : Nat
  writing   : Option TRec
  pre       : List TRec
  staged    : List TRec
  lostNow   : Nat
  lostFrom  : Nat
  lostTo    : Nat
  firstArea : List Page
  circ      : List Page
  tokens    : Nat
  lastEra   : Nat
  ever      : Bool
  rings     : Rings
  ringsNv   : List Rings
  ringsCopy : Nat
  ringsSlot : List Nat
  retired   : Nat
  pageFail  : Nat
deriving DecidableEq, Repr

/-! ## Security (16) -/

/-- The states of a firmware slot, in the order of SEC_STATUS (R53, R489). -/
inductive SlotSt where
  | empty | writing | written | trial | active | standby | invalid
deriving DecidableEq, Repr

/-- A firmware slot: its header state and what its image's header says (R53, R485, R488). -/
structure Slot where
  st       : SlotSt
  trialSet : Bool
  sigOk    : Bool
  secVer   : Nat
  fwVer    : Word
deriving DecidableEq, Repr

/-- The security unit and OTP (R483-R490). `running` is none while the ROM loader runs. -/
structure Security where
  keys     : List (List Byte)
  slotA    : Slot
  slotB    : Slot
  running  : Option Bool
  secFloor : Nat
  seq0     : Option Word
deriving DecidableEq, Repr

end Sys2Proof.Machine
end

