-- ==== Sys2Proof/Config.lean ====
section
/-! DEFINITION. What the spec leaves to the implementation and the values it leaves open. Every constant here is opaque: it has no
body, so no proof can see its value, and a statement about it holds for every value. -/

namespace Sys2Proof.Config

/-- A free value: the n-th value that the spec leaves open (log entry 2). `State.draws` counts them. -/
opaque freeNat : Nat → Nat

/-- The silicon revision, fixed per die (R33, log entry 3). -/
opaque revision : BitVec 8

/-- Whether an ECDSA signature over a firmware image's header verifies under Berxon's public key (R485, log entry 4). -/
opaque signatureOk : List Byte → Bool

/-! What a byte of an SRAM region reads whose layout the spec does not give, by what the block that owns the region keeps there and by address
(R27, log entry 5): it changes only when the block writes. -/

open Machine in
/-- A beam's Grain tile cache. -/
opaque cacheByte : List Column → Nat → Byte
open Machine in
/-- The Veneer buffers. -/
opaque veneerByte : Veneer → Nat → Byte
open Machine in
/-- A beam's Kerf FIFO: the fetched records of its stream and of its stick. -/
opaque fifoByte : List Rec → List Rec → Nat → Byte
open Machine in
/-- Tally staging. -/
opaque stagingByte : Tally → Nat → Byte
open Machine in
/-- The memory of Truss. -/
opaque trussByte : Truss → Vector Kerf 48 → Nat → Byte
open Machine in
/-- Focus tables and pass state in the Scribe region. -/
opaque scribeByte : Vector Scribe 48 → Nat → Byte

/-- What the block measures of its surroundings at a device time: supplies, temperatures and traffic, by register (log entry 11). -/
opaque measured : Nat → Nat → BitVec 32

/-- Whether a copy of a Tally page fails the check of its CRC at the n-th free value (R454, log entry 77). -/
opaque copyBad : Nat → Bool

/-- The sine table of the stepper ports by angle, in 1/65536 (R405, log entry 30). -/
opaque sine : BitVec 10 → Int

/-- The value of a scan point in whose interval no sample falls, by line and interval (R290, log entry 102). -/
opaque emptyPoint : Nat → Nat → Nat

/-- The quotient of INT1 by an INT0 of 0, which a RATIO_FLOOR of 0 admits (R224, log entry 99). -/
opaque ratioByZero : Nat → Nat

/-- A blended channel whose sum passes 8 bits, by the sum (R325, log entry 88). -/
opaque blendOver : Nat → Byte

end Sys2Proof.Config
end

