-- ==== Sys2Proof/Machine/RegMap.lean ====
section
/-! DEFINITION. The register map: every register of the manual with its address, the bits a host can write, clear or pulse, the
world of its fields, the SEC_WORLD block that gates it, and its reset value. Addresses are the device addresses of R31; beam page
rows hold offsets within a beam's page (R32). Registers whose reset the spec does not state reset as log entry 7 names. -/

namespace Sys2Proof.Machine

open Sys2Proof

/-- One register, or `count` registers `stride` bytes apart. `rw`, `w1c`, `wo`, `rc` and `sec` are bit masks: host-writable bits,
write-one-to-clear bits, write-only bits, read-clear bits, bits of world S. `block` is the SEC_WORLD bit that gates it (R479). -/
structure RegRow where
  name   : String
  base   : Nat
  count  : Nat := 1
  stride : Nat := 4
  rw     : Nat := 0
  w1c    : Nat := 0
  wo     : Nat := 0
  rc     : Nat := 0
  sec    : Nat := 0
  block  : Option Nat := none
  reset  : Nat := 0
deriving DecidableEq, Repr

/-- All 32 bits. -/
def allBits : Nat := 0xFFFFFFFF

/-- Identity, mode, safety, resume and packet registers (R33, R34, R70-R74, R111). -/
def rowsId : List RegRow := [
  { name := "DEVICE_ID", base := 0x0, reset := 0x96480100 }, -- R33
  { name := "CHAIN", base := 0x4, reset := 0x00000100 }, -- R34
  { name := "MODE", base := 0x10, rc := 0xFF000000, reset := 0x1 }, -- R70
  { name := "SAFETY", base := 0x14, reset := 0x1103 }, -- R71
  { name := "RESET_CAUSE", base := 0x18, w1c := 0xFFF }, -- R72
  { name := "BOOT_STATUS", base := 0x1C }, -- R73
  { name := "RESUME_LAYER", base := 0x20, rw := allBits }, -- R74
  { name := "RESUME_INFO", base := 0x24, rw := 0xFFFF, reset := 0x40000 }, -- R74
  { name := "RESUME_INDEX", base := 0x100, count := 48, rw := allBits, reset := allBits }, -- R74
  { name := "STICK_DONE", base := 0x1000, count := 512, rw := allBits }, -- R74
  { name := "PKT_CONFIG", base := 0x3000, rw := 0x1FFFF, sec := 0x1FFFF, reset := 0x0801CA08 }, -- R111
  { name := "SESSIONS_OPEN", base := 0x3004 }, -- R111
  { name := "SCHED_PENDING", base := 0x3008 }, -- R111
  { name := "RX_OK", base := 0x3010 }, -- R111
  { name := "RX_MALFORMED", base := 0x3014 }, -- R111
  { name := "RX_CRC", base := 0x3018 }, -- R111
  { name := "RX_AUTH_FAIL", base := 0x301C }, -- R111
  { name := "RX_DUPLICATE", base := 0x3020 }, -- R111
  { name := "RX_DUAL_DROPPED", base := 0x3024 }, -- R111
  { name := "RX_DENIED", base := 0x3028 }, -- R111
  { name := "TX_REPLIES", base := 0x302C }, -- R111
  { name := "ALERTS_LOST", base := 0x3030 }, -- R111
  { name := "SESSION_ID", base := 0x3100, count := 8, stride := 0x10 }, -- R111
  { name := "SESSION_CLIENT", base := 0x3104, count := 8, stride := 0x10 }, -- R111
  { name := "SESSION_FLAGS", base := 0x3108, count := 8, stride := 0x10 }, -- R111
  { name := "SESSION_SEQ", base := 0x310C, count := 8, stride := 0x10 } -- R111
]

/-- Power and clock registers (R75). -/
def rowsPower : List RegRow := [
  { name := "SUPPLY_STATUS", base := 0x0B000000, w1c := 0x2 }, -- R75
  { name := "VIN_NOW", base := 0x0B000004 }, -- R75
  { name := "VIN_MIN", base := 0x0B000008, rc := 0xFFFF, reset := 0xFFFF }, -- R75
  { name := "VMOT_NOW", base := 0x0B00000C }, -- R75
  { name := "VLED_NOW", base := 0x0B000010 }, -- R75
  { name := "VMOT_LIMITS", base := 0x0B000014, rw := allBits, reset := 0xA410157C }, -- R75: 42,000 and 5,500 mV
  { name := "VLED_LIMITS", base := 0x0B000018, rw := allBits, reset := 0xA410157C }, -- R75
  { name := "DIE_TEMP", base := 0x0B00001C }, -- R75
  { name := "CLOCK_STATUS", base := 0x0B000020 }, -- R75
  { name := "DIP_COUNT", base := 0x0B000024 }, -- R75
  { name := "SNAPSHOT_SEL", base := 0x0B000040, count := 16, rw := allBits, sec := allBits, reset := allBits } -- R75
]

/-- Tally and Rings registers (R476, R477). -/
def rowsTally : List RegRow := [
  { name := "TALLY_STATUS", base := 0x09000000, reset := 0x2000 }, -- R476
  { name := "TALLY_CONFIG", base := 0x09000004, rw := 0xFFFF, sec := 0xFFFF, reset := 0x200A }, -- R476
  { name := "NEXT_INDEX_LO", base := 0x09000008 }, -- R477
  { name := "NEXT_INDEX_HI", base := 0x0900000C }, -- R477
  { name := "OLDEST_INDEX_LO", base := 0x09000010, reset := allBits }, -- R477
  { name := "OLDEST_INDEX_HI", base := 0x09000014, reset := allBits }, -- R477
  { name := "PAGES_COMMITTED", base := 0x09000018 }, -- R477
  { name := "LOST_TOTAL", base := 0x0900001C }, -- R477
  { name := "MERGED_TOTAL", base := 0x09000020 }, -- R477
  { name := "PAGE_FAIL", base := 0x09000024 }, -- R477
  { name := "PAGES_RETIRED", base := 0x09000028 }, -- R477
  { name := "RINGS_SEQ", base := 0x0900002C }, -- R477
  { name := "SNAP_INTERLOCK", base := 0x09000100, count := 16, rw := allBits, sec := allBits, reset := allBits }, -- R477
  { name := "SNAP_GATE", base := 0x09000140, count := 16, rw := allBits, sec := allBits, reset := allBits } -- R477
]

/-- Security registers (R489, R490). -/
def rowsSec : List RegRow := [
  { name := "SEC_STATUS", base := 0x0A000000, reset := 0x400 }, -- R489
  { name := "SEC_WORLD", base := 0x0A000004 }, -- R490
  { name := "SEC_KEY_CHECK", base := 0x0A000008 }, -- R490
  { name := "SEC_FLOOR", base := 0x0A00000C }, -- R490
  { name := "SEC_SEQ0", base := 0x0A000010 } -- R490
]

/-- Unit status, mortise and tenon registers of a beam page (R42, R142-R149). -/
def rowsPort : List RegRow := [
  { name := "UNIT_STATUS", base := 0x0000, w1c := 0x10, block := some 2, reset := 4 }, -- R42
  { name := "MT_CONFIG", base := 0x1000, rw := 0x7FF03, block := some 2, reset := 0x2 }, -- R142
  { name := "MT_LIMITS", base := 0x1004, rw := allBits, block := some 2, reset := 0x08001000 }, -- R143
  { name := "MT_STATUS", base := 0x1008 }, -- R144
  { name := "ACT_X", base := 0x100C }, -- R145
  { name := "ACT_Y", base := 0x1010 }, -- R145
  { name := "ACT_Z", base := 0x1014 }, -- R145
  { name := "SERVO_STATUS", base := 0x1018 }, -- R145
  { name := "FWD_NACK", base := 0x101C }, -- R145
  { name := "RET_CRC", base := 0x1020 }, -- R145
  { name := "LINK_LOSSES", base := 0x1024 }, -- R145
  { name := "TN_CONFIG", base := 0x2000, rw := 0xFFFFFF1F, block := some 2, reset := 0x01F40A1D }, -- R146
  { name := "TN_LAGS", base := 0x2004, rw := allBits, block := some 2 }, -- R147
  { name := "TN_GATE", base := 0x2008, rw := 0xFF, block := some 2, reset := 0x04 }, -- R147
  { name := "TN_STATUS", base := 0x200C, reset := 0x8 }, -- R148
  { name := "PULSES_DROPPED", base := 0x2010 }, -- R149
  { name := "GAPS_MERGED", base := 0x2014 }, -- R149
  { name := "CLAMPED", base := 0x2018 }, -- R149
  { name := "TN_CEILINGS", base := 0x201C, rw := allBits, sec := allBits } -- R149
]

/-- Raster beam registers, in the pages of beams 00-07 (R150, R151). -/
def rowsRaster : List RegRow := [
  { name := "RST_CONFIG", base := 0x6000, rw := 0xFFFF3F7F, block := some 2, reset := 0x000A0600 }, -- R150
  { name := "RST_TIMING", base := 0x6004, rw := allBits, block := some 2, reset := 0x0A000000 }, -- R151
  { name := "RST_SOL", base := 0x6008, rw := 0xFFFFFF, block := some 2 }, -- R151
  { name := "RST_STATUS", base := 0x600C }, -- R151
  { name := "RST_PERIOD", base := 0x6010 }, -- R151
  { name := "FACET_TRIM", base := 0x6100, count := 32, rw := 0xFFFF, block := some 2 } -- R151
]

/-- Layer registers of the identity range (R186); they follow the others of that range. -/
def rowsLayer : List RegRow := [
  { name := "LAYER_STATE", base := 0x2000 }, -- R186
  { name := "LAYER_NUMBER", base := 0x2004 }, -- R186
  { name := "LAYER_START_ERA", base := 0x2008 }, -- R186
  { name := "LAYER_START_NS", base := 0x200C }, -- R186
  { name := "KF_COMMIT", base := 0x2010 }, -- R186
  { name := "CHECK_RESULT", base := 0x2014 }, -- R186
  { name := "CHECK_INDEX", base := 0x2018 }, -- R186
  { name := "STICKS_DONE", base := 0x201C } -- R186
]

/-- Kerf registers of a beam page (R187-R189). -/
def rowsKerf : List RegRow := [
  { name := "KF_STATUS", base := 0x4000 }, -- R187
  { name := "KF_LAST_DONE", base := 0x4004, reset := allBits }, -- R189
  { name := "KF_CURRENT", base := 0x4008 }, -- R189
  { name := "KF_STICK", base := 0x400C, reset := allBits }, -- R189
  { name := "KF_TAG", base := 0x4010 }, -- R189
  { name := "KF_FIELD_MIN_X", base := 0x4014, rw := allBits, block := some 1, reset := 0x80000000 }, -- R188
  { name := "KF_FIELD_MIN_Y", base := 0x4018, rw := allBits, block := some 1, reset := 0x80000000 }, -- R188
  { name := "KF_FIELD_MAX_X", base := 0x401C, rw := allBits, block := some 1, reset := 0x7FFFFFFF }, -- R188
  { name := "KF_FIELD_MAX_Y", base := 0x4020, rw := allBits, block := some 1, reset := 0x7FFFFFFF }, -- R188
  { name := "KF_RECORDS", base := 0x4024 }, -- R189
  { name := "KF_STARVED", base := 0x4028 }, -- R189
  { name := "KF_HELD_TICKS", base := 0x402C }, -- R189
  { name := "KF_CONTOUR_BREAKS", base := 0x4030 }, -- R189
  { name := "KF_DELAYS_CLAMPED", base := 0x4034 }, -- R189
  { name := "KF_ON_TIME", base := 0x4038 } -- R189
]

/-- Parameter sets of a beam page (R160): word k of each of the 256 sets. -/
def rowsParam : List RegRow := [
  { name := "PSET_MARK_SPEED", base := 0x8000, count := 256, stride := 0x80, rw := allBits, block := some 1 }, -- R160
  { name := "PSET_JUMP_SPEED", base := 0x8004, count := 256, stride := 0x80, rw := allBits, block := some 1 }, -- R160
  { name := "PSET_POWER_FLAGS", base := 0x8008, count := 256, stride := 0x80, rw := allBits, block := some 1 }, -- R160: POWER, SET_FLAGS
  { name := "PSET_LON_LOFF", base := 0x800C, count := 256, stride := 0x80, rw := allBits, block := some 1 }, -- R160
  { name := "PSET_JUMP_DELAY", base := 0x8010, count := 256, stride := 0x80, rw := allBits, block := some 1 }, -- R160
  { name := "PSET_MARK_DELAY", base := 0x8014, count := 256, stride := 0x80, rw := allBits, block := some 1 }, -- R160
  { name := "PSET_POLY_DELAY", base := 0x8018, count := 256, stride := 0x80, rw := allBits, block := some 1 }, -- R160
  { name := "PSET_POLY_ANGLE", base := 0x801C, count := 256, stride := 0x80, rw := allBits, block := some 1 }, -- R160
  { name := "PSET_SKY_IN", base := 0x8020, count := 256, stride := 0x80, rw := allBits, block := some 1 }, -- R160
  { name := "PSET_SKY_OUT", base := 0x8024, count := 256, stride := 0x80, rw := allBits, block := some 1 }, -- R160
  { name := "PSET_LONG_JUMP", base := 0x8028, count := 256, stride := 0x80, rw := allBits, block := some 1 }, -- R160
  { name := "PSET_LONG_DELAY", base := 0x802C, count := 256, stride := 0x80, rw := allBits, block := some 1 }, -- R160
  { name := "PSET_FOCUS_OFFSET", base := 0x8030, count := 256, stride := 0x80, rw := allBits, block := some 1 }, -- R160
  { name := "PSET_ABSORB_PROFILE", base := 0x8034, count := 256, stride := 0x80, rw := allBits, block := some 1 }, -- R160: ABSORB, PLUMB_PROFILE
  { name := "PSET_ZERO", base := 0x8000, count := 8192, rw := allBits, block := some 1 } -- R160: bytes 56-127 of each set, which must be 0
]

/-- Truss registers (R215-R218). -/
def rowsTruss : List RegRow := [
  { name := "TR_CONFIG", base := 0x04000000, rw := 0xFF0007, block := some 3, reset := 0x000A0003 }, -- R215
  { name := "TR_SEP_MIN", base := 0x04000004, rw := allBits, block := some 3, reset := 0x30D40 }, -- R216
  { name := "TR_LEE", base := 0x04000008, rw := allBits, block := some 3, reset := 0x5DC }, -- R216
  { name := "TR_GAS", base := 0x0400000C, rw := 0xF3FFFF, block := some 3 }, -- R216
  { name := "TR_LEE_LEN", base := 0x04000010, rw := allBits, block := some 3, reset := 0xF4240 }, -- R216
  { name := "TR_GAS_SPEED", base := 0x04000014, rw := 0xFFFF, block := some 3 }, -- R216
  { name := "TR_GAS_NOW", base := 0x04000018 }, -- R217
  { name := "TR_LEE_NOW", base := 0x0400001C, reset := 0xF4240 }, -- R217
  { name := "TR_STATUS", base := 0x04000020, reset := 0x40 }, -- R217
  { name := "TR_HELD_LO", base := 0x04000024 }, -- R217
  { name := "TR_HELD_HI", base := 0x04000028 }, -- R217
  { name := "TR_EXPORT_UP_LO", base := 0x0400002C, rw := allBits, block := some 3 }, -- R217
  { name := "TR_EXPORT_UP_HI", base := 0x04000030, rw := 0xFFFF, block := some 3 }, -- R217
  { name := "TR_EXPORT_DN_LO", base := 0x04000034, rw := allBits, block := some 3 }, -- R217
  { name := "TR_EXPORT_DN_HI", base := 0x04000038, rw := 0xFFFF, block := some 3 }, -- R217
  { name := "TR_GAS_TABLE_A", base := 0x04000040, count := 8, stride := 8, rw := allBits, block := some 3, reset := 0xFFFF }, -- R218
  { name := "TR_GAS_TABLE_B", base := 0x04000044, count := 8, stride := 8, rw := allBits, block := some 3 }, -- R218
  { name := "TR_RASTER_SPAN", base := 0x04000080, count := 8, stride := 8, rw := allBits, block := some 3 }, -- R218
  { name := "TR_RASTER_DIR", base := 0x04000084, count := 8, stride := 8, rw := 0xFFFF, block := some 3 }, -- R218
  { name := "TR_REFUSED_SEP", base := 0x04000100 }, -- R218
  { name := "TR_REFUSED_LEE", base := 0x04000104 }, -- R218
  { name := "TR_REFUSED_CLAIM", base := 0x04000108 }, -- R218
  { name := "TR_REFUSED_FULL", base := 0x0400010C }, -- R218
  { name := "TR_GRANTS", base := 0x04000110 }, -- R218
  { name := "TR_REASSIGNED", base := 0x04000114 }, -- R218
  { name := "TR_REVOKED", base := 0x04000118 }, -- R218
  { name := "TR_MAX_WAIT", base := 0x0400011C }, -- R218
  { name := "TR_COVER_LO", base := 0x04000120 }, -- R218
  { name := "TR_COVER_HI", base := 0x04000124 }, -- R218
  { name := "TR_IMPORT", base := 0x04000200, count := 32 }, -- R218
  { name := "TR_TERRITORY", base := 0x04001000, count := 768, rw := allBits, block := some 3 } -- R218
]

/-- Analog input, feature and camera registers of a beam page (R249-R253). -/
def rowsAin : List RegRow := [
  { name := "AIN_CONFIG", base := 0x3000, rw := 0x3FFFF, block := some 4 }, -- R249
  { name := "AIN_OFFSET", base := 0x3004, rw := allBits, block := some 4 }, -- R250
  { name := "RATIO_LIMITS", base := 0x3008, rw := allBits, block := some 4, reset := 0x100 }, -- R250
  { name := "AIN_DARK", base := 0x300C }, -- R250
  { name := "FEAT_INT", base := 0x3010 }, -- R250
  { name := "FEAT_TEMP", base := 0x3014 }, -- R250
  { name := "FEAT_FLAGS", base := 0x3018 }, -- R251
  { name := "AIN_SAT0", base := 0x301C }, -- R250
  { name := "AIN_SAT1", base := 0x3020 }, -- R250
  { name := "CAM_CONFIG", base := 0x3100, rw := 0xFFFFFF1F, block := some 4, reset := 0x400 }, -- R252
  { name := "CAM_GEOM", base := 0x3104, rw := allBits, block := some 4, reset := 0x40004000 }, -- R253
  { name := "CAM_ROT", base := 0x3108, rw := 0xFFFF, block := some 4 }, -- R253
  { name := "CAM_FEAT1", base := 0x310C }, -- R253
  { name := "CAM_FEAT2", base := 0x3110 }, -- R253
  { name := "CAM_STATUS", base := 0x3114 }, -- R253
  { name := "CAM_PERIOD", base := 0x3118 }, -- R253
  { name := "CAM_BAD", base := 0x311C }, -- R253
  { name := "TEMP_TABLE", base := 0x3200, count := 128, rw := allBits, block := some 4 }, -- R250
  { name := "TEMP_TABLE_END", base := 0x3400, rw := 0xFFFF, block := some 4 } -- R250
]

/-- Plumb registers of a beam page (R254-R256). -/
def rowsPlumb : List RegRow := [
  { name := "PL_CONFIG", base := 0x5000, rw := 0x7FFFF03, block := some 4, reset := 0x00400403 }, -- R254
  { name := "PL_CEILING", base := 0x5004, rw := 0xFFFF, block := some 4, reset := 0x4000 }, -- R255
  { name := "PL_STATUS", base := 0x5008, reset := 0x40 }, -- R255
  { name := "PL_OUT", base := 0x500C }, -- R256
  { name := "PL_FF", base := 0x5010 }, -- R256
  { name := "PL_CLAMP_HI", base := 0x5014 }, -- R256
  { name := "PL_CLAMP_LO", base := 0x5018 }, -- R256
  { name := "EXC_HIGH", base := 0x501C }, -- R256
  { name := "EXC_LOW", base := 0x5020 }, -- R256
  { name := "EXC_BACKREFL", base := 0x5024 }, -- R256
  { name := "EXC_SAT", base := 0x5028 }, -- R256
  { name := "UPDATES", base := 0x502C }, -- R256
  { name := "TRACE_CTRL", base := 0x5030, rw := 0xF, block := some 4 }, -- R256
  { name := "PROFILE", base := 0x5100, count := 64, rw := allBits, block := some 4 }, -- R256
  { name := "INTEG", base := 0x5200, count := 8 }, -- R256
  { name := "TRACE", base := 0x5800, count := 512 } -- R256
]

/-- Grain registers (R276-R279). -/
def rowsGrain : List RegRow := [
  { name := "GR_CONFIG", base := 0x04800000, rw := 0xFFFF0F03, block := some 4, reset := 0x00640001 }, -- R276
  { name := "HALF_LIFE", base := 0x04800004, rw := allBits, block := some 4, reset := 0x2710 }, -- R277
  { name := "DEEP_HALF_LIFE", base := 0x04800008, rw := allBits, block := some 4, reset := 0x7530 }, -- R277
  { name := "COND", base := 0x0480000C, rw := 0xFFFF, block := some 4, reset := 0x4000 }, -- R277
  { name := "W0_W1", base := 0x04800010, rw := allBits, block := some 4, reset := 0x20004000 }, -- R277
  { name := "W2", base := 0x04800014, rw := 0xFFFF, block := some 4, reset := 0x1000 }, -- R277
  { name := "E_LSB_RENORM", base := 0x04800018, rw := allBits, block := some 4, reset := 0x006403E8 }, -- R277
  { name := "GR_ORIGIN_X", base := 0x0480001C, rw := allBits, block := some 4 }, -- R277
  { name := "GR_ORIGIN_Y", base := 0x04800020, rw := allBits, block := some 4 }, -- R277
  { name := "GR_SIZE", base := 0x04800024, rw := 0x3FFF3FFF, block := some 4, reset := 0x3E803E80 }, -- R277
  { name := "GR_IMPORT_LINE", base := 0x04800028, rw := 0xFFFF, block := some 4 }, -- R277
  { name := "GR_STATUS", base := 0x04800030 }, -- R278
  { name := "GR_ROLES", base := 0x04800034, reset := 0xE4 }, -- R278
  { name := "GR_LAYER", base := 0x04800038 }, -- R279
  { name := "GR_ROLL_MS", base := 0x0480003C }, -- R279
  { name := "GR_LATE", base := 0x04800040 }, -- R279
  { name := "GR_OUTSIDE", base := 0x04800044 }, -- R279
  { name := "GR_SAT", base := 0x04800048 }, -- R279
  { name := "GR_INVALID_Q", base := 0x0480004C }, -- R279
  { name := "GR_REFRESH_SKIPPED", base := 0x04800050 }, -- R279
  { name := "GR_TRAFFIC", base := 0x04800054 }, -- R279
  { name := "GR_TRAFFIC_MAX", base := 0x04800058 }, -- R279
  { name := "GR_LEAD_MIN", base := 0x0480005C }, -- R279
  { name := "GR_PFULL", base := 0x04800100, count := 48, rw := 0xFFFF, block := some 4 }, -- R279
  { name := "G_TABLE", base := 0x04800200, count := 16, rw := allBits, block := some 4, reset := 0x40004000 }, -- R279
  { name := "G_TABLE_16", base := 0x04800240, rw := 0xFFFF, block := some 4, reset := 0x4000 } -- R279
]
/-- Scribe registers (R303-R305): the configuration is of world S. -/
def rowsScribe : List RegRow := [
  { name := "SC_CONFIG", base := 0x05000000, rw := 0xFFFF0F, sec := 0xFFFF0F, reset := 0x00080009 }, -- R303
  { name := "SC_SCAN", base := 0x05000004, rw := allBits, sec := allBits, reset := 500 }, -- R304
  { name := "SC_SCAN2", base := 0x05000008, rw := allBits, sec := allBits, reset := 0x40181388 }, -- R304
  { name := "SC_LIMITS", base := 0x0500000C, rw := allBits, sec := allBits, reset := 0x07D000C8 }, -- R304
  { name := "SC_STITCH", base := 0x05000010, rw := allBits, sec := allBits, reset := 0x025801F4 }, -- R304
  { name := "SC_ENV", base := 0x05000014, rw := 0xFFFF000F, sec := 0xFFFF000F, reset := 0x03E80008 }, -- R304
  { name := "SC_ISOLATE", base := 0x05000018, rw := allBits, sec := allBits, reset := 1000000 }, -- R304
  { name := "SC_SPREAD", base := 0x0500001C, rw := allBits, sec := allBits, reset := 2000000 }, -- R304
  { name := "SC_AUTO_LO", base := 0x05000020, rw := allBits, sec := allBits }, -- R304
  { name := "SC_AUTO_HI", base := 0x05000024, rw := 0xFFFF, sec := 0xFFFF }, -- R304
  { name := "SC_GUARD", base := 0x05000028, rw := allBits, sec := allBits, reset := 5000 }, -- R304
  { name := "SC_PASSES_APPLIED", base := 0x05000040 }, -- R304
  { name := "SC_PASSES_FAILED", base := 0x05000044 }, -- R304
  { name := "SC_INVALID", base := 0x05000048 }, -- R304
  { name := "SC_CUT", base := 0x0500004C }, -- R304
  { name := "SC_FIDUCIAL", base := 0x05002000, count := 2048, rw := allBits, sec := allBits }, -- R304
  { name := "SCB_STATUS", base := 0x05004000, count := 48, stride := 0x40 }, -- R305
  { name := "SCB_GEN", base := 0x05004004, count := 48, stride := 0x40 }, -- R305
  { name := "SCB_QUALITY", base := 0x05004008, count := 48, stride := 0x40, reset := allBits }, -- R296, R305
  { name := "SCB_CAL_COUNT", base := 0x0500400C, count := 48, stride := 0x40 }, -- R305
  { name := "SCB_LAST_ERA", base := 0x05004010, count := 48, stride := 0x40 }, -- R305
  { name := "SCB_LAST_NS", base := 0x05004014, count := 48, stride := 0x40 }, -- R305
  { name := "SCB_FAIL", base := 0x05004018, count := 48, stride := 0x40 }, -- R305
  { name := "SCB_STITCH", base := 0x0500401C, count := 48, stride := 0x40, reset := 0xFFFF }, -- R305
  { name := "SCB_CLIPPED", base := 0x05004020, count := 48, stride := 0x40 }, -- R305
  { name := "SCB_HELD_ID", base := 0x05004024, count := 48, stride := 0x40 }, -- R305
  { name := "SCB_DRIFT", base := 0x05004028, count := 48, stride := 0x40 }, -- R305
  { name := "SCB_LOAD_ERR", base := 0x0500402C, count := 48, stride := 0x40 } -- R305
]
/-- Veneer registers (R335-R337, R309). -/
def rowsVeneer : List RegRow := [
  { name := "VN_CONFIG", base := 0x06000000, rw := 0xFFFFFF07, block := some 5, reset := 0x07D00A02 }, -- R335
  { name := "VN_END_WAIT", base := 0x06000004, rw := allBits, block := some 5, reset := 0x30000 }, -- R337
  { name := "VN_OUT0", base := 0x06000008, rw := allBits, block := some 5 }, -- R337
  { name := "VN_OUT1", base := 0x0600000C, rw := allBits, block := some 5 }, -- R337
  { name := "VN_OUT_SIZE", base := 0x06000010, rw := allBits, block := some 5, reset := 0x00640064 }, -- R337
  { name := "VN_OUT_SURF", base := 0x06000014, rw := 0x3F3F, block := some 5 }, -- R337
  { name := "VN_BACKGROUND", base := 0x06000018, rw := 0xFFFFFF, block := some 5 }, -- R337
  { name := "VN_FP", base := 0x0600001C, rw := 0xFFFFFF, block := some 5, reset := 4000 }, -- R337
  { name := "VN_STATUS", base := 0x06000020 }, -- R336
  { name := "VN_FRAME", base := 0x06000024 }, -- R337
  { name := "VN_LIVE", base := 0x06000028 }, -- R337
  { name := "VN_HEAT", base := 0x0600002C, rw := 0x1FF, block := some 5, reset := 0x81 }, -- R337
  { name := "VN_FRAMES_SKIPPED", base := 0x06000030 }, -- R337
  { name := "VN_DECODE_ERR", base := 0x06000034 }, -- R337
  { name := "VN_PROD_SKIPPED", base := 0x06000038 }, -- R337
  { name := "VN_RING", base := 0x06000040, count := 18, rw := 0x013F3F3F, block := some 5 }, -- R337
  { name := "VN_FENCE", base := 0x06000100, count := 32 }, -- R337
  { name := "VN_LAYER", base := 0x06000800, count := 256 }, -- R337
  { name := "VN_SURFACE", base := 0x06001000, count := 512, rw := allBits, block := some 5 }, -- R309, R337
  { name := "VN_PALETTE", base := 0x06002000, count := 1024, rw := allBits, block := some 5 } -- R337
]

/-- Motor port registers (R430-R432), by offset in a port's page. -/
def rowsMotor : List RegRow := [
  { name := "UNIT_STATUS", base := 0x0, w1c := 0x10, block := some 8, reset := 4 }, -- R42
  { name := "MP_CONFIG", base := 0x4, rw := 0xFFF, block := some 8, reset := 0xCC0 }, -- R430
  { name := "MP_CHOP", base := 0x8, rw := 0x1FFFFF, block := some 8, reset := 0x29094 }, -- R432
  { name := "MP_CURRENT", base := 0xC, rw := allBits, block := some 8, reset := 0x283201F4 }, -- R432
  { name := "MP_SHUNT", base := 0x10, rw := 0xFFFF, block := some 8, reset := 50 }, -- R432
  { name := "MP_VMAX", base := 0x14, rw := allBits, block := some 8, reset := 51200 }, -- R432
  { name := "MP_AMAX", base := 0x18, rw := allBits, block := some 8, reset := 512000 }, -- R432
  { name := "MP_DMAX", base := 0x1C, rw := allBits, block := some 8, reset := 512000 }, -- R432
  { name := "MP_JMAX", base := 0x20, rw := allBits, block := some 8, reset := 20000 }, -- R432
  { name := "HOME_VEL", base := 0x24, rw := allBits, block := some 8 }, -- R432
  { name := "HOME_DIST", base := 0x28, rw := allBits, block := some 8, reset := 0x7FFFFFFF }, -- R432
  { name := "HOME_POS", base := 0x2C, rw := allBits, block := some 8 }, -- R432
  { name := "BACKOFF", base := 0x30, rw := allBits, block := some 8 }, -- R432
  { name := "MP_STALL", base := 0x34, rw := allBits, block := some 8, reset := 0x4E201046 }, -- R432
  { name := "MP_VLOOP", base := 0x38, rw := allBits, block := some 8 }, -- R432
  { name := "MP_PLOOP", base := 0x3C, rw := 0xFFFF, block := some 8 }, -- R432
  { name := "FOLLOW_LIMIT", base := 0x40, rw := allBits, block := some 8, reset := 1024 }, -- R432
  { name := "ENC_SCALE", base := 0x44, rw := allBits, block := some 8 }, -- R432
  { name := "SOFT_MIN", base := 0x48, rw := allBits, block := some 8, reset := 0x80000000 }, -- R432
  { name := "SOFT_MAX", base := 0x4C, rw := allBits, block := some 8, reset := 0x7FFFFFFF }, -- R432
  { name := "MP_STATUS", base := 0x80 }, -- R431
  { name := "MP_POS", base := 0x84 }, -- R432
  { name := "MP_TARGET", base := 0x88 }, -- R432
  { name := "MP_VEL", base := 0x8C }, -- R432
  { name := "MP_ACC", base := 0x90 }, -- R432
  { name := "OVERLIMIT", base := 0x94 }, -- R432
  { name := "STALLS", base := 0x98 } -- R432
]

/-- Feedback input registers (R433), by offset in an input's page. -/
def rowsFeed : List RegRow := [
  { name := "FB_CONFIG", base := 0x0, rw := 0xFFFFFF, block := some 8, reset := 0x102010 }, -- R433
  { name := "FB_CPR", base := 0x4, rw := allBits, block := some 8 }, -- R433
  { name := "FB_COUNT", base := 0x8 }, -- R433
  { name := "FB_PERIOD", base := 0xC, reset := allBits }, -- R433
  { name := "QUAD_ERR", base := 0x10 }, -- R433
  { name := "EDGE_FAULT", base := 0x14 }, -- R433
  { name := "INDEX_CORR", base := 0x18 }, -- R433
  { name := "FB_LINES", base := 0x1C } -- R433
]

/-- The other Brace registers (R434). -/
def rowsBrace : List RegRow := [
  { name := "PT_CONFIG", base := 0x070C0000, count := 2, rw := 0x107, block := some 8 }, -- R434
  { name := "SKEW_LIMIT", base := 0x070E0000, rw := allBits, block := some 8, reset := 2560 } -- R434
]

/-- LED channel registers (R449, R450), by offset in a channel's page. -/
def rowsLed : List RegRow := [
  { name := "UNIT_STATUS", base := 0x0, w1c := 0x10, block := some 9, reset := 4 }, -- R42
  { name := "LED_CFG", base := 0x4, rw := 0xFFFF0FFD, block := some 9, reset := 0x4C0000 }, -- R449
  { name := "LED_LEVEL", base := 0x8 }, -- R450
  { name := "LED_STAGED", base := 0xC }, -- R450
  { name := "LED_STATUS", base := 0x10 }, -- R450
  { name := "LED_SHUNT", base := 0x14, rw := allBits, block := some 9, reset := 0x07D00064 }, -- R450
  { name := "LED_PROOFS", base := 0x18 }, -- R450
  { name := "LED_WIN_MISSED", base := 0x1C }, -- R450
  { name := "LED_COMMIT_DEFERRED", base := 0x20 } -- R450
]

/-- The device registers of illumination (R451). -/
def rowsLight : List RegRow := [
  { name := "LT_CONFIG", base := 0x07802000, rw := 0xFF, block := some 9, reset := 60 }, -- R451
  { name := "TC", base := 0x07802010, count := 4, rw := 0xFFFF, block := some 9 }, -- R451
  { name := "NTC_CAL", base := 0x07802020, count := 4, rw := allBits, block := some 9, reset := 0x0D3403E8 }, -- R451
  { name := "NTC_TEMP", base := 0x07802030, count := 4 }, -- R451
  { name := "DERATE", base := 0x07802040, rw := allBits, block := some 9, reset := 0x00FA2134 }, -- R451
  { name := "FAIL_PCT", base := 0x07802044, rw := 0xFF, block := some 9, reset := 50 }, -- R451
  { name := "LED_STAGE_MASK", base := 0x07802048 }, -- R451
  { name := "COMMIT_ID", base := 0x0780204C } -- R451
]

/-- Joist lane registers (R371-R373), by offset in a lane's page. -/
def rowsJoist : List RegRow := [
  { name := "UNIT_STATUS", base := 0x0, w1c := 0x10, block := some 6, reset := 4 }, -- R42
  { name := "JL_CONFIG", base := 0x4, rw := 0xF, block := some 6, reset := 1 }, -- R371
  { name := "JL_STATUS", base := 0x8, reset := 0x19 }, -- R372
  { name := "JL_DELAY", base := 0xc }, -- R373
  { name := "MSG_CRC", base := 0x10 }, -- R373
  { name := "FRAMES_OK", base := 0x14 }, -- R373
  { name := "FRAMES_DROPPED", base := 0x18 }, -- R373
  { name := "CAP_MISMATCH", base := 0x1c }, -- R373
  { name := "LOSSES", base := 0x20 }, -- R373
  { name := "TIME_MISS", base := 0x24 }, -- R373
  { name := "WINDOW_LATE", base := 0x28 }, -- R373
  { name := "JL_HEAD", base := 0x40, count := 8 }, -- R373
  { name := "JL_SENSOR", base := 0x80, count := 32 } -- R373
]

/-- Rafter port registers (R374, R375), by offset in a port's page. -/
def rowsRafter : List RegRow := [
  { name := "UNIT_STATUS", base := 0x0, w1c := 0x10, block := some 6, reset := 4 }, -- R42
  { name := "RP_CONFIG", base := 0x4, rw := 3, block := some 6, reset := 1 }, -- R374
  { name := "RP_STATUS", base := 0x8, reset := 1 }, -- R374
  { name := "RP_LANE", base := 0x10, count := 4 }, -- R375
  { name := "PARITY_REPAIRED", base := 0x20 }, -- R375
  { name := "PARITY_ERR", base := 0x24 }, -- R375
  { name := "MSG_CRC", base := 0x28 }, -- R375
  { name := "LOSSES", base := 0x2C }, -- R375
  { name := "HOP_DELAY", base := 0x30, count := 4 }, -- R375
  { name := "TRUSS_RESYNCS", base := 0x40 } -- R375
]

/-- The chain registers (R375). -/
def rowsLanes : List RegRow := [
  { name := "CHAIN_PRESENT", base := 0x08008000 }, -- R375
  { name := "CHAIN_LOST", base := 0x08008004 }, -- R375
  { name := "CHAIN_WAITING", base := 0x08008008 }, -- R375
  { name := "CHAIN_TIME_ERR", base := 0x0800800C } -- R375
]

/-- Ethernet port registers (R397, R398). -/
def rowsEth : List RegRow := [
  { name := "UNIT_STATUS", base := 0x08800000, count := 2, stride := 0x400, w1c := 0x10, block := some 7, reset := 4 }, -- R42
  { name := "ETH_CONFIG", base := 0x08800004, count := 2, stride := 0x400, rw := 0xF, sec := 0xF, block := some 7, reset := 1 }, -- R397
  { name := "ETH_MAC", base := 0x08800008, count := 2, stride := 0x400 }, -- R398
  { name := "ETH_MAC_HI", base := 0x0880000C, count := 2, stride := 0x400 }, -- R398
  { name := "ETH_IP", base := 0x08800010, rw := allBits, sec := allBits, block := some 7, reset := 0xC0A84614 }, -- R398
  { name := "ETH_IP", base := 0x08800410, rw := allBits, sec := allBits, block := some 7, reset := 0xC0A84714 }, -- R398
  { name := "ETH_NETMASK", base := 0x08800014, count := 2, stride := 0x400, rw := allBits, sec := allBits, block := some 7, reset := 0xFFFFFF00 }, -- R398
  { name := "ETH_STATUS", base := 0x8800018, count := 2, stride := 0x400 }, -- R398
  { name := "LINK_DOWNS", base := 0x880001c, count := 2, stride := 0x400 }, -- R398
  { name := "RX_FRAMES", base := 0x8800020, count := 2, stride := 0x400 }, -- R398
  { name := "RX_DISCARDED", base := 0x8800024, count := 2, stride := 0x400 }, -- R398
  { name := "FEC_CORRECTED", base := 0x8800028, count := 2, stride := 0x400 }, -- R398
  { name := "FEC_UNCORRECTED", base := 0x880002c, count := 2, stride := 0x400 }, -- R398
  { name := "LAT_TX", base := 0x8800030, count := 2, stride := 0x400 }, -- R398
  { name := "LAT_RX", base := 0x8800034, count := 2, stride := 0x400 }, -- R398
  { name := "ASYM", base := 0x08800038, count := 2, stride := 0x400, rw := allBits, block := some 7 } -- R398
]

/-- The time unit and SPI port registers (R399, R400). -/
def rowsNet : List RegRow := [
  { name := "UNIT_STATUS", base := 0x08801000, w1c := 0x10, block := some 7, reset := 2 }, -- R42, R388
  { name := "TIME_CONFIG", base := 0x08801004, rw := 7, sec := 4, block := some 7, reset := 5 }, -- R399
  { name := "STEP_THRESHOLD", base := 0x08801008, rw := allBits, sec := allBits, block := some 7, reset := 10000 }, -- R400
  { name := "SERVO_GAINS", base := 0x0880100C, rw := allBits, block := some 7, reset := 0x10008000 }, -- R400
  { name := "SERVO_LOCK", base := 0x08801010, rw := 0xFFFFFF, block := some 7, reset := 0x100064 }, -- R400
  { name := "TIME_STATE", base := 0x8801014 }, -- R400
  { name := "OFFSET_LO", base := 0x8801018 }, -- R400
  { name := "OFFSET_HI", base := 0x880101c }, -- R400
  { name := "PENDING_LO", base := 0x8801020 }, -- R400
  { name := "PENDING_HI", base := 0x8801024 }, -- R400
  { name := "RATE_ADJ", base := 0x8801028 }, -- R400
  { name := "LAST_ERR", base := 0x880102c }, -- R400
  { name := "PATH_DELAY", base := 0x8801030 }, -- R400
  { name := "STEPS_APPLIED", base := 0x8801034 }, -- R400
  { name := "STEPS_REFUSED", base := 0x8801038 }, -- R400
  { name := "SYNC_MISSED", base := 0x880103c }, -- R400
  { name := "MASTER_ID_LO", base := 0x8801040 }, -- R400
  { name := "MASTER_ID_HI", base := 0x8801044 }, -- R400
  { name := "PTP_CONFIG", base := 0x08801048, rw := 0xFFF3FF, block := some 7, reset := 0x3300 }, -- R400
  { name := "DEV_TIME_ERA", base := 0x08801050 }, -- R400
  { name := "DEV_TIME_NS", base := 0x08801054 }, -- R400
  { name := "SPI_UNIT_STATUS", base := 0x08802000, w1c := 0x10, block := some 7, reset := 0 } -- R399
]

/-- Whether an address is one of a row's registers. -/
def RegRow.covers (r : RegRow) (a : Nat) : Bool :=
  decide (r.base ≤ a) && decide (a < r.base + r.count * r.stride) && (a - r.base) % r.stride == 0

/-- The rows of the page that an address lies in, and the address as those rows give it. -/
def pageRows (a : Nat) : List RegRow × Nat :=
  if a < 0x2000 then (rowsId, a)
  else if a < 0x3000 then (rowsLayer, a)
  else if a < 0x01000000 then (rowsId, a)
  else if a < 0x01300000 then
    let off := a % 0x10000
    if off < 0x3000 then (rowsPort, off)
    else if off < 0x4000 then (rowsAin, off)
    else if off < 0x5000 then (rowsKerf, off)
    else if off < 0x6000 then (rowsPlumb, off)
    else if off < 0x7000 then (if a < 0x01080000 then rowsRaster else [], off)
    else (rowsParam, off)
  else if a < 0x04000000 then ([], a)
  else if a < 0x04800000 then (rowsTruss, a)
  else if a < 0x05000000 then (rowsGrain, a)
  else if a < 0x06000000 then (rowsScribe, a)
  else if a < 0x07000000 then (rowsVeneer, a)
  else if a < 0x07008000 then (rowsMotor, a % 0x1000)
  else if a < 0x07080000 then ([], a)
  else if a < 0x07080800 then (rowsFeed, a % 0x100)
  else if a < 0x07800000 then (rowsBrace, a)
  else if a < 0x07801000 then (rowsLed, a % 0x100)
  else if a < 0x08000000 then (rowsLight, a)
  else if a < 0x08002000 then (rowsJoist, a % 0x200)
  else if a < 0x08004000 then ([], a)
  else if a < 0x08004400 then (rowsRafter, a % 0x200)
  else if a < 0x08800000 then (rowsLanes, a)
  else if a < 0x08801000 then (rowsEth, a)
  else if a < 0x09000000 then (rowsNet, a)
  else if a < 0x0A000000 then (rowsTally, a)
  else if a < 0x0B000000 then (rowsSec, a)
  else if a < 0x0C000000 then (rowsPower, a)
  else ([], a)

/-- The row of a register address; none for a reserved, unaligned or memory address (R31). -/
def regRow (a : Nat) : Option RegRow :=
  let p := pageRows a
  if a % 4 = 0 then p.1.find? (·.covers p.2) else none

/-- A register's reset value. -/
def resetOf (a : Nat) : Word :=
  match regRow a with
  | some r => BitVec.ofNat 32 r.reset
  | none => 0

/-- Beam n's register at an offset of its page (R31, R32). -/
def beamReg (b : Fin 48) (off : Nat) : Nat := 0x01000000 + b.val * 0x10000 + off

end Sys2Proof.Machine
end

