-- ==== Sys2Proof/Machine/Init.lean ====
section
/-! DEFINITION. What every part holds right after reset: the values the spec states, and where it states none the values of log entry 7. -/

namespace Sys2Proof.Machine

open Sys2Proof

/-- The bed's origin. -/
def origin : Pt := ⟨0, 0, 0⟩

/-- The mode right after a reset: BOOT (R47, R70). -/
def initMode : ModeCtl :=
  { mode := .boot, prev := .sill, transition := none, holdCause := 0, refuseCause := 0, atLayerEnd := false, graceFrom := 0, entered := 0 }

/-- Both latches set with cause reset (R59, R71); the LASER_EN inputs read low, as an open input does (R511). -/
def initSafety : Safety :=
  { laserLatch := true, bridgeLatch := true, laserCause := 1, bridgeCause := 1, enA := false, enB := false, lowA := 0, lowB := 0, highA := 0,
    highB := 0, discSince := none, lockout := false, lockStage := .waitLow }

/-- VIN has just come up and the power-on filter runs (R52, R54); both references are present and the device is a manager. -/
def initPower : Power :=
  { power := .filtering, cold := false, heldPin := false, heldThermal := false, heldRef := false, resetNLow := false, ref25 := true, ref32 := true,
    mgrSel := true, resetCause := 0, bootStatus := 0, wakeAlarm := none, dipActive := false, dipMin := 0, dipStart := 0, porAt := 0,
    startupEnd := 0, beamStart := 0, sillFrac := 0, timeFrac := 0, modeAt := 255,
    axesAt := List.replicate 32 0 ++ List.replicate 8 0xFF, closing := none }

/-- The resume block with nothing to resume (R65, R66, R74). -/
def initResume : Resume :=
  { layer := 0, jobGen := 0, valid := false, sticksValid := false, grainCleared := true, index := List.replicate 48 0xFFFFFFFF, sticks := 0 }

/-- No session, no scheduled command, no transfer, default framing only (R55). -/
def initFront : Front :=
  { sessions := [], sched := [], transfers := [], nextXfer := 1, frames := [], nextFrame := 1, asked := [], remote := [], accepted := [], replied := [], moves := [], fanned := [], spiOut := [], stageOk := [], stage := [],
    coefOk := [], coefs := [], areaOk := [] }

/-- Half A active with no layer, the inactive half EMPTY, no job open (R152, R164). -/
def initLayers : Layers :=
  { halfB := false, active := .none, inactive := .empty, activePkg := none, inactPkg := none, jobOpen := false, jobGen := 0, lastGen := none,
    layerStart := 0, mainBegun := false, resumed := false, preDone := false, sticks := [], uncovered := [], mainUncov := false,
    layersDone := [], sentDone := false, starts := 0 }

/-- The token is free and starts its search at beam 00 (R217). -/
def initTruss : Truss := { token := 0, free := true, claimRound := 0, claimOut := [], gasSent := none }

/-- A port whose clock is stopped (R119). -/
def initChan : Chan :=
  { seq := 0, running := false, targets := [], hold := (0, 0, 0), idleLeft := 0, selNext := 4, goodRun := 0, badRun := 0, nackRun := 0,
    nacks := [], invalids := [], trackX := 0, trackY := 0, trackZ := 0, haveSet := 0, lockedAt := 0, startAt := none, linkSeen := false,
    rdySeen := false, repairs := 0, repairAt := none, fails := [], degs := [], jog := none, scanLag := 0, gateLag := 0, pwrLag := 0,
    words := [], failedAt := none }

/-- An engine with no layer (R187). -/
def initKerf : Kerf :=
  { engine := .off, held := false, starved := false, preheat := false, fifo := [], next := 0, rels := [], queue := [], frontier := 0, pos := origin,
    raw := origin, planned := [], gates := [], past := [], wantStick := false, taken := 0, limit := 0, stick := none, failed := false, failIndex := 0xFFFFFFFF, failAt := 0, notice := false,
    waitSince := none, lastRule := none, blocker := 0, refusals := 0, sticks := 0, waitSent := false, tagSentAt := none, tagMerged := 0,
    starveSet := false, coast := [], chain := false, stickDone := 0, preDone := false, onNs := 0 }

/-- Raster sync without lock (R136). -/
def initRaster : Raster :=
  { locked := false, goodRun := 0, badRun := 0, misplaced := false, facet := 0, lastStamp := 0, periods := [], lostAt := none, waitZero := false }

/-- No excursion open (R238, R239). -/
def initExc : Exc := { runIn := 0, runOut := 0, first := ⟨0, 0, 0, 0, .main 0, 0, 0, 0, false⟩, opened := none }

/-- A camera path that has seen no frame (R241). -/
def initCam : Cam :=
  { inUse := false, lane := 0, lost := false, halfRate := false, validRun := 0, recent := [], stamps := [], lastGood := none, back := false, area := 0, length := 0,
    centX := 0, centY := 0, lastValid := false, noPool := false, lossWaits := none }

/-- 1.0 in u2.14. -/
def unit14 : Nat := 16384

/-- A controller with its integrators at 0 and every factor at 1.0 (R223, R235, R252). -/
def initPlumb : Plumb :=
  { integ := List.replicate 8 0, f := unit14, fOut := unit14, m := unit14, g := unit14, mff := unit14, profile := 0, fallback := false, noFb := false,
    frozen := false, window := 0, sat0 := false, sat1 := false, tempValid := false, int0 := 0, int1 := 0, int0f := 0, int1f := 0, ratio := 0,
    temp := 0, tempf := 0, windowNs := 0, high := false, low := false, backrefl := false, dark0 := [], dark1 := [], clampHi := false,
    clampLo := false, exc := List.replicate 4 initExc, excRecs := 0, excAt := none, excMerged := 0, trace := [], tracing := false,
    cam := initCam, pendProf := [], lastUpd := [], undo := none, ceilings := [] }

/-- An empty map (R68): nothing deposited, nothing cached. -/
def initGrain : Grain :=
  { carry := [], deposits := [], columns := List.replicate 48 [], queries := List.replicate 48 [], tRoll := 0,
    pendRoll := false, rollLayer := 0, pendMat := [], rolling := false, leadMin := none, whole := false, traffic := [] }

/-- No table loaded, no pass (R55, R284). -/
def initScribe : Scribe :=
  { table := .notLoaded, pass := none, scan := none, meas := [], result := none, cause := 0, resid := [], fitAt := 0, invAt := none, invMerged := 0 }

/-- The bytes of a scaler's coefficients at reset (R324): the bilinear set, H then V. -/
def bilinearSet : List Byte :=
  let pair (v : Nat) : List Byte := [BitVec.ofNat 8 (v % 256), BitVec.ofNat 8 (v / 256)]
  let taps (n first p : Nat) : List Byte := (List.range n).flatMap fun t => pair (if t = first then 16384 - 256 * p else if t = first + 1 then 256 * p else 0)
  ((List.range 64).flatMap (taps 8 3)) ++ (List.range 64).flatMap (taps 6 2)

/-- Sixteen layers of zeros, empty rings, the bilinear coefficients, no composition (R315, R319, R324). -/
def initVeneer : Veneer :=
  { current := List.replicate 16 (List.replicate 64 0), pend := List.replicate 16 none, staged := List.replicate 16 none,
    flipFence := List.replicate 16 0, shown := List.replicate 16 none, fencePrev := List.replicate 32 (0, 0), groupHeld := List.replicate 16 0,
    coeffs := List.replicate 4 bilinearSet, pendCoeff := List.replicate 4 none, rings := List.replicate 18 ⟨none, none, none⟩, compose := none,
    swapWait := none, lockUntil := none, nextLive := 0, endSince := [], endWaits := 0, endAt := none, liveAt := none, footprint := [], heatStart := 0 }

/-- A lane in a state, with LOS and LOL as given. -/
def initLane (l : Link) (sig : Bool) : LaneSt :=
  { link := l, since := 0, los := sig, lol := sig, syncOk := false, slip := 0, fails := 0, rescan := false, everUp := false, lostAt := none,
    attempts := 0, manualDone := false }

/-- A joist lane that waits for a rescan (R371, R372). -/
def initJoist : Joist :=
  { lane := initLane .absent true, head := [], bonded := false, half := false, seqOut := [], timeAt := [], echoAt := 0, command := none,
    frame := none, windows := [], sensors := [] }

/-- A rafter port before its lanes start (R374, R375). -/
def initRafter : Rafter :=
  { lanes := List.replicate 4 (initLane .disabled false), inStripe := List.replicate 4 false, erasedAt := List.replicate 4 0, clean := List.replicate 4 false, port := .absent,
    aligns := List.replicate 4 (0, 0), partner := none, timeAt := [], trussSeq := none, seqOut := [], controls := [], ctlSeen := [], segs := [], inMsgs := [], lastMsg := 0,
    stale := false, resync := false }

/-- The registers whose reset value the pin straps decide: ENABLE of the upstream rafter port is 0 in the manager (R374). -/
def initRegs (mgr : Bool) : List (Nat × Word) := if mgr then [(0x08004004, 0)] else []

/-- A chain of one: the manager alone, or a worker that waits for its index (R34). -/
def initChain (mgr : Bool) : Chain :=
  { index := if mgr then 0 else 255, manager := mgr, count := 1, members := [], places := [], forming := false, present := 0, lost := 0, waiting := [], modes := [],
    layers := [], layerDone := [], restart := [] }

/-- No network time (R383): the servo listens. -/
def initTime : TimeUnit :=
  { offset := 0, valid := false, pending := none, rateAdj := 0, iTerm := 0, servo := .listening, lockRun := 0, lastErr := 0, pathDelay := none,
    delays := 0, ptpPort := none, chosen := none, ports := List.replicate 2 ⟨none, 0, []⟩, reqId := 0, reqAt := none, lastT2 := none, sync := none, apply := none,
    linkUp0 := false, linkUp1 := false, everUp0 := false, everUp1 := false }

/-- An axis at rest at position 0 with its gates off (R402, R432). -/
def initAxis : Axis :=
  { p := 0, v := 0, a := 0, target := 0, motion := .rest, why := .none, landing := false, atTarget := false, homed := false, uncertain := false,
    oversh := false, oldDmax := none, newLims := none, limN := false, limP := false, edgesN := [], edgesP := [], restAt := none,
    holding := false, gatesOff := true, homeFrom := 0, stalled := false, stallAt := 0, faultAt := 0, faults := [], iInt := 0, iRef := 0, encBase := 0, fbBase := 0,
    homeWhy := none }

/-- A feedback input that has seen no edge (R433). -/
def initFeed : Feed :=
  { a := false, b := false, z := false, lastEdge := none, dir := 0, teeth := [], errs := 0, revFrom := 0, ref := none, refArmed := false }

/-- 1.0 in the units of a light factor, 10^-13. -/
def unit13 : Int := 10000000000000

/-- A channel that is off and untested (R42, R446). -/
def initLed : Led :=
  { level := (0, 0), staged := none, stagedAt := 0, stagedOld := none, deferred := none, pwmStart := 0, adjOk := false, openOk := false, provedAt := 0, factor := unit13, faults := [] }

/-- The sixteen channels; no test runs. -/
def initLights : Lights :=
  { leds := List.replicate 16 initLed, testing := [], found := 0, failed := List.replicate 4 false, commits := [] }

/-- The histogram limits at reset (R471). -/
def initLimits : List (List Int) :=
  let pow := (List.range 31).map fun i => (2 : Int) ^ i
  let tmp := (List.range 31).map fun i => -2000 + 500 * (i : Int)
  [pow, tmp, tmp, (List.range 31).map fun i => 4600 + 40 * (i : Int), pow]

/-- A Rings image from zero with the reset limits (R472). -/
def initRings : Rings :=
  { seq := 0, commitAt := 0, powerUps := 0, hubSecs := 0, resets := 0, layers := 0, gateOn := List.replicate 48 0, travel := List.replicate 48 0,
    excHist := List.replicate 48 (List.replicate 32 0), hists := List.replicate 4 (List.replicate 32 0), losses := List.replicate 24 0,
    stalls := List.replicate 8 0, homings := List.replicate 8 0, limits := initLimits }

/-- A recorder on a module that has never run: no page committed, its tokens full (R452, R465). -/
def initTally : Tally :=
  { next := 0, pageSeq := 0, writing := none, pre := [], staged := [], lostNow := 0, lostFrom := 0, lostTo := 0, firstArea := [], circ := [],
    tokens := 32, lastEra := 0, ever := false, rings := initRings, ringsNv := [], ringsCopy := 1, ringsSlot := [0, 0], retired := 0, pageFail := 0 }

/-- A module as delivered (R53, R483): slot A holds a bootable ACTIVE image, slot B is EMPTY and no key is programmed (log entry 7). -/
def initSec : Security :=
  { keys := [], slotA := ⟨.active, false, true, 0, 0⟩, slotB := ⟨.empty, false, false, 0, 0⟩, running := some false, secFloor := 0, seq0 := none }

end Sys2Proof.Machine
end

