-- ==== Sys2Proof/Machine/State.lean ====
section
/-! DEFINITION. The state of the block as plain data, the reasons a step can stop, and the state after reset. -/

namespace Sys2Proof.Machine

open Sys2Proof

/-- No command of this block ends in a fault: a command turned away by the spec's checks answers a status, counts or is discarded, and
an event that contradicts the state has no effect (log entry 6). The type is closed and empty. -/
inductive Fault where
deriving DecidableEq, Repr

/-- Why a step is refused. -/
inductive Refusal where
  /-- A command that this model gives no meaning yet; safe: nothing can be proved of what it does. -/
  | notModelled (mnemonic : String)
deriving DecidableEq, Repr

/-- The whole block (INVENTORY.md lists every piece with its rule). `now` is device time in ns from era 0 (R16); `regs` holds every
register that keeps a plain value, under its device address (R31), an unlisted address reading its reset value; `held` the values that
wait in the hold registers of blocks whose clock is gated, in the order written (R25, R493), and `blockOn` says that a command to such a block is being
carried out, for which its clock runs; `mem` is SRAM and
DRAM, `nv` the firmware slots and the configuration blob, `blobOk` the ranges of the blob area that closed transfers wrote (R106); `ue` are the ECC words in error (R527); `draws` counts the free values
taken; `out` is what the last command sent. -/
structure State where
  pending : List Instr
  now     : Nat
  draws   : Nat
  out     : List Out
  regs    : List (Nat × Word)
  held    : List (Nat × Word)
  blockOn : Bool
  mem     : List Host.Cell
  nv      : List Host.Cell
  blobOk  : List (Nat × Nat)
  ue      : List Nat
  mode    : ModeCtl
  safety  : Safety
  power   : Power
  resume  : Resume
  front   : Front
  layers  : Layers
  truss   : Truss
  chans   : Vector Chan 48
  kerfs   : Vector Kerf 48
  rasters : Vector Raster 8
  plumbs  : Vector Plumb 48
  grain   : Grain
  scribes : Vector Scribe 48
  scribeIds : Nat
  veneer  : Veneer
  joists  : Vector Joist 16
  up      : Rafter
  down    : Rafter
  chain   : Chain
  time    : TimeUnit
  axes    : Vector Axis 8
  feeds   : Vector Feed 8
  lights  : Lights
  tally   : Tally
  sec     : Security
deriving DecidableEq, Repr

/-- The machine right after reset: every register at its reset value (R33-R490), no memory written, both latches set, in BOOT before
start-up (R47, R52, R55). -/
def State.reset : State :=
  { pending := [], now := 0, draws := 0, out := [], regs := initRegs true, held := [], blockOn := false, mem := [], nv := [], blobOk := [], ue := []
    mode := initMode, safety := initSafety, power := initPower, resume := initResume, front := initFront, layers := initLayers
    truss := initTruss, chans := Vector.replicate 48 initChan, kerfs := Vector.replicate 48 initKerf, rasters := Vector.replicate 8 initRaster
    plumbs := Vector.replicate 48 initPlumb, grain := initGrain, scribes := Vector.replicate 48 initScribe, scribeIds := 1, veneer := initVeneer
    joists := Vector.replicate 16 initJoist, up := initRafter, down := initRafter, chain := initChain true, time := initTime
    axes := Vector.replicate 8 initAxis, feeds := Vector.replicate 8 initFeed, lights := initLights, tally := initTally, sec := initSec }

end Sys2Proof.Machine
end

