-- ==== Sys2Proof/Machine/Ops.lean ====
section
/-! DEFINITION. The named operations over registers, memory, time, free values and outputs. -/

namespace Sys2Proof.Machine

open Sys2Proof

/-! ## Vectors -/

/-- The vector with `f` applied at one index. -/
def vmod {α : Type} {n : Nat} (v : Vector α n) (i : Fin n) (f : α → α) : Vector α n := v.set i.1 (f (v[i.1]'i.2)) i.2

/-- The vector with `f` applied everywhere. -/
def vmap {α : Type} {n : Nat} (v : Vector α n) (f : Fin n → α → α) : Vector α n :=
  (List.finRange n).foldl (fun w i => vmod w i (f i)) v

/-- The beams, in order. -/
def beams : List (Fin 48) := List.finRange 48

/-! ## Time (00_scope R16, R17) -/

/-- 2^32 ns, the length of an era (R17). -/
def eraLen : Nat := 4294967296

/-- The era of a device time. -/
def eraOf (t : Nat) : Nat := t / eraLen

/-- The ns count of a device time. -/
def nsOf (t : Nat) : Nat := t % eraLen

/-- Era then ns count, 4 bytes each (R98). -/
def timeBytes (t : Nat) : List Byte := leBytes 4 (eraOf t) ++ leBytes 4 (nsOf t)

/-- The device time that 8 bytes give, era then ns. -/
def timeAt (bs : List Byte) (off : Nat) : Nat := leAt bs off 4 * eraLen + leAt bs (off + 4) 4

/-- A command reaches the block: device time never decreases (R16), nothing has been sent yet, and a gated clock that the last command had started is
stopped again (R25). -/
def State.touch (s : State) (t : Nat) : State := { s with now := max s.now t, out := [], blockOn := false }

/-- An interval that a command ends has passed: device time is at least its end. -/
def State.reach (s : State) (t : Nat) : State := { s with now := max s.now t }

/-- What every command leaves as it was: the queue belongs to the step, and device time never decreases (R16). -/
def State.keep (s u : State) : State := { u with pending := s.pending, now := max s.now u.now }

/-- One second, one millisecond and one microsecond, in ns. -/
def second : Nat := 1000000000
def milli : Nat := 1000000
def micro : Nat := 1000

/-! ## Free values and outputs -/

/-- The next value that the spec leaves open (log entry 2). -/
def State.draw (s : State) : Nat × State := (Config.freeNat s.draws, { s with draws := s.draws + 1 })

/-- Something leaves the block. -/
def State.emit (s : State) (o : Out) : State := { s with out := s.out ++ [o] }

/-! ## Registers -/

/-- The list with key `k` holding `v`, in rising order of keys, without entry when `v` is what an unlisted key reads. -/
def putKey {α : Type} [DecidableEq α] (k : Nat) (v d : α) : List (Nat × α) → List (Nat × α)
  | [] => if v = d then [] else [(k, v)]
  | (k', v') :: r =>
    if k' < k then (k', v') :: putKey k v d r
    else if k' = k then (if v = d then r else (k, v) :: r)
    else if v = d then (k', v') :: r else (k, v) :: (k', v') :: r

/-- What key `k` holds. -/
def getKey {α : Type} (k : Nat) (d : α) : List (Nat × α) → α
  | [] => d
  | (k', v') :: r => if k' = k then v' else getKey k d r

/-- The value that a register holds. -/
def State.reg (s : State) (a : Nat) : Word := getKey a (resetOf a) s.regs

/-- A register given a value. -/
def State.setReg (s : State) (a : Nat) (w : Word) : State := { s with regs := putKey a w (resetOf a) s.regs }

/-- A field of a register, as a number. -/
def State.regF (s : State) (a lo len : Nat) : Nat := field (s.reg a) lo len

/-- A flag of a register. -/
def State.regB (s : State) (a lo : Nat) : Bool := flag (s.reg a) lo

/-- A register with one field replaced. -/
def State.setF (s : State) (a lo len v : Nat) : State := s.setReg a (putField (s.reg a) lo len v)

/-- A register with one flag replaced. -/
def State.setB (s : State) (a lo : Nat) (b : Bool) : State := s.setReg a (putFlag (s.reg a) lo b)

/-- A saturating counter raised by `k`. -/
def State.count (s : State) (a : Nat) (k : Nat := 1) : State := s.setReg a (satInc (s.reg a) k)

/-- A 16-bit field counted up, saturating. -/
def State.count16 (s : State) (a lo : Nat) (k : Nat := 1) : State := s.setF a lo 16 (min (s.regF a lo 16 + k) 0xFFFF)

/-! ## Memory (R26-R28, R527) -/

/-- What a byte reads as that nothing has written (log entry 8). -/
def memDefault : Byte := 0

/-- The list form that memory keeps: addresses rise strictly and no entry holds the default. -/
def Memory.wf : List Host.Cell → Bool
  | [] => true
  | [(_, v)] => v != memDefault
  | (a, v) :: (b, w) :: r => decide (a < b) && v != memDefault && Memory.wf ((b, w) :: r)

/-- One byte read. -/
def Memory.read (m : List Host.Cell) (a : Nat) : Byte := getKey a memDefault m

/-- One byte written. -/
def Memory.write (m : List Host.Cell) (a : Nat) (v : Byte) : List Host.Cell := putKey a v memDefault m

/-- Bytes written from an address on. -/
def Memory.writes (m : List Host.Cell) (a : Nat) : List Byte → List Host.Cell
  | [] => m
  | b :: r => Memory.writes (Memory.write m a b) (a + 1) r

/-- `n` bytes read from an address on. -/
def Memory.reads (m : List Host.Cell) (a : Nat) : Nat → List Byte
  | 0 => []
  | n + 1 => Memory.read m a :: Memory.reads m (a + 1) n

/-- `n` bytes made the default, from an address on: what an erased area holds. -/
def Memory.erase (m : List Host.Cell) (a n : Nat) : List Host.Cell := m.filter (fun c => !(decide (a ≤ c.1) && decide (c.1 < a + n)))

/-- The ECC word that an address lies in: 8 bytes in SRAM, 64 in DRAM (R527). -/
def eccWord (a : Nat) : Nat := if a < 0x100000000 then a / 8 * 8 else a / 64 * 64

/-- The length of that ECC word. -/
def eccLen (a : Nat) : Nat := if a < 0x100000000 then 8 else 64

/-- The words in error that a range of bytes meets. -/
def State.ueIn (s : State) (a n : Nat) : List Nat :=
  s.ue.filter fun w => decide (w < a + n) && decide (a < w + eccLen w)

/-- A write of bytes to memory (R527): a word in error that the write covers whole becomes good; bytes that would merge into a word in
error are discarded. -/
def State.writeMem (s : State) (a : Nat) (bs : List Byte) : State :=
  let n := bs.length
  let met := s.ueIn a n
  let whole := met.filter fun w => decide (a ≤ w) && decide (w + eccLen w ≤ a + n)
  let part := met.filter fun w => !(decide (a ≤ w) && decide (w + eccLen w ≤ a + n))
  let m := Memory.writes s.mem a bs
  -- the words met in part keep their stored bytes
  let back := part.foldl (fun m' w => Memory.writes m' w (Memory.reads s.mem w (eccLen w))) m
  { s with mem := back, ue := s.ue.filter fun w => !(whole.contains w) }

/-- The words in error that a write would merge into (R527): each is a fresh detection. -/
def State.ueMerge (s : State) (a n : Nat) : List Nat :=
  (s.ueIn a n).filter fun w => !(decide (a ≤ w) && decide (w + eccLen w ≤ a + n))

/-- Bytes read from memory. -/
def State.readMem (s : State) (a n : Nat) : List Byte := Memory.reads s.mem a n

end Sys2Proof.Machine
end

