-- ==== Sys2Proof/Machine/Tally.lean ====
section
/-! DEFINITION. The Tally recorder (15_tally_rings.md R452-R468): records, merging, the pre-buffer, staging, pages, and audit entries. -/

namespace Sys2Proof.Machine

open Sys2Proof

/-! ## Records (R455-R460) -/

/-- A record's bytes as TALLY_READ returns them: the header of R455, then its body. -/
def TRec.bytes (r : TRec) : List Byte :=
  [BitVec.ofNat 8 r.type, BitVec.ofNat 8 ((8 + r.body.length) / 4)] ++ leBytes 2 (eraOf r.time) ++ leBytes 4 (nsOf r.time) ++ r.body

/-- A record's length in bytes. -/
def TRec.size (r : TRec) : Nat := 8 + r.body.length

/-- The record type of an EVENT, an AUDIT and the others that the model writes (R456). -/
def recEraMark : Nat := 0x01
def recAudit : Nat := 0x02
def recSnapshot : Nat := 0x03
def recReset : Nat := 0x04
def recPowerLost : Nat := 0x05
def recInterrupted : Nat := 0x06
def recStickDone : Nat := 0x07
def recLost : Nat := 0x08
def recShutdown : Nat := 0x09
def recMark : Nat := 0x0A
def recRings : Nat := 0x0B
def recEvent : Nat := 0x10

/-- Path levels 1-4 of a unit, 0xFF-terminated (R457). -/
def path4 (levels : List Nat) : List Byte := ((levels.map (BitVec.ofNat 8)) ++ List.replicate 4 0xFF).take 4

/-- The time field of an event: era_lo then ns. -/
def eraLoNs (t : Nat) : List Byte := leBytes 2 (eraOf t) ++ leBytes 4 (nsOf t)

/-- The body of an EVENT (R457), with no repeats yet. -/
def eventBody (t code sev cls : Nat) (levels : List Nat) (payload : List Byte) : List Byte :=
  leBytes 2 code ++ leBytes 1 sev ++ leBytes 1 cls ++ path4 levels ++ leBytes 2 0 ++ eraLoNs t ++ pad4 (payload.take 232)

/-- The key of an event's payload (R459, R460); none for a code that does not merge. -/
def eventKey (code : Nat) (pl : List Byte) : Option (List Byte) :=
  if code = 0x0001 then some []
  else if code = 0x0400 then some []
  else if code = 0x0701 then some (pl.take 4)
  else if code = 0x0080 then some (pl.take 1)
  else if code = 0x0082 then some ((pl.drop 2).take 1)
  else if code = 0x0081 ∨ code = 0x0D01 ∨ code = 0x0087 ∨ code = 0x0088 ∨ code = 0x0680 ∨ code = 0x0681 ∨ code = 0x0682 ∨ code = 0x0781 then none
  else if code = 0x0A80 then (if byteAt pl 1 = 1 then some ((pl.drop 12).take 8) else none)
  else some pl

/-- Whether a new event of body `body` at time `t` is identical to a record (R459). -/
def TRec.same (r : TRec) (body : List Byte) (t : Nat) : Bool :=
  let code := leAt body 0 2
  r.type == recEvent && (leAt r.body 0 2 == code) && (byteAt r.body 3 == byteAt body 3) && ((r.body.drop 4).take 4 == (body.drop 4).take 4)
    && (match eventKey code (body.drop 16) with
        | none => false
        | some k => eventKey code (r.body.drop 16) == some k && (code != 0x0080 || decide (t < r.last + second)))

/-- One more identical event merged into a record (R459): the repeat count, the last time and the latest values. -/
def TRec.merge (r : TRec) (body : List Byte) (t : Nat) : TRec :=
  let rep := min (leAt r.body 8 2 + 1) 0xFFFF
  { r with body := (body.take 8) ++ leBytes 2 rep ++ eraLoNs t ++ body.drop 16, last := t }

/-- Bytes of records in a page (R453). -/
def pageRoom : Nat := 4060

/-- The records that fit a page of `room` bytes, in order, and the rest. -/
def fitPage : Nat → List TRec → List TRec × List TRec
  | _, [] => ([], [])
  | room, r :: rs =>
    if r.size ≤ room then
      let p := fitPage (room - r.size) rs
      (r :: p.1, p.2)
    else ([], r :: rs)

/-- Records split into pages; `fuel` bounds the pages. -/
def pagesOf : Nat → List TRec → List (List TRec)
  | 0, _ => []
  | fuel + 1, rs =>
    if rs.isEmpty then []
    else
      let p := fitPage pageRoom rs
      p.1 :: pagesOf fuel p.2

/-- The pages in staging. -/
def Tally.pages (t : Tally) : List (List TRec) := pagesOf 600 t.staged

/-- Staging holds up to 512 pages (R465). -/
def Tally.full (t : Tally) : Bool := decide (512 ≤ t.pages.length)

/-- The index after `i`: one whose low 32 bits are all ones is skipped (R458). -/
def nextIndex (i : Nat) : Nat := if (i + 1) % eraLen = 0xFFFFFFFF then i + 2 else i + 1

/-- The first record of a list that a new event is identical to, with it merged there. -/
def mergeInto (body : List Byte) (t : Nat) : List TRec → Option (List TRec × Nat)
  | [] => none
  | r :: rs =>
    if r.same body t then some (r.merge body t :: rs, r.index)
    else match mergeInto body t rs with
      | none => none
      | some (rs', i) => some (r :: rs', i)

/-- TALLY registers that count (R477). -/
def rPagesCommitted : Nat := 0x09000018
def rLostTotal : Nat := 0x0900001C
def rMergedTotal : Nat := 0x09000020

/-- An event that finds no free entry (R464). -/
def State.tallyLose (s : State) : State :=
  let t := s.tally
  let s := s.count rLostTotal
  { s with tally := { t with lostNow := t.lostNow + 1, lostFrom := if t.lostNow = 0 then s.now else t.lostFrom, lostTo := s.now } }

/-- A record enters staging, the pre-buffer, or is lost (R464). A snapshot may take one of the four entries kept for it. Answers the
record's index. -/
def State.tallyNew (s : State) (type : Nat) (body : List Byte) : State × Option Nat :=
  let t := s.tally
  let snaps := (t.pre.filter fun r => r.type == recSnapshot).length
  let room := if type = recSnapshot then decide (snaps < 4) else decide (t.pre.length - snaps < 60)
  let r : TRec := { index := t.next, type := type, time := s.now, body := body, last := s.now }
  if t.full then (s.tallyLose, none)
  else match t.writing with
    | none => ({ s with tally := { t with writing := some r, next := nextIndex t.next } }, some r.index)
    | some _ =>
      if room then ({ s with tally := { t with pre := t.pre ++ [r], next := nextIndex t.next } }, some r.index)
      else (s.tallyLose, none)

/-- An event is recorded: merged with an identical record that is not yet committed, or new (R459, R464). -/
def State.tallyEvent (s : State) (code sev cls : Nat) (levels : List Nat) (payload : List Byte) : State × Option Nat :=
  let body := eventBody s.now code sev cls levels payload
  let t := s.tally
  match mergeInto body s.now t.staged with
  | some (l, i) => (({ s with tally := { t with staged := l } } : State).count rMergedTotal, some i)
  | none =>
    match mergeInto body s.now t.writing.toList with
    | some (l, i) => (({ s with tally := { t with writing := l.head? } } : State).count rMergedTotal, some i)
    | none =>
      match mergeInto body s.now t.pre with
      | some (l, i) => (({ s with tally := { t with pre := l } } : State).count rMergedTotal, some i)
      | none => s.tallyNew recEvent body

/-- A record-only event (R460). -/
def State.note (s : State) (code sev cls : Nat) (levels : List Nat) (payload : List Byte) : State :=
  (s.tallyEvent code sev cls levels payload).1

/-- A record of another type. -/
def State.record (s : State) (type : Nat) (body : List Byte) : State := (s.tallyNew type body).1

/-- The body of a LOST record (R456). -/
def lostBody (n a b : Nat) : List Byte :=
  leBytes 4 n ++ leBytes 2 (eraOf a) ++ leBytes 2 (eraOf b) ++ leBytes 4 (nsOf a) ++ leBytes 4 (nsOf b)

/-- The record being written enters staging and the next entry of the pre-buffer is taken up (R464). -/
def State.stagingDone (s : State) : State :=
  let t := s.tally
  match t.writing with
  | none => s
  | some r =>
    match t.pre with
    | [] => { s with tally := { t with staged := t.staged ++ [r], writing := none } }
    | p :: ps => { s with tally := { t with staged := t.staged ++ [r], writing := some p, pre := ps } }

/-- Everything that waits is written into staging: what a flush or a forced commit does first. -/
def State.tallyDrain (s : State) : State :=
  (List.range 70).foldl (fun st _ => st.stagingDone) s

/-- A device reset loses the record that is crossing into staging, with those that wait behind it (R464, R498): they never get their indices, and count
in the LOST record written after the restart. DESIGN CHOICE (log entry 64): a record made at the instant of the reset itself is written first. -/
def State.cutCrossing (s : State) : State :=
  let t := s.tally
  match t.writing with
  | none => s
  | some r =>
    if r.time = s.now ∨ r.time + (if r.type = recSnapshot then 2500 else 250) ≤ s.now then s
    else
      { s with tally := { t with
        writing := none, pre := [], next := r.index, lostNow := t.lostNow + 1 + t.pre.length, lostFrom := if t.lostNow = 0 then r.time else t.lostFrom
        lostTo := (t.pre.getLast?.map (·.time)).getD r.time } }

/-- The number of pages of the first-records area and of the circular area (R452). -/
def firstPages : Nat := 1024
def circPages : Nat := 4096

/-- How many of a page's two copies fail the check of their CRC now: the spec leaves open when a copy goes bad (R454, log entry 77). -/
def State.copiesBad (s : State) : Nat × State := (bit (Config.copyBad s.draws) + bit (Config.copyBad (s.draws + 1)), { s with draws := s.draws + 2 })

/-- One page of records written to both copies of its area; a copy that fails its read-back is counted and written again into the pool
(R453, R454, R466). -/
def State.commitPage (s : State) (kind : Nat) (recs : List TRec) : State :=
  let q := s.copiesBad
  let s := q.2
  let t := { s.tally with pageFail := s.tally.pageFail + q.1, retired := s.tally.retired + q.1 }
  let first := (recs.map (·.index)).foldl min ((recs.head?.map (·.index)).getD t.next)
  let pg : Page := { kind := kind, seq := t.pageSeq, first := first, eraFloor := eraOf s.now + 256, era := eraOf s.now,
                     recs := recs, copies := (true, true) }
  let t' := if t.firstArea.length < firstPages then { t with firstArea := t.firstArea ++ [pg] }
            else { t with circ := (if t.circ.length < circPages then t.circ else t.circ.drop 1) ++ [pg] }
  ({ s with tally := { t' with pageSeq := t.pageSeq + 1, ever := true } } : State).count rPagesCommitted

/-- The oldest staging page commits. -/
def State.commitOldest (s : State) (kind : Nat) : State :=
  let p := fitPage pageRoom s.tally.staged
  let s := { s with tally := { s.tally with staged := p.2 } }
  s.commitPage kind p.1

/-- Every staged page commits, in order, without tokens: a forced commit or a flush (R465). -/
def State.commitAll (s : State) : State :=
  let s := s.tallyDrain
  (s.tally.pages).foldl (fun st _ => st.commitOldest 1) s

/-- COMMIT_AGE and BURST (R476). -/
def State.commitAge (s : State) : Nat := s.regF 0x09000004 0 8
def State.burst (s : State) : Nat := s.regF 0x09000004 8 8

/-- Whether the oldest staging page is full or as old as COMMIT_AGE (R465). -/
def State.pageDue (s : State) : Bool :=
  match s.tally.staged with
  | [] => false
  | r :: _ => decide (1 < s.tally.pages.length) || decide (r.time + s.commitAge * second ≤ s.now)
      || decide (((fitPage pageRoom s.tally.staged).1.map (·.size)).sum = pageRoom)

/-! ## Audit (R105, R463) -/

/-- The detail of an audit entry. -/
inductive Detail where
  | none
  | regs (l : List (Nat × Word × Word))
  | bulk (kind offset length : Nat) (crc : Word)
  | params (bs : List Byte)
deriving DecidableEq, Repr

/-- The pieces of a detail that one record each holds: the count field and the bytes. Of parameters the first 55 words are kept. -/
def Detail.parts : Detail → List (Nat × List Byte)
  | .none => [(0, [])]
  | .regs l =>
    let one (x : Nat × Word × Word) : List Byte := leBytes 4 x.1 ++ leBytes 4 x.2.1.toNat ++ leBytes 4 x.2.2.toNat
    let n := ceilDiv l.length 18
    if n = 0 then [(0, [])] else tabulate n fun i => let c := (l.drop (18 * i)).take 18; (c.length, (c.map one).flatten)
  | .bulk k o n c => [(0, leBytes 4 k ++ leBytes 8 o ++ leBytes 4 n ++ leBytes 4 c.toNat)]
  | .params bs => let n := min (bs.length / 4) 55; [(n, bs.take (4 * n))]

/-- The detail code of the flags; parameters of no length are no detail. -/
def Detail.code : Detail → Nat
  | .none => 0
  | .regs _ => 1
  | .bulk .. => 2
  | .params bs => if bs.isEmpty then 0 else 3

/-- The number of a port (R463). -/
def portCode : Port → Nat
  | .eth0 => 0
  | .eth1 => 1
  | .spi => 2
  | .rafter => 3

/-- The audit entry of one executed command, in as many records as its detail needs (R463). -/
def State.audit (s : State) (port : Nat) (secure forwarded scheduled : Bool) (session client seq : Word) (opcode : Nat)
    (path : List Byte) (d : Detail) : State :=
  let parts := d.parts
  let n := parts.length
  (List.range n).foldl (fun st i =>
    let p := parts.getD i (0, [])
    let flags := bit (decide (i + 1 < n)) + 2 * bit forwarded + 4 * bit scheduled + 8 * d.code
    st.record recAudit (leBytes 1 port ++ leBytes 1 (bit secure) ++ leBytes 1 flags ++ leBytes 1 p.1 ++ leBytes 4 session.toNat
      ++ leBytes 4 client.toNat ++ leBytes 4 seq.toNat ++ leBytes 2 opcode ++ leBytes 2 i ++ path ++ p.2)) s

/-! ## Rings (R470, R471) -/

/-- The bin of a value (R470): the first limit at or above it, or 31. -/
def histBin (limits : List Int) (v : Int) : Nat := (limits.findIdx fun l => decide (v ≤ l))

/-- A bin of a histogram counted up by `k`. -/
def histAdd (h : List Nat) (limits : List Int) (v : Int) (k : Nat) : List Nat :=
  updAt h (histBin limits v) fun c => min (c + k) 0xFFFFFFFF

/-- The Rings changed. -/
def State.rings (s : State) (f : Rings → Rings) : State := { s with tally := { s.tally with rings := f s.tally.rings } }

/-- Histogram `k` of the device (1-4) counts a value; histograms 1-4 are `hists` 0-3. -/
def State.ringHist (s : State) (k : Nat) (v : Int) : State :=
  s.rings fun r => { r with hists := updAt r.hists (k - 1) fun h => histAdd h (r.limits.getD k []) v 1 }

/-- The Rings image's 12,284 bytes before its CRC (R470). -/
def Rings.body (r : Rings) : List Byte :=
  leBytes 4 0x474E4952 ++ leBytes 2 1 ++ leBytes 2 0 ++ leBytes 8 r.seq ++ timeBytes r.commitAt
    ++ leBytes 4 (0x96480100 + Config.revision.toNat) ++ leBytes 4 r.powerUps ++ leBytes 8 r.hubSecs ++ leBytes 4 r.resets
    ++ leBytes 4 r.layers ++ List.replicate 16 0
    ++ (tabulate 48 fun b => leBytes 8 (r.gateOn.getD b 0) ++ leBytes 8 (r.travel.getD b 0)
          ++ (tabulate 32 fun i => leBytes 4 ((r.excHist.getD b []).getD i 0)).flatten).flatten
    ++ (tabulate 4 fun h => (tabulate 32 fun i => leBytes 4 ((r.hists.getD h []).getD i 0)).flatten).flatten
    ++ (tabulate 24 fun i => leBytes 4 (r.losses.getD i 0)).flatten
    ++ (tabulate 8 fun i => leBytes 4 (r.stalls.getD i 0)).flatten
    ++ (tabulate 8 fun i => leBytes 4 (r.homings.getD i 0)).flatten
    ++ (tabulate 5 fun h => (tabulate 31 fun i => leBytes 4 (unsignedOf 32 ((r.limits.getD h []).getD i 0))).flatten).flatten
    ++ List.replicate 4016 0

/-- The whole image with its CRC. -/
def Rings.image (r : Rings) : List Byte := r.body ++ leBytes 4 (crc32c r.body).toNat

end Sys2Proof.Machine
end

