-- ==== Sys2Proof/Machine/Alerts.lean ====
section
/-! DEFINITION. Packets that the device sends (03 R79-R83, R85, R90), alerts and their queues (R99, R100), and the TIRRIL segments
that carry a worker's packets (11 R363). -/

namespace Sys2Proof.Machine

open Sys2Proof

/-- A device path: levels, closed with 0xFF (R35). -/
def path8 (levels : List Nat) : List Byte := ((levels.map (BitVec.ofNat 8)) ++ List.replicate 8 0xFF).take 8

/-- The full path of a unit of this device. -/
def State.fullPath (s : State) (levels : List Nat) : List Byte := path8 (s.chain.index :: levels)

/-- The 32 header bytes (R80). -/
def headerBytes (version flags : Byte) (opcode len : Nat) (seq : Word) (path : List Byte) (atEra atNs : Nat) (session : Word) : List Byte :=
  [0x46, 0x4A, version, flags] ++ leBytes 2 opcode ++ leBytes 2 len ++ leBytes 4 seq.toNat ++ path ++ leBytes 4 atEra ++ leBytes 4 atNs
    ++ leBytes 4 session.toNat

/-- A packet closed with its CRC (R82). -/
def closeCrc (bs : List Byte) : List Byte := bs ++ leBytes 4 (crc32c bs).toNat

/-- The key in use (R483): that of the highest programmed slot, or zeros. -/
def Security.key (k : Security) : List Byte := k.keys.getLast?.getD (List.replicate 32 0)

/-- The tag of a header and parameters (R83). -/
def tagOf (key bs : List Byte) : List Byte := (hmac key bs).take 16

/-- The TIRRIL segments of a packet (11 R363): pieces of up to 256 bytes with FIRST and LAST flags, CRC under R341. -/
def tirrilSegments (src dst : Nat) (bs : List Byte) : List Msg :=
  let n := max 1 (ceilDiv bs.length 256)
  tabulate n fun i =>
    let pl := (bs.drop (256 * i)).take 256
    let flags := bit (decide (i = 0)) + 2 * bit (decide (i + 1 = n))
    { src := BitVec.ofNat 8 src, dst := BitVec.ofNat 8 dst, flags := BitVec.ofNat 8 flags, seq := BitVec.ofNat 8 i, payload := pl,
      crc := crc32c ([0x30, BitVec.ofNat 8 src, BitVec.ofNat 8 dst, BitVec.ofNat 8 flags] ++ leBytes 2 pl.length ++ [BitVec.ofNat 8 i] ++ pl) }

/-- The next sequence number of a message type on a rafter port (R341: counted per type and direction). -/
def State.nextSeq (s : State) (p : RPort) (type : Nat) : Nat × State :=
  let r := match p with | .up => s.up | .down => s.down
  let n := getKey type 0 r.seqOut
  let r' := { r with seqOut := putKey type ((n + 1) % 256) 0 r.seqOut }
  (n, match p with | .up => { s with up := r' } | .down => { s with down := r' })

/-- The seven header bytes of a message (R341). -/
def msgHead (type : Nat) (m : Msg) : List Byte := [BitVec.ofNat 8 type, m.src, m.dst, m.flags] ++ leBytes 2 m.payload.length ++ [m.seq]

/-- The CRC that a message of a type must carry (R341). -/
def msgCrc (type : Nat) (m : Msg) : Word := crc32c (msgHead type m ++ m.payload)

/-- Whether a message is not discarded: its END came, every block of it is of a known type, and its CRC holds (R339, R341). -/
def msgGood (type : Nat) (m : Msg) : Bool := m.whole && msgCrc type m == m.crc

/-- The exclusive OR of two blocks. -/
def xorBlock (a b : List Byte) : List Byte := List.zipWith (· ^^^ ·) a b

/-- The stripe of three blocks: lane 3 carries their exclusive OR (R355). -/
def stripeOf (control : Bool) (a b c : List Byte) : Stripe := ⟨control, [a, b, c, xorBlock (xorBlock a b) c]⟩

/-- The IDLE block (R339). -/
def idleBlock : List Byte := 0x1E :: List.replicate 7 0

/-- The stripes of a message (R339, R341, R355): START, the payload 24 bytes to a stripe, zero-padded, and END. -/
def msgStripes (type : Nat) (m : Msg) : List Stripe :=
  let n := ceilDiv m.payload.length 24
  let bs := m.payload ++ List.replicate (24 * n - m.payload.length) 0
  let block (i : Nat) : List Byte := (bs.drop (8 * i)).take 8
  stripeOf true (0x78 :: msgHead type m) idleBlock idleBlock
    :: tabulate n (fun i => stripeOf false (block (3 * i)) (block (3 * i + 1)) (block (3 * i + 2)))
    ++ [stripeOf true (0x87 :: leBytes 4 m.crc.toNat ++ List.replicate 3 0) idleBlock idleBlock]

/-- The priority of a rafter message type (R360). -/
def msgPriority (type : Nat) : Nat := if type = 0x20 ∨ type = 0x21 then 1 else if type = 0x01 ∨ type = 0x02 ∨ type = 0x30 then 2 else 0

/-- Whether something that leaves is a message of a port of a lower priority. -/
def Out.yields (p : RPort) (pri : Nat) : Out → Bool
  | .rafter q type _ _ => q == p && decide (pri < msgPriority type.toNat)
  | _ => false

/-- A message leaves on a rafter port, before those of lower priority that the same command sends there (R359). -/
def State.emitRafter (s : State) (p : RPort) (type : Nat) (m : Msg) : State :=
  let i := s.out.findIdx (Out.yields p (msgPriority type))
  { s with out := s.out.take i ++ [.rafter p (BitVec.ofNat 8 type) m (msgStripes type m)] ++ s.out.drop i }

/-- Whether a port carries a stream of stripes: UP or DEGRADED (R355, R374). -/
def Rafter.carries (r : Rafter) : Bool := r.port == .up || r.port == .degraded

/-- A message of a source leaves on a rafter port, with its sequence number and CRC; apart from the handshake and TIME_SYNC (types below 0x10), only while
the port carries a stream. -/
def State.sendFrom (s : State) (p : RPort) (type src dst flags : Nat) (payload : List Byte) : State :=
  if decide (type < 0x10) || (match p with | .up => s.up | .down => s.down).carries then
    let q := s.nextSeq p type
    let m : Msg := { src := BitVec.ofNat 8 src, dst := BitVec.ofNat 8 dst, flags := BitVec.ofNat 8 flags, seq := BitVec.ofNat 8 q.1, payload := payload, crc := 0 }
    q.2.emitRafter p type { m with crc := msgCrc type m }
  else s

/-- A message of this device. -/
def State.sendRafter (s : State) (p : RPort) (type dst flags : Nat) (payload : List Byte) : State := s.sendFrom p type s.chain.index dst flags payload

/-- A rafter port of the device, and a change of it. -/
def State.rport (s : State) : RPort → Rafter
  | .up => s.up
  | .down => s.down
def State.onRport (s : State) (p : RPort) (f : Rafter → Rafter) : State :=
  match p with
  | .up => { s with up := f s.up }
  | .down => { s with down := f s.down }

def State.onChain (s : State) (f : Chain → Chain) : State := { s with chain := f s.chain }

/-- A CONTROL message of a source leaves on a port and is kept for repetition until its hop acknowledges it (R361). -/
def State.controlFrom (s : State) (p : RPort) (src dst : Nat) (payload : List Byte) : State :=
  let q := s.nextSeq p 0x20
  let m : Msg := { src := BitVec.ofNat 8 src, dst := BitVec.ofNat 8 dst, flags := 0, seq := BitVec.ofNat 8 q.1, payload := payload, crc := 0 }
  let m := { m with crc := msgCrc 0x20 m }
  let s := q.2.onRport p fun r => { r with controls := r.controls ++ [⟨m, s.now⟩] }
  if (s.rport p).carries then s.emitRafter p 0x20 m else s

/-- A CONTROL message of this device. -/
def State.sendControl (s : State) (p : RPort) (code dst : Nat) (body : List Byte) : State :=
  s.controlFrom p s.chain.index dst (leBytes 1 code ++ leBytes 3 0 ++ body)

/-- The codes of the CONTROL messages. -/
def ctlHold : Nat := 0x01
def ctlMode : Nat := 0x02
def ctlReport : Nat := 0x03
def ctlLayerDone : Nat := 0x04
def ctlShutdown : Nat := 0x05
def ctlOffset : Nat := 0x0A
def ctlCommit : Nat := 0x0C
def ctlSession : Nat := 0x0D
def ctlAccepted : Nat := 0x0E
def ctlPlan : Nat := 0x0F

/-- From a worker to the manager. -/
def State.toManager (s : State) (code : Nat) (body : List Byte) : State :=
  if s.chain.manager then s else s.sendControl .up code 0 body

/-- A whole packet leaves on a rafter port as TIRRIL segments. -/
def State.sendTirril (s : State) (p : RPort) (dst : Nat) (bs : List Byte) : State :=
  (tirrilSegments s.chain.index dst bs).foldl (fun st m => st.sendRafter p 0x30 dst m.flags.toNat m.payload) s

/-- Whether an Ethernet link is up. -/
def State.linkUp (s : State) : Port → Bool
  | .eth0 => s.time.linkUp0
  | .eth1 => s.time.linkUp1
  | _ => true

/-- Packets that the SPI port queues (log entry 9: the spec bounds the queue of received packets only). -/
def State.spiSend (s : State) (bs : List Byte) : State := { s with front := { s.front with spiOut := s.front.spiOut ++ [bs] } }

/-- The 16-bit words of bytes, most significant byte first, an odd last one closed with 0. -/
def netWords : List Byte → List Nat
  | [] => []
  | [a] => [256 * a.toNat]
  | a :: b :: r => (256 * a.toNat + b.toNat) :: netWords r

/-- The ones' complement checksum of a sum of 16-bit words; a result of 0 is sent as all ones, since 0 says that there is no checksum. -/
def onesSum (n : Nat) : BitVec 16 :=
  let v := 0xFFFF - (if n = 0 then 0 else (n - 1) % 0xFFFF + 1)
  BitVec.ofNat 16 (if v = 0 then 0xFFFF else v)

/-- The checksum of a UDP datagram over its pseudo-header of addresses, protocol and length, its ports, its length and its data (R77). -/
def udpSum (src dst srcPort dstPort : Nat) (bs : List Byte) : BitVec 16 :=
  let n := 8 + bs.length
  let ip (a : Nat) : Nat := a / 65536 % 65536 + a % 65536
  onesSum (ip src + ip dst + 17 + n + srcPort % 65536 + dstPort % 65536 + n + (netWords bs).sum)

/-- A packet leaves at one port; a datagram leaves an Ethernet port from the port's own address (R378) and the UDP port of PKT_CONFIG, with its checksum set (R77). -/
def State.sendAt (s : State) (port : Port) (dest : HostAddr) (bs : List Byte) : State :=
  match port with
  | .spi => s.spiSend bs
  | .rafter => s.sendTirril .up 0 bs
  | .eth0 => s.emit (.packet .eth0 dest (udpSum (s.reg 0x08800010).toNat dest.ip (s.regF 0x3000 0 16) dest.udp bs) bs)
  | .eth1 => s.emit (.packet .eth1 dest (udpSum (s.reg 0x08800410).toNat dest.ip (s.regF 0x3000 0 16) dest.udp bs) bs)

/-- The counters of R111. -/
def rRxOk : Nat := 0x3010
def rRxMalformed : Nat := 0x3014
def rRxCrc : Nat := 0x3018
def rRxAuthFail : Nat := 0x301C
def rRxDuplicate : Nat := 0x3020
def rRxDualDropped : Nat := 0x3024
def rRxDenied : Nat := 0x3028
def rTxReplies : Nat := 0x302C
def rAlertsLost : Nat := 0x3030

/-- The places a session's packets go to (R90): with DUAL every learned port whose link is up, else one address. -/
def Session.dests (se : Session) (s : State) (port : Port) (addr : HostAddr) : List (Port × HostAddr) :=
  if se.dual then
    ((se.addr0.map fun a => (Port.eth0, a)).toList ++ (se.addr1.map fun a => (Port.eth1, a)).toList).filter fun d => s.linkUp d.1
  else [(port, addr)]

/-- An alert packet's bytes (R99). -/
def Alert.bytes (a : Alert) (session : Word) : List Byte :=
  let pl := pad4 (a.payload.take 1392)
  let params := leBytes 2 a.code ++ leBytes 1 a.severity ++ leBytes 1 0 ++ leBytes 4 a.tally.toNat ++ pl
  closeCrc (headerBytes 1 8 0x00F0 params.length (BitVec.ofNat 32 a.seq) a.path (eraOf a.time) (nsOf a.time) session ++ params)

/-- An alert is sent to its session's places. -/
def State.sendAlert (s : State) (se : Session) (a : Alert) : State :=
  (se.dests s se.lastPort se.lastAddr).foldl (fun st d => st.sendAt d.1 d.2 (a.bytes se.id)) s

/-- The session with a slot replaced. -/
def State.setSession (s : State) (se : Session) : State :=
  { s with front := { s.front with sessions := s.front.sessions.map fun x => if x.slot = se.slot then se else x } }

/-- An alert enters one session's queue and is sent, or is lost when the queue is full (R100). -/
def State.queueAlert (s : State) (slot : Fin 8) (code sev : Nat) (tally : Word) (path : List Byte) (time : Nat) (payload : List Byte) : State :=
  match s.front.sessions.find? (fun x => x.slot == slot) with
  | none => s
  | some se =>
    if 256 ≤ se.alerts.length then (s.setSession { se with lostNow := se.lostNow + 1 }).count rAlertsLost
    else
      let a : Alert := { seq := se.alertSeq, code := code, severity := sev, tally := tally, path := path, time := time,
                         payload := payload, sentAt := s.now, resent := 0 }
      (s.setSession { se with alerts := se.alerts ++ [a], alertSeq := se.alertSeq + 1 }).sendAlert se a

/-- An alert goes to every open session that receives its group (R100); a worker also passes it to the manager, which keeps the chain's sessions
(R76, R88, log entry 10), while its own are those of its SPI port (log entry 25). -/
def State.alert (s : State) (code sev : Nat) (tally : Word) (path : List Byte) (payload : List Byte) : State :=
  let s := (s.front.sessions.filter fun x => x.alertMask.getLsbD (code / 256)).foldl
    (fun st se => st.queueAlert se.slot code sev tally path s.now payload) s
  if s.chain.manager then s
  else
    s.sendTirril .up 0 (Alert.bytes { seq := 0, code := code, severity := sev, tally := tally, path := path, time := s.now, payload := payload, sentAt := s.now, resent := 0 } 0)

/-- The low 32 bits of a record's index as an alert carries them; all ones when there is no record (R99, R457). -/
def tallyLow (i : Option Nat) : Word :=
  match i with
  | some n => BitVec.ofNat 32 n
  | none => 0xFFFFFFFF

/-- An event that sends an alert: its record, then the alert (R457). `levels` is the unit's path below the device root. -/
def State.raise (s : State) (code sev cls : Nat) (levels : List Nat) (payload : List Byte) : State :=
  let q := s.tallyEvent code sev cls levels payload
  q.1.alert code sev (tallyLow q.2) (q.1.fullPath levels) payload

/-- The reply's result prefix (R86). -/
def Status.code : Status → Nat
  | .ok => 0x0000
  | .okLate => 0x0001
  | .badOpcode => 0x8001
  | .badParam => 0x8002
  | .denied => 0x8003
  | .late => 0x8004
  | .tooFar => 0x8005
  | .busy => 0x8006
  | .wrongMode => 0x8007
  | .bufShort => 0x8008
  | .noUnit => 0x8009
  | .stepRefused => 0x800A
  | .crc => 0x800B
  | .duplicate => 0x800C
  | .badVersion => 0x800D
  | .badSession => 0x800E
  | .authFail => 0x800F
  | .incomplete => 0x8010
  | .aborted => 0x8011

/-- Whether a status says that the command was executed (bit 15 clear). -/
def Status.done : Status → Bool
  | .ok => true
  | .okLate => true
  | _ => false

/-- A reply's bytes (R85, R86), tagged when the request was secure (R83). -/
def Reply.bytes (r : Reply) (key : List Byte) : List Byte :=
  let params := leBytes 2 r.status.code ++ leBytes 2 r.cause ++ leBytes 4 (min r.value 0xFFFFFFFF) ++ r.path ++ pad4 r.body
  let hp := headerBytes r.version (BitVec.ofNat 8 (2 * bit r.secure)) (r.opcode + (if r.opcode < 0x8000 then 0x8000 else 0)) params.length r.sequence
    r.rpath (eraOf r.time) (nsOf r.time) r.session ++ params
  closeCrc (hp ++ if r.secure then tagOf key hp else [])

end Sys2Proof.Machine
end

