-- ==== Sys2Proof/Machine/Flags.lean ====
section
/-! DEFINITION. UNIT_STATUS of the leaf units and its flags (01 R42), faults, acknowledgement and clearing. -/

namespace Sys2Proof.Machine

open Sys2Proof

/-- The states of UNIT_STATUS (R42). -/
def stOk : Nat := 0
def stDisabled : Nat := 1
def stUnverified : Nat := 2
def stDegraded : Nat := 3
def stAbsent : Nat := 4
def stFault : Nat := 5

/-- The leaf units in the order of the tree (R36). -/
def allLeaves : List Leaf :=
  (List.finRange 48).map .beam ++ (List.finRange 8).map .motor ++ (List.finRange 16).map .led ++ (List.finRange 16).map .joist
    ++ (List.finRange 2).map .rafter ++ [.eth 0, .eth 1, .time, .spi]

/-- A leaf's path below the device root in the default framing (R36). -/
def leafLevels : Leaf → List Nat
  | .beam n => [0, n]
  | .motor n => [1, n]
  | .led n => [2, n]
  | .joist n => [3, n]
  | .rafter n => [4, n]
  | .eth n => [5, n]
  | .time => [5, 2]
  | .spi => [5, 3]

/-- The address of a leaf's UNIT_STATUS (R42, R371, R374, R397, R399, R430, R449). -/
def statusReg : Leaf → Nat
  | .beam n => beamReg n 0
  | .motor n => 0x07000000 + 0x1000 * n
  | .led n => 0x07800000 + 0x100 * n
  | .joist n => 0x08000000 + 0x200 * n
  | .rafter n => 0x08004000 + 0x200 * n
  | .eth n => 0x08800000 + 0x400 * n
  | .time => 0x08801000
  | .spi => 0x08802000

/-- The leaf whose UNIT_STATUS lies at an address. -/
def leafAt (a : Nat) : Option Leaf := allLeaves.find? fun u => statusReg u == a

/-- A leaf's STATE. The SPI port reads OK while SPI_ENABLE is 1 (R399). -/
def State.unitState (s : State) (u : Leaf) : Nat :=
  match u with
  | .spi => if s.regB 0x3000 16 then stOk else stDisabled
  | _ => s.regF (statusReg u) 0 3

/-- A leaf's STATE replaced, with nothing else. -/
def State.setUnit (s : State) (u : Leaf) (st : Nat) : State := s.setF (statusReg u) 0 3 st

/-- A unit's ACK_PENDING. -/
def State.ackPending (s : State) (u : Leaf) : Bool := s.regB (statusReg u) 4

/-- A fault of a unit: it enters `st` (DEGRADED or FAULT), its class and count change (R42), and a FAULT alert with its record follows
(R7). A further fault of a unit that is already in that state, or a worse one, changes the class and the count and writes its record; one of a beam
in FAULT writes its record alone (R133).
`extra` bytes follow UNIT_STATUS in the record (log entry 19). -/
def State.unitFault (s : State) (u : Leaf) (st cls : Nat) (extra : List Byte := []) : State :=
  let a := statusReg u
  let sev := if st = stFault then 2 else 1
  let old := s.unitState u
  let again := old = st ∨ (old = stFault ∧ st = stDegraded)
  let beam := match u with | .beam _ => true | _ => false
  let record (s : State) : State := s.note 0x0001 sev cls (leafLevels u) (leBytes 4 (s.reg a).toNat ++ extra)
  if beam = true ∧ old = stFault then record s
  else if again then record ((s.setF a 8 8 cls).count16 a 16)
  else
    let s := ((s.setF a 0 3 st).setB a 4 true).setF a 8 8 cls
    let s := s.count16 a 16
    let q := s.tallyEvent 0x0001 sev cls (leafLevels u) (leBytes 4 (s.reg a).toNat ++ extra)
    q.1.alert 0x0001 sev (tallyLow q.2) (q.1.fullPath (leafLevels u)) (leBytes 4 (s.reg a).toNat)

/-- Whether a fault of a unit is still present (R42): the causes that the unit's own logic holds. -/
def State.faultActive (s : State) : Leaf → Bool
  | .beam n => let c := s.chans[n.1]'n.2; !c.fails.isEmpty || !c.degs.isEmpty
  | .motor n => !(s.axes[n.1]'n.2).faults.isEmpty
  | .led n => ((s.lights.leds.map (·.faults)).getD n []) != []
  | .joist n => let j := s.joists[n.1]'n.2; (j.lane.link != .up && j.lane.link != .disabled && j.lane.lostAt.isSome) || j.half
  | .rafter n => let r := if n.1 = 0 then s.up else s.down; r.port == .down || r.port == .degraded 
  | .eth n => if n.1 = 0 then s.time.everUp0 && !s.time.linkUp0 else s.time.everUp1 && !s.time.linkUp1
  | .time => s.time.servo == .holdover || s.time.servo == .stepHeld || (s.time.valid && (s.time.servo == .listening || s.time.servo == .acquiring))
  | .spi => false

/-- Whether a unit has been disabled: it then returns to DISABLED instead of OK (R42, R138). -/
def State.unitDisabled (s : State) : Leaf → Bool
  | .beam n => !s.regB (beamReg n 0x1000) 0
  | .led n => !s.regB (0x07800004 + 0x100 * n) 0
  | .joist n => !s.regB (0x08000004 + 0x200 * n) 0
  | .rafter n => !s.regB (0x08004004 + 0x200 * n) 0
  | .eth n => !s.regB (0x08800004 + 0x400 * n) 0
  | _ => false

/-- The state that a unit without fault returns to (R42): DISABLED when it has been disabled, ABSENT for a lane or port whose retraining
ended there (R345) or an LED channel that has not passed its tests (R446), otherwise OK. -/
def State.restState (s : State) (u : Leaf) : Nat :=
  if s.unitDisabled u then stDisabled
  else match u with
    | .joist n => if (s.joists[n.1]'n.2).lane.link == .up then stOk else stAbsent
    | .rafter n => let p := (if n.1 = 0 then s.up else s.down).port; if p == .up then stOk else stAbsent
    | .time => if s.time.servo == .locked || (s.time.servo == .host && s.time.valid) then stOk else if s.time.servo == .disabled then stDisabled else stUnverified
    | .motor n => if s.regF (0x07000004 + 0x1000 * n) 0 2 = 0 then stAbsent else stOk
    | .led n => match s.lights.leds[n.1]? with
      | some l => if l.adjOk && l.openOk then stOk else stAbsent
      | none => stOk
    | _ => stOk

/-- A unit whose faults have cleared and whose ACK_PENDING is clear returns to OK, or to the state of R42's exceptions, with
FAULT_CLEARED. -/
def State.settle (s : State) (u : Leaf) : State :=
  let st := s.unitState u
  if (st = stFault ∨ st = stDegraded) ∧ s.ackPending u = false ∧ s.faultActive u = false then
    let s := s.setUnit u (s.restState u)
    s.raise 0x0002 0 0 (leafLevels u) (leBytes 4 (s.reg (statusReg u)).toNat)
  else s

/-- ACK_PENDING written 1 (R42). -/
def State.ackUnit (s : State) (u : Leaf) : State := (s.setB (statusReg u) 4 false).settle u

/-- Whether any unit of the device is in DEGRADED or FAULT and not acknowledged (R47, cause 0x0C). -/
def State.unacked (s : State) : Bool :=
  allLeaves.any fun u => (s.unitState u == stFault || s.unitState u == stDegraded) && s.ackPending u

end Sys2Proof.Machine
end

