-- ==== Sys2Proof/Machine/Net.lean ====
section
/-! DEFINITION. The Ethernet ports and the time unit (12_network_time.md R376-R396): links, ARP and echo, the choice of the master, path
delay, the servo and steps of OFFSET. Times of PTP are in 0.01 ns, OFFSET in ns (log entry 32). -/

namespace Sys2Proof.Machine

open Sys2Proof

def State.onTime (s : State) (f : TimeUnit → TimeUnit) : State := { s with time := f s.time }

/-- The registers of a port and of the time unit (R397-R400). -/
def ethReg (n : Fin 2) (off : Nat) : Nat := 0x08800000 + 0x400 * n + off
def timeConfig : Nat := 0x08801004
def stepThreshold : Nat := 0x08801008
def servoGains : Nat := 0x0880100C
def servoLock : Nat := 0x08801010
def stepsApplied : Nat := 0x08801034
def stepsRefused : Nat := 0x08801038
def syncMissed : Nat := 0x0880103C
def ptpConfig : Nat := 0x08801048

/-- SOURCE: 0 NONE, 1 PTP, 2 HOST. -/
def State.timeSource (s : State) : Nat := s.regF timeConfig 0 2

/-- Whether PTP is enabled on a port. -/
def State.ptpOn (s : State) (n : Fin 2) : Bool := s.regB ptpConfig (8 + n)

/-- The code of a servo state (R388). -/
def Servo.code : Servo → Nat
  | .disabled => 0
  | .listening => 1
  | .acquiring => 2
  | .tracking => 3
  | .locked => 4
  | .holdover => 5
  | .stepHeld => 6
  | .host => 7

/-! ## Links (R380) -/

/-- ETH_LINK on every port whose link is up, with its record. -/
def State.linkAlert (s : State) (n : Fin 2) (up : Bool) : State :=
  s.raise 0x0A05 (if up then 0 else 1) 0 [5, n] (leBytes 1 n ++ leBytes 1 (bit up) ++ leBytes 2 0)

/-- A link comes up: the unit reads OK from the first time, or recovers under R42. -/
def State.ethUp (s : State) (n : Fin 2) : State :=
  if s.regB (ethReg n 4) 0 = false ∨ s.linkUp (if n = 0 then .eth0 else .eth1) = true then s
  else
    let s := s.onTime fun u => if n = 0 then { u with linkUp0 := true, everUp0 := true } else { u with linkUp1 := true, everUp1 := true }
    let s := s.setF (ethReg n 0x18) 0 3 (1 + 2 + 4 * bit (s.regB (ethReg n 4) 2))
    let s := if s.unitState (.eth n) = stAbsent then s.setUnit (.eth n) stOk else s.settle (.eth n)
    let s := if s.ptpOn n then s.emit (.igmp n) else s
    s.linkAlert n true

/-- PTP leaves a port: the master is chosen anew. -/
def TimeUnit.master (u : TimeUnit) : Option (Nat × Announce) :=
  match u.ptpPort with
  | none => none
  | some n => match u.ports[n.1]? with
    | some p => p.best.map fun a => (n.1, a)
    | none => none

/-- The order of two masters in the best master clock choice (R384): a is better than b. -/
def betterMaster (a b : Announce) : Bool :=
  let key (x : Announce) : List Nat := [x.priority1.toNat, x.clockClass.toNat, x.accuracy.toNat, x.variance.toNat, x.priority2.toNat,
                                         x.identity.toNat, x.stepsRemoved.toNat, x.sender.toNat]
  decide (key a < key b)

/-- The time unit's UNIT_STATUS follows its servo (R388), whose faults `setServo` raises. -/
def State.timeStatus (s : State) : State :=
  let u := s.time
  match u.servo with
  | .holdover | .stepHeld => s
  | _ =>
    if s.faultActive .time then (if s.unitState .time = stDegraded then s else s.unitFault .time stDegraded 0)
    else if s.unitState .time = stDegraded then s.settle .time
    else s.setUnit .time (s.restState .time)

/-- The servo enters a state (R388): LOCKED and HOLDOVER are reported. -/
def State.setServo (s : State) (v : Servo) : State :=
  if s.time.servo = v then s
  else
    let s := s.onTime fun u => { u with servo := v, lockRun := 0 }
    let s := match v with
      | .holdover => s.unitFault .time stDegraded 0x51
      | .stepHeld => s.unitFault .time stDegraded 0x52
      | _ => s.timeStatus
    if v = .locked then s.raise 0x0A00 0 0 [5, 2] (leBytes 4 (unsignedOf 32 s.time.lastErr))
    else if v = .holdover then s.raise 0x0A01 1 0 [5, 2] (leBytes 4 (s.reg syncMissed).toNat)
    else s

/-- The best master of the enabled ports with a link, lower port number first (R385). -/
def State.bestPort (s : State) : Option (Fin 2 × Announce) :=
  let ok (n : Fin 2) : Option (Fin 2 × Announce) :=
    if s.ptpOn n && s.linkUp (if n = 0 then .eth0 else .eth1) then ((s.time.ports.getD n.1 ⟨none, 0, []⟩).best).map fun a => (n, a) else none
  match ok 0, ok 1 with
  | some a, some b => if betterMaster b.2 a.2 then some b else some a
  | some a, none => some a
  | none, b => b

/-- Whether the servo follows PTP here (R384): only in the manager, with SOURCE PTP and a port enabled. -/
def State.ptpRuns (s : State) : Bool := s.chain.manager && s.timeSource == 1 && (s.ptpOn 0 || s.ptpOn 1)

/-- The state of a servo that has no use of Syncs: HELD steps show while they wait (R394). -/
def State.idleServo (s : State) (v : Servo) : Servo := if s.time.pending.isSome then .stepHeld else v

/-- What the time unit knows of a master's path is dropped. -/
def TimeUnit.forget (u : TimeUnit) : TimeUnit := { u with pathDelay := none, delays := 0, sync := none, lastT2 := none, reqAt := none }

/-- A two-step Sync whose Follow_Up can come no more is skipped and counted (R387). -/
def State.dropSync (s : State) : State := if s.time.sync.isSome then (s.onTime fun u => { u with sync := none }).count syncMissed else s

/-- The state of a servo without a master: HOLDOVER once it has held a network time (R388). -/
def State.lostServo (s : State) : State := s.setServo (s.idleServo (if s.time.valid then .holdover else .listening))

/-- The choice of port and master (R385): a move measures the path delay anew, and a new master is announced. -/
def State.chooseMaster (s : State) : State :=
  if s.ptpRuns = false then s
  else match s.bestPort with
    | none => if s.time.ptpPort.isSome then (s.dropSync.onTime fun u => { u.forget with ptpPort := none }).lostServo else s
    | some (n, a) =>
      let sameMaster := s.time.chosen == some a.identity
      if s.time.ptpPort == some n && sameMaster then s
      else
        let s := (s.dropSync.onTime fun u => { u.forget with ptpPort := some n, chosen := some a.identity }).setServo (s.idleServo .acquiring)
        if sameMaster then s
        else s.raise 0x0A04 0 0 [5, 2] (leBytes 1 n ++ leBytes 1 (min 255 a.stepsRemoved.toNat) ++ leBytes 2 0
          ++ (leBytes 8 a.identity.toNat).reverse)

/-- PTP leaves a port whose link is gone (R385, R394): it moves to the other port, or holds over. -/
def State.ptpLeaves (s : State) (n : Fin 2) : State :=
  (s.onTime fun u => { u with ports := updAt u.ports n.1 fun p => { p with best := none } }).chooseMaster

/-- A link goes down (R380): the port faults, and PTP moves or holds over. -/
def State.ethDown (s : State) (n : Fin 2) : State :=
  if s.linkUp (if n = 0 then .eth0 else .eth1) = false then s
  else
    let s := s.onTime fun u => if n = 0 then { u with linkUp0 := false } else { u with linkUp1 := false }
    let s := (s.setF (ethReg n 0x18) 0 3 0).count (ethReg n 0x1C)
    ((s.unitFault (.eth n) stFault 0x50).linkAlert n false).ptpLeaves n

/-- ENABLE of a port changed (R397, R500): an enabled port waits for its link; a disabled one is off. DESIGN CHOICE (log entry 32): a link that was up
then goes down at once, with its alert and record but without the fault and the count of a loss. -/
def State.ethEnable (s : State) (n : Fin 2) (on : Bool) : State :=
  if on then (if s.unitState (.eth n) = stDisabled then s.setUnit (.eth n) stAbsent else s)
  else
    let was := s.linkUp (if n = 0 then .eth0 else .eth1)
    let s := s.onTime fun u => if n = 0 then { u with linkUp0 := false, everUp0 := false } else { u with linkUp1 := false, everUp1 := false }
    let s := s.setF (ethReg n 0x18) 0 3 0
    let st := s.unitState (.eth n)
    let s := if st = stFault ∨ st = stDegraded then s.settle (.eth n) else s.setUnit (.eth n) stDisabled
    if was then (s.linkAlert n false).ptpLeaves n else s

/-- An ARP request for the port's own address is answered (R378). -/
def State.arp (s : State) (n : Fin 2) (sender : HostAddr) (target : Word) : State :=
  if s.regB (ethReg n 4) 0 && target == s.reg (ethReg n 0x10) then (s.count (ethReg n 0x20)).emit (.arp n sender) else s

/-- An echo request to the port's own address, of up to 1,472 bytes of data, is answered (R378). -/
def State.echo (s : State) (n : Fin 2) (sender : HostAddr) (target : Word) (data : List Byte) : State :=
  if s.regB (ethReg n 4) 0 && target == s.reg (ethReg n 0x10) && decide (data.length ≤ 1472) then (s.count (ethReg n 0x20)).emit (.icmp n sender data) else s

/-! ## Latencies (R386) -/

/-- LAT_TX and LAT_RX of a port in 0.01 ns. -/
def State.latTx (s : State) (n : Fin 2) : Nat := if s.regB (ethReg n 4) 1 then (if s.regB (ethReg n 4) 2 then 6420 else 590) else 1230
def State.latRx (s : State) (n : Fin 2) : Nat := if s.regB (ethReg n 4) 1 then (if s.regB (ethReg n 4) 2 then 9860 else 970) else 2010
def State.asym (s : State) (n : Fin 2) : Int := s32 (s.reg (ethReg n 0x38))

/-! ## The servo (R387, R389) -/

/-- The identity of the master in use, or zeros. -/
def State.masterId (s : State) : List Byte :=
  match s.time.master with
  | some (_, a) => (leBytes 8 a.identity.toNat).reverse
  | none => List.replicate 8 0

/-- Eight bytes of a signed count. -/
def s64 (v : Int) : List Byte := leBytes 8 (unsignedOf 64 v)

/-- The code of a mode (R45). -/
def Mode.code : Mode → Nat
  | .sill => 0
  | .boot => 1
  | .config => 2
  | .idle => 3
  | .calibrate => 4
  | .preheat => 5
  | .recoat => 6
  | .expose => 7
  | .pause => 8
  | .hold => 9
  | .service => 10
  | .update => 11

/-- A TIME_STEP record (R390, R460): cause 1 PTP, 2 HOST, 3 FORCE. -/
def State.stepRecord (s : State) (cause : Nat) (refused : Bool) (m : Mode) (old new : Int) : State :=
  s.note 0x0A80 (bit refused) 0 [5, 2] (leBytes 1 cause ++ leBytes 1 (bit refused) ++ leBytes 1 m.code ++ leBytes 1 0 ++ s64 old
    ++ s64 new ++ s.masterId)

/-- OFFSET stepped to a value (R389): counted, recorded and reported. -/
def State.stepTo (s : State) (cause : Nat) (new : Int) : State :=
  let old := s.time.offset
  let s := (s.onTime fun u => { u with offset := new, valid := true, pending := none }).count stepsApplied
  let s := s.stepRecord cause false s.mode.mode old new
  s.raise 0x0A02 0 0 [5, 2] (leBytes 1 cause ++ leBytes 3 0 ++ s64 old ++ s64 new)

/-- Whether steps may be applied in the mode (R389, R391). -/
def State.stepMode (s : State) : Bool := s.mode.mode == .config || s.mode.mode == .idle

/-- The mode against which a Sync is judged (R394): in the cycle of a move, the mode before it. -/
def State.syncMode (s : State) : Mode := if s.mode.entered = s.now then s.mode.prev else s.mode.mode

/-- A step is held (R389): it counts as refused, its record is marked so, and repeats of one PENDING merge. -/
def State.holdStep (s : State) (e : Int) : State :=
  let m := s.syncMode
  let s := ((s.onTime fun u => { u with pending := some e }).setServo .stepHeld).count stepsRefused
  let s := s.stepRecord 1 true m s.time.offset e
  s.raise 0x0A03 1 0 [5, 2] (leBytes 1 m.code ++ leBytes 3 0 ++ s64 e)

/-- A held step is applied at a move into CONFIG or IDLE, with AUTO_STEP (R389). -/
def State.applyHeld (s : State) : State :=
  match s.time.pending with
  | some e => if s.stepMode && s.regB timeConfig 2 then (s.stepTo 1 (s.time.offset + e)).setServo .tracking else s
  | none => s

/-- step_request(e) of R389; one held in the cycle of a move into CONFIG or IDLE is applied at that move (R394). -/
def State.stepRequest (s : State) (e : Int) : State :=
  if (s.syncMode = .config ∨ s.syncMode = .idle) ∧ s.regB timeConfig 2 = true then (s.stepTo 1 (s.time.offset + e)).setServo .tracking
  else (s.holdStep e).applyHeld

/-- The servo's update with t1, t2 and the path delay known (R387): `t1` and `t2` in 0.01 ns, `dt` the Sync interval in ns. -/
def State.servoUpdate (s : State) (n : Fin 2) (t1 t2 : Int) (dt : Nat) (path : Int) : State :=
  let e100 := t1 + s.asym n + path - (t2 + 100 * s.time.offset)
  let e := roundHalfAway e100 100
  let thr : Int := ((s.reg stepThreshold).toNat : Int)
  if s.time.valid = false then (s.onTime fun u => { u with offset := u.offset + e, valid := true }).setServo .tracking
  else
    let gone := s.time.pending.isSome && decide (e100.natAbs ≤ (100 * thr).toNat)
    let s := if gone then (s.onTime fun u => { u with pending := none }).setServo .tracking else s
    let pend := s.time.pending.getD 0
    if 100 * thr < (e100 - 100 * pend).natAbs then s.stepRequest e
    else
      let r100 := e100 - 100 * pend
      let d : Int := ((max dt 1 : Nat) : Int)
      let lim : Int := 200000 * 65536
      let kp : Int := ((s.regF servoGains 0 16 : Nat) : Int)
      let ki : Int := ((s.regF servoGains 16 16 : Nat) : Int)
      let i := clampInt (-lim) lim (s.time.iTerm + Int.tdiv (ki * r100 * 10000000) d)
      let rate := clampInt (-200000) 200000 (roundHalfAway (Int.tdiv (kp * r100 * 10000000) d + i) 65536)
      let r := roundHalfAway r100 100
      let good := decide (r100.natAbs ≤ 100 * s.regF servoLock 0 16)
      let s := s.onTime fun u => { u with iTerm := i, rateAdj := rate, lastErr := clampInt (-2147483648) 2147483647 r, lockRun := if good then u.lockRun + 1 else 0 }
      if s.time.pending.isSome then s
      else if good && decide (s.regF servoLock 16 8 ≤ s.time.lockRun) then (if s.time.servo = .locked then s else s.setServo .locked)
      else if good then (if s.time.servo = .locked ∨ s.time.servo = .tracking then s else let run := s.time.lockRun; (s.setServo .tracking).onTime fun u => { u with lockRun := run })
      else s.setServo .tracking

/-- Whether a message of a master is the one that PTP follows on a port (R384, R385). -/
def State.fromMaster (s : State) (n : Fin 2) (m : PtpTime) : Bool :=
  s.ptpRuns && s.time.ptpPort == some n && m.domain.toNat == s.regF ptpConfig 0 8 && m.sdo.toNat == s.regF ptpConfig 20 4 &&
    (match s.time.master with
     | some (_, a) => a.sender == m.sender
     | none => false)

/-- A master whose Announces have been absent for ANNOUNCE_TIMEOUT intervals is disqualified (R385). -/
def State.dropStale (s : State) : State :=
  let late (p : PtpPort) : Bool := p.best.any fun a => decide (p.since + s.regF ptpConfig 12 4 * a.interval < s.now)
  s.onTime fun u => { u with ports := u.ports.map fun p => if late p then { p with best := none } else p }

/-- Whether an Announce qualifies its sender (R384): the standard asks for fewer than 255 steps removed, and of a master that is not in use yet for a second Announce within
four of its intervals (PRESUMED, log entry 105). -/
def PtpPort.qualifies (p : PtpPort) (a : Announce) (now : Nat) : Bool :=
  decide (a.stepsRemoved.toNat < 255) && ((p.best.any fun b => b.sender == a.sender) || p.heard.any fun h => h.1 == a.sender && decide (now ≤ h.2 + 4 * a.interval))

/-- An Announce (R385): it joins the choice when its port, domain and SDO fit and its sender qualifies. -/
def State.announce (s : State) (n : Fin 2) (a : Announce) : State :=
  if s.ptpRuns = false ∨ s.ptpOn n = false ∨ a.domain.toNat ≠ s.regF ptpConfig 0 8 ∨ a.sdo.toNat ≠ s.regF ptpConfig 20 4 then s
  else
    let s := s.dropStale
    let p := s.time.ports.getD n.1 ⟨none, 0, []⟩
    let take := p.qualifies a s.now && match p.best with
      | some b => b.sender == a.sender || betterMaster a b
      | none => true
    let heard := (a.sender, s.now) :: (p.heard.filter fun h => h.1 != a.sender).take 4
    let s := s.onTime fun u => { u with ports := updAt u.ports n.1 fun _ => if take then ⟨some a, s.now, heard⟩ else { p with heard := heard } }
    s.chooseMaster

/-- A Sync (R387): with its Follow_Up still to come it waits; without a known path delay it is skipped and counted. -/
def State.ptpSync (s : State) (n : Fin 2) (m : PtpTime) (stamp interval : Int) : State :=
  if s.fromMaster n m = false then s
  else
    let t2 := stamp - s.latRx n
    let s := s.dropSync
    if m.twoStep then s.onTime fun u => { u with sync := some (m.seqId, t2, interval) }
    else
      let s := s.onTime fun u => { u with lastT2 := some (m.time, t2) }
      match s.time.pathDelay with
      | some d => s.servoUpdate n m.time t2 interval.toNat d
      | none => s.count syncMissed

/-- A Follow_Up gives a two-step Sync its origin time (R387). -/
def State.ptpFollow (s : State) (n : Fin 2) (m : PtpTime) : State :=
  match s.time.sync with
  | some (id, t2, interval) =>
    if s.fromMaster n m = false ∨ id ≠ m.seqId then s
    else
      let s := s.onTime fun u => { u with sync := none, lastT2 := some (m.time, t2) }
      match s.time.pathDelay with
      | some d => s.servoUpdate n m.time t2 interval.toNat d
      | none => s.count syncMissed
  | none => s

/-- A Delay_Req is sent to the master (R384), with its transmit stamp at the balls (R386). The part of its time below a ns, which device time has (R382) and no command brings,
is free (log entry 106). -/
def State.ptpDelayReq (s : State) : State :=
  match s.time.ptpPort with
  | none => s
  | some n =>
    if s.ptpRuns = false then s
    else
      let id := s.time.reqId + 1
      let d := s.draw
      let s := d.2
      let t3 : Int := 100 * (s.now : Int) + (d.1 % 100 : Nat) + s.latTx n
      (s.onTime fun u => { u with reqId := id, reqAt := some (id, t3) }).emit (.delayReq n id t3)

/-- A Delay_Resp gives the mean path delay (R385): after a move, the second one makes it known. -/
def State.ptpDelayResp (s : State) (n : Fin 2) (m : PtpTime) : State :=
  match s.time.reqAt, s.time.lastT2 with
  | some (id, t3), some (t1, t2) =>
    if s.fromMaster n m = false ∨ id ≠ m.seqId then s
    else
      let d := ((t2 - t1) + (m.time - t3)) / 2
      s.onTime fun u => { u with reqAt := none, delays := min (u.delays + 1) 2, pathDelay := if 1 ≤ u.delays then some d else u.pathDelay }
  | _, _ => s

/-- No usable Sync for the announce timeout (R388): the rate is held and OFFSET kept. A master without Announces for that long is disqualified, and
PTP takes another that is qualified (R385). -/
def State.holdover (s : State) : State :=
  if s.ptpRuns = false ∨ s.time.servo = .holdover ∨ s.time.servo = .listening ∨ s.time.servo = .disabled ∨ s.time.servo = .host then s
  else
    let old := s.time.ptpPort
    let was := s.time.chosen
    let s := s.dropStale.chooseMaster
    if s.time.ptpPort.isSome ∧ (s.time.ptpPort ≠ old ∨ s.time.chosen ≠ was) then s else s.lostServo

/-- SOURCE or the PTP enables changed (R388): the servo takes the state that fits. -/
def State.servoRestart (s : State) : State :=
  let v : Servo := if s.timeSource = 2 then .host else if s.timeSource = 0 ∨ (s.ptpOn 0 = false ∧ s.ptpOn 1 = false) then .disabled else .listening
  let keep := s.ptpRuns && s.time.servo != .host && s.time.servo != .disabled
  if keep then s.chooseMaster
  else (s.dropSync.onTime fun u => { u.forget with ptpPort := none, chosen := none, ports := u.ports.map fun p => { p with best := none } }).setServo v

end Sys2Proof.Machine
end

