-- ==== Sys2Proof/Machine/Kerf.lean ====
section
/-! DEFINITION. Layer packages and their check (05_kerf_exposure.md R152-R162), parameter sets (R160) and the plan of an exposure record
in bed time (R169-R176, R191). -/

namespace Sys2Proof.Machine

open Sys2Proof

/-! ## Records and packages -/

/-- A record's type codes (R158). -/
def tyHatch : Nat := 1
def tyContour : Nat := 2
def tyJump : Nat := 3
def tyDwell : Nat := 4
def tyWobble : Nat := 5
def tyRaster : Nat := 6
def tyMarker : Nat := 7

/-- The 32 bytes of a record (R156). -/
def recOf (bs : List Byte) : Rec :=
  { type := bs.getD 0 0, flags := bs.getD 1 0, pset := bs.getD 2 0, sub := bs.getD 3 0,
    stop := ⟨leS32 bs 4, leS32 bs 8, leS32 bs 12⟩, args := (bs.drop 16).take 16 }

/-- Fields of a record. -/
def Rec.ty (r : Rec) : Nat := r.type.toNat
def Rec.speed (r : Rec) : Nat := leAt r.args 0 4
def Rec.power (r : Rec) : Nat := leAt r.args (if r.ty = tyRaster then 8 else 4) 2
def Rec.isMark (r : Rec) : Bool := r.ty == tyHatch || r.ty == tyContour || r.ty == tyWobble
def Rec.isExposing (r : Rec) : Bool := r.isMark || (r.ty == tyDwell && r.sub.getLsbD 0 == false) || r.ty == tyRaster

/-- Half A or B of the layer-package area (R28). -/
def halfBase (b : Bool) : Nat := if b then 0x180000000 else 0x100000000

/-- The length of a half. -/
def halfLen : Nat := 0x80000000

/-- The bytes of the record at an offset of a half. -/
def State.recAt (s : State) (base off : Nat) : Rec := recOf (s.readMem (base + off) 32)

/-- A package's header and directories as they stand in memory (R153-R155). -/
def State.readPkg (s : State) (base : Nat) : Pkg :=
  let h := s.readMem base 64
  let fl := leAt h 6 2
  { nextIdle := fl % 2 = 1, hasPreheat := fl / 2 % 2 = 1, layer := leWord h 8, jobGen := BitVec.ofNat 16 (leAt h 12 2),
    length := leAt h 16 4, stickCount := leAt h 20 4, stickDir := leAt h 24 4, rasterOff := leAt h 28 4, rasterLen := leAt h 32 4,
    beamMask := BitVec.ofNat 48 (leAt h 36 8),
    beams := tabulate 48 fun b =>
      let e := s.readMem (base + 64 + 16 * b) 16
      { mainOff := leAt e 0 4, mainCount := leAt e 4 4, preOff := leAt e 8 4, preCount := leAt e 12 4, psets := [], raster := false, vector := false } }

/-- Entry k of the stick directory (R155): offset, count and eligible beams. -/
def State.stickEntry (s : State) (base : Nat) (p : Pkg) (k : Nat) : Nat × Nat × BitVec 48 :=
  let e := s.readMem (base + p.stickDir + 16 * k) 16
  (leAt e 0 4, leAt e 4 4, BitVec.ofNat 48 (leAt e 8 6))

/-- A beam's directory entry. -/
def Pkg.beam (p : Pkg) (b : Nat) : BeamDir := p.beams.getD b ⟨0, 0, 0, 0, [], false, false⟩

/-! ## Parameter sets (R160) -/

/-- A parameter set. -/
structure PSet where
  mark      : Nat
  jump      : Nat
  power     : Nat
  skyAll    : Bool
  lon       : Int
  loff      : Int
  jumpDelay : Nat
  markDelay : Nat
  polyDelay : Nat
  polyAngle : Nat
  skyIn     : Nat
  skyOut    : Nat
  longJump  : Nat
  longDelay : Nat
  focus     : Int
  absorb    : Nat
  profile   : Nat
deriving DecidableEq, Repr

/-- Word `k` of set `i` of a beam. -/
def State.psetWord (s : State) (b : Fin 48) (i k : Nat) : Word := s.reg (beamReg b (0x8000 + 0x80 * i + 4 * k))

/-- Parameter set `i` of a beam (R160). -/
def State.pset (s : State) (b : Fin 48) (i : Nat) : PSet :=
  let w (k : Nat) : Word := s.psetWord b i k
  { mark := (w 0).toNat, jump := (w 1).toNat, power := field (w 2) 0 16, skyAll := flag (w 2) 16,
    lon := signed 16 (field (w 3) 0 16), loff := signed 16 (field (w 3) 16 16), jumpDelay := (w 4).toNat, markDelay := (w 5).toNat,
    polyDelay := (w 6).toNat, polyAngle := field (w 7) 0 16, skyIn := (w 8).toNat, skyOut := (w 9).toNat, longJump := (w 10).toNat,
    longDelay := (w 11).toNat, focus := s32 (w 12), absorb := field (w 13) 0 16, profile := field (w 13) 16 3 }

/-- A set is loaded when both speeds are non-zero (R161). -/
def State.psetLoaded (s : State) (b : Fin 48) (i : Nat) : Bool := (s.pset b i).mark != 0 && (s.pset b i).jump != 0

/-- The offsets of the values of a set's 128 bytes that are out of range (R160), each byte of the field at 55 that must be 0 by itself. -/
def psetFaults (bs : List Byte) : List Nat :=
  badAt ([(decide (10000 < leAt bs 0 4), 0), (decide (20000 < leAt bs 4 4), 4), (decide (1 < leAt bs 10 2), 10), (decide (1000000 < leAt bs 16 4), 16)
         , (decide (1000000 < leAt bs 20 4), 20), (decide (1000000 < leAt bs 24 4), 24), (decide (18000 < leAt bs 28 2), 28), (leAt bs 30 2 != 0, 30)
         , (decide (1000000 < leAt bs 32 4), 32), (decide (1000000 < leAt bs 36 4), 36), (decide (1000000 < leAt bs 44 4), 44), (decide (7 < byteAt bs 54), 54)]
        ++ tabulate 73 fun i => (byteAt bs (55 + i) != 0, 55 + i))

/-- The offset of the first field of a set's 128 bytes that is out of range (R160). -/
def psetBad (bs : List Byte) : Option Nat := (psetFaults bs).head?.map (min 55)

/-! ## The package check (R162) -/

/-- The first failure of a check: its code, beam, stick and record. -/
structure CheckFail where
  code  : Nat
  beam  : Nat
  stick : Nat
  index : Nat
deriving DecidableEq, Repr

/-- A failure that concerns no record. -/
def failAt (code : Nat) : CheckFail := ⟨code, 0xFF, 0xFFFF, 0xFFFFFFFF⟩

/-- Whether two byte ranges overlap. -/
def overlaps (a b : Nat × Nat) : Bool := decide (a.1 < b.1 + b.2) && decide (b.1 < a.1 + a.2) && a.2 != 0 && b.2 != 0

/-- Whether any two ranges of a list overlap. -/
def anyOverlap : List (Nat × Nat) → Bool
  | [] => false
  | r :: rs => rs.any (overlaps r) || anyOverlap rs

/-- The byte ranges of the header, the directories, the raster area and the streams. -/
def Pkg.ranges (p : Pkg) : List (Nat × Nat) :=
  [(0, 64), (64, 768), (p.stickDir, 16 * p.stickCount), (p.rasterOff, p.rasterLen)]
    ++ p.beams.flatMap fun b => [(b.mainOff, 32 * b.mainCount), (b.preOff, 32 * b.preCount)]

/-- Bounds of a beam's field (R188). -/
def State.inField (s : State) (b : Fin 48) (p : Pt) : Bool :=
  decide (s32 (s.reg (beamReg b 0x4014)) ≤ p.x) && decide (s32 (s.reg (beamReg b 0x4018)) ≤ p.y)
    && decide (p.x ≤ s32 (s.reg (beamReg b 0x401C))) && decide (p.y ≤ s32 (s.reg (beamReg b 0x4020)))

/-- What a stream is: a main stream, a preheat stream or a stick. -/
inductive StreamKind where
  | main | pre | stick
deriving DecidableEq, Repr

/-- Fields of a record that must be 0 (R156-R159). -/
def Rec.zeros (r : Rec) : Bool :=
  if r.ty = tyHatch ∨ r.ty = tyContour then r.sub == 0 && zeroAt r.args 6 10
  else if r.ty = tyJump then r.sub == 0 && zeroAt r.args 4 12
  else if r.ty = tyDwell then decide (r.sub.toNat ≤ 1) && zeroAt r.args 6 10
  else if r.ty = tyWobble then decide (r.sub.toNat ≤ 1) && zeroAt r.args 6 2
  else if r.ty = tyRaster then r.sub == 0 && zeroAt r.args 10 6
  else if r.ty = tyMarker then decide (r.sub.toNat ≤ 3) && r.stop == ⟨0, 0, 0⟩ && zeroAt r.args 4 12
    && (r.sub == 1 || r.sub == 2 || zeroAt r.args 0 4)
  else false

/-- The flags that a record's type permits (R157). -/
def Rec.flagsOk (r : Rec) : Bool :=
  let allowed : Nat :=
    if r.isMark then 0x05
    else if r.ty = tyJump then 0x02
    else if r.ty = tyDwell ∨ r.ty = tyRaster then 0x04
    else if r.ty = tyMarker ∧ r.sub = 1 then 0x08
    else 0
  (r.flags.toNat &&& allowed) == r.flags.toNat

/-- Speeds, frequencies and the other ranges of R158, and the peak speed of R173. `v` is the mark speed in force. -/
def Rec.rangesOk (r : Rec) (v : Nat) : Bool :=
  if r.ty = tyHatch ∨ r.ty = tyContour then decide (r.speed ≤ 10000)
  else if r.ty = tyJump then decide (r.speed ≤ 20000)
  else if r.ty = tyDwell then decide (2 ≤ r.speed) && decide (r.speed ≤ 100000000)
  else if r.ty = tyWobble then
    let f := leAt r.args 8 4
    let a := leAt r.args 12 4
    -- 2 pi f a in mm/s, in units of 2^-60; a figure-eight's peak is the square root of 2 times as high
    let w := 2 * pi60 * (f * a : Nat) / 100000
    let peak := if r.sub = 0 then w else w * 1414213562 / 1000000000
    decide (r.speed ≤ 10000) && decide (1 ≤ f) && decide (f ≤ 20000) && decide (1 ≤ a) && decide (a ≤ 100000)
      && decide ((v : Int) * one60 + peak ≤ 10000 * one60)
  else if r.ty = tyRaster then leAt r.args 0 2 != 0 && leAt r.args 2 2 != 0
  else true

/-- The code of the first check that a record of a stream fails, in the order of the codes of R162; 0 if none. `who` are the beams
that may execute it, `prev` the end point before it, `first` and `last` its place. -/
def State.recCheck (s : State) (p : Pkg) (kind : StreamKind) (who : List (Fin 48)) (prev : Option Pt) (first last : Bool) (r : Rec) : Nat :=
  let speedOf (b : Fin 48) : Nat := if r.speed = 0 then (s.pset b r.pset.toNat).mark else r.speed
  if r.ty = 0 ∨ tyMarker < r.ty ∨ r.zeros = false then 5
  else if r.flagsOk = false then 6
  else if r.ty = tyMarker ∧ kind = .stick then 7
  else if r.ty = tyMarker ∧ r.sub = 2 ∧ kind = .pre then 7
  else if kind ≠ .stick ∧ last = true ∧ ¬(r.ty = tyMarker ∧ r.sub = 3) then 7
  else if r.ty = tyMarker ∧ r.sub = 3 ∧ last = false then 7
  else if r.ty ≠ tyMarker ∧ who.any (fun b => !s.inField b r.stop) then 8
  else if who.any (fun b => !r.rangesOk (speedOf b)) then 9
  else if r.ty = tyRaster ∧ who.any (fun b => decide (8 ≤ b.val)) then 10
  else if first ∧ ¬(r.ty = tyJump ∨ (r.ty = tyRaster ∧ kind ≠ .stick)) then 11
  else if r.ty = tyDwell ∧ prev ≠ some r.stop then 12
  else if r.isMark ∧ prev = some r.stop then 13
  else if r.ty = tyRaster ∧ 8 * p.rasterLen < 8 * leAt r.args 4 4 + leAt r.args 2 2 then 14
  else 0

/-- The first failing record of a stream, from record `i` on; `n` records remain. -/
def State.streamCheck (s : State) (base : Nat) (p : Pkg) (kind : StreamKind) (who : List (Fin 48)) (off : Nat) : Nat → Nat → Option Pt → Option (Nat × Nat)
  | 0, _, _ => none
  | n + 1, i, prev =>
    let r := s.recAt base (off + 32 * i)
    let c := s.recCheck p kind who prev (i == 0) (n == 0) r
    if c ≠ 0 then some (c, i) else s.streamCheck base p kind who off n (i + 1) (if r.ty = tyMarker then prev else some r.stop)

/-- The parameter sets, raster records and vector records of a stream. -/
def State.streamFacts (s : State) (base off n : Nat) : List Nat × Bool × Bool :=
  let rs := (tabulate n fun i => s.recAt base (off + 32 * i)).filter fun r => r.ty != tyMarker
  ((rs.map fun r => r.pset.toNat).dedup, rs.any fun r => r.ty == tyRaster, rs.any fun r => r.ty != tyRaster)

/-- The beams of a mask. -/
def maskBeams (m : BitVec 48) : List (Fin 48) := beams.filter fun b => m.getLsbD b.val

/-- Whether bytes 14 and 15 of a stick's entry are 0 (R155). -/
def State.stickZeros (s : State) (base : Nat) (p : Pkg) (k : Nat) : Bool := zeroAt (s.readMem (base + p.stickDir + 16 * k) 16) 14 2

/-- The checks of the header and the directories (R162), codes 0x01 to 0x05: the beam directory, bytes 64-831, must lie within length too (R155). The raster area must lie within length (R155): R162 names no code of its own
for that, and it is judged with the streams, as 0x03 (DEDUCED, log entry 46). Its offset is not checked to be a multiple of 4 for the same reason
(R153, DESIGN CHOICE, log entry 46). -/
def State.headCheck (s : State) (base : Nat) (p : Pkg) : Option CheckFail :=
  let h := s.readMem base 64
  if leAt h 0 4 ≠ 0x504C464B ∨ leAt h 4 2 ≠ 1 then some (failAt 1)
  else if p.length % 32 ≠ 0 ∨ p.length < 64 ∨ halfLen < p.length then some (failAt 2)
  else if p.length < 832 then some (failAt 3)
  else if leAt h 6 2 / 4 ≠ 0 ∨ leAt h 14 2 ≠ 0 ∨ zeroAt h 44 20 = false ∨ leAt h 42 2 ≠ 0 then some (failAt 5)
  else
    let bad := beams.find? fun b =>
      let d := p.beam b.val
      let inMask := p.beamMask.getLsbD b.val
      d.mainOff % 32 != 0 || d.preOff % 32 != 0 || decide (p.length < d.mainOff + 32 * d.mainCount)
        || decide (p.length < d.preOff + 32 * d.preCount) || (inMask && d.mainCount == 0)
        || (!inMask && (d.mainOff != 0 || d.mainCount != 0 || d.preOff != 0 || d.preCount != 0))
    match bad with
    | some b => some ⟨3, b, 0xFFFF, 0xFFFFFFFF⟩
    | none =>
      let sr := if 16384 < p.stickCount then [] else tabulate p.stickCount fun k => let e := s.stickEntry base p k; (e.1, 32 * e.2.1)
      if anyOverlap p.ranges ∨ p.length < p.rasterOff + p.rasterLen then some (failAt 3)
      else if 16384 < p.stickCount ∨ (p.stickCount = 0 ∧ p.stickDir ≠ 0) ∨ p.stickDir % 16 ≠ 0 ∨ p.length < p.stickDir + 16 * p.stickCount then some (failAt 4)
      else
        let badStick := (List.range p.stickCount).find? fun k =>
          let e := s.stickEntry base p k
          e.2.1 == 0 || decide (65535 < e.2.1) || e.1 % 32 != 0 || decide (p.length < e.1 + 32 * e.2.1)
            || e.2.2 &&& ~~~p.beamMask != 0 || p.ranges.any (overlaps (e.1, 32 * e.2.1))
        match badStick with
        | some k => some ⟨4, 0xFF, k, 0xFFFFFFFF⟩
        | none =>
          if anyOverlap sr then some (failAt 4)
          else ((List.range p.stickCount).find? fun k => !s.stickZeros base p k).map fun k => ⟨5, 0xFF, k, 0xFFFFFFFF⟩

/-- The check of the records of all streams and sticks. -/
def State.bodyCheck (s : State) (base : Nat) (p : Pkg) : Option CheckFail :=
  let ofBeam (b : Fin 48) : Option CheckFail :=
    let d := p.beam b.val
    match s.streamCheck base p .main [b] d.mainOff d.mainCount 0 none with
    | some (c, i) => some ⟨c, b, 0xFFFF, i⟩
    | none => (s.streamCheck base p .pre [b] d.preOff d.preCount 0 none).map fun ci => ⟨ci.1, b, 0xFFFF, ci.2⟩
  match (maskBeams p.beamMask).findSome? ofBeam with
  | some f => some f
  | none => (List.range p.stickCount).findSome? fun k =>
      let e := s.stickEntry base p k
      (s.streamCheck base p .stick (maskBeams e.2.2) e.1 e.2.1 0 none).map fun ci => ⟨ci.1, 0xFF, k, ci.2⟩

/-- The facts that the check records for each beam (R162). -/
def State.pkgFacts (s : State) (base : Nat) (p : Pkg) : Pkg :=
  let sticks := tabulate p.stickCount fun k => s.stickEntry base p k
  { p with beams := tabulate 48 fun b =>
      let d := p.beam b
      let own := [s.streamFacts base d.mainOff d.mainCount, s.streamFacts base d.preOff d.preCount]
      let sh := (sticks.filter fun e => e.2.2.getLsbD b).map fun e => s.streamFacts base e.1 e.2.1
      let all := own ++ sh
      { d with psets := (all.flatMap (·.1)).dedup, raster := all.any (·.2.1), vector := all.any (·.2.2) } }

/-! ## The plan of a record (R169-R176) -/

/-- A BEAM cycle and a scanner tick, in ns. -/
def cyc : Nat := 2
def tickNs : Nat := 250

/-- Ticks that a number of BEAM cycles takes, rounded up (R170). -/
def ticksOf (cycles : Nat) : Nat := ceilDiv cycles 125

/-- The tick boundary at or after a time. -/
def tickCeil (t : Nat) : Nat := ceilDiv t tickNs * tickNs

/-- The length of a motion in bed units, X and Y only, rounded up (R169). -/
def motionLen (p q : Pt) : Nat := isqrtUp ((q.x - p.x) * (q.x - p.x) + (q.y - p.y) * (q.y - p.y)).toNat

/-- The ticks that a motion takes at a speed in mm/s (R169). -/
def motionTicks (len v : Nat) : Nat := ceilDiv (len * 40) (max v 1)

/-- The point `k` of `n` ticks along a motion (R169). -/
def motionAt (p q : Pt) (k n : Nat) : Pt :=
  if n = 0 then q
  else ⟨p.x + roundHalfAway ((q.x - p.x) * k) n, p.y + roundHalfAway ((q.y - p.y) * k) n, p.z + roundHalfAway ((q.z - p.z) * k) n⟩

/-- A point `d` bed units from `p` along the direction of a motion from `a` to `b` (negative: before it), rounded. -/
def extend (p a b : Pt) (d : Int) : Pt :=
  let l2 := ((b.x - a.x) * (b.x - a.x) + (b.y - a.y) * (b.y - a.y)).toNat
  let l := isqrt (l2 * 2 ^ 64)
  if l = 0 then p
  else
    let f (c : Int) : Int := roundHalfAway (c * d * 2 ^ 32) l
    ⟨p.x + f (b.x - a.x), p.y + f (b.y - a.y), p.z + f (b.z - a.z)⟩

/-- A straight motion, or a hold. -/
def straight (t0 n : Nat) (p q : Pt) : Seg := ⟨t0, n, p, q, 0, 0, 0, n⟩

/-- The target of a segment at a bed tick, with the figure of a wobble added (R173). -/
def Seg.at (g : Seg) (tick : Nat) : Pt :=
  let k := min (tick - g.t0) (min g.n g.cut)
  let p := motionAt g.p g.q k g.n
  if g.wob = 0 then p
  else
    let l2 := ((g.q.x - g.p.x) * (g.q.x - g.p.x) + (g.q.y - g.p.y) * (g.q.y - g.p.y)).toNat
    let l := isqrt (l2 * 2 ^ 64)
    if l = 0 then p
    else
      let ux : Int := (g.q.x - g.p.x) * 2 ^ 32 * one60 / l
      let uy : Int := (g.q.y - g.p.y) * 2 ^ 32 * one60 / l
      -- theta is f * k * 250 ns of a turn
      let turn : Int := (g.freq * (k * 250) : Nat)
      let along := if g.wob = 1 then (g.amp : Int) * (cosTurn turn second - one60) else (g.amp : Int) * sinTurn (2 * turn) second / 2
      let across := (g.amp : Int) * sinTurn turn second
      ⟨p.x + round60 (mul60 along ux - mul60 across uy), p.y + round60 (mul60 along uy + mul60 across ux), p.z⟩

/-- Whether a record is driven with skywriting (R176). -/
def skyOn (r : Rec) (ps : PSet) : Bool := r.isMark && (r.flags.getLsbD 0 || ps.skyAll)

/-- The angle between two directions exceeds a limit in 0.01 degrees (R172). -/
def turnsOver (a b c : Pt) (limit : Nat) : Bool :=
  let ux := b.x - a.x; let uy := b.y - a.y
  let vx := c.x - b.x; let vy := c.y - b.y
  let dot := ux * vx + uy * vy
  let nn := isqrt (((ux * ux + uy * uy) * (vx * vx + vy * vy)).toNat * 2 ^ 64)
  decide (dot * 2 ^ 32 * one60 < cosTurn limit 36000 * nn)

/-- What a record's plan needs to know besides the record: the engine's position, the end point of the motion record before it, the record after it, the
start, the completion of the record before it, and whether it continues a contour chain. -/
structure PlanIn where
  beam     : Fin 48
  place    : Place
  r        : Rec
  next     : Option Rec
  pos      : Pt
  raw      : Pt
  start    : Nat
  prevDone : Nat
  chained  : Bool
  round    : Nat
deriving DecidableEq, Repr

/-- The polygon facets ahead of a raster beam (R136): the facet period in BEAM cycles and the first predicted line start, in ns, at or
after a time. -/
def State.rasterStart (s : State) (b : Fin 48) (after : Nat) : Nat × Nat :=
  let period := max 1 (s.regF (beamReg b 0x6010) 0 24)
  let r := if h : b.val < 8 then some (s.rasters[b.val]'h) else none
  match r with
  | none => (period, after)
  | some rs =>
    let facets := max 1 (s.regF (beamReg b 0x6000) 8 6)
    let sol := s.regF (beamReg b 0x6008) 0 24
    -- the average of each facet's own periods, the average of all where it has none yet
    let own (f : Nat) : Nat :=
      let l := rs.periods.getD f []
      if l.isEmpty then period * cyc else l.sum / l.length
    let turn := ((List.range facets).map own).sum
    let ahead (k : Nat) : Nat := k / facets * turn + ((List.range (k % facets)).map fun i => own ((rs.facet + 1 + i) % facets)).sum
    let line (k : Nat) : Int :=
      let f := (rs.facet + k) % facets
      (rs.lastStamp + ahead k + sol * cyc : Nat) + 2 * signed 16 (s.reg (beamReg b (0x6100 + 4 * f))).toNat
    -- the first facet at or after the time, among as many as the wait can span
    let k0 := (after - rs.lastStamp) / max 1 turn * facets
    let ok := (tabulate (3 * facets) fun i => k0 - facets + i).filter fun k => decide ((after : Int) ≤ line k)
    (period, (line (ok.headD (k0 + 2 * facets))).toNat)

/-- Whether raster lines may start: the sync is locked and, after a loss, facet 0 has passed (R137). -/
def State.rasterReady (s : State) (b : Fin 48) : Bool :=
  if h : b.val < 8 then (s.rasters[b.val]'h).locked && !(s.rasters[b.val]'h).waitZero else false

/-- Runs of set bits: start and end pixel of each, over the first `n` pixels of a bit list. -/
def runsOf : List Bool → Nat → Option Nat → List (Nat × Nat)
  | [], i, some a => [(a, i)]
  | [], _, none => []
  | true :: bs, i, none => runsOf bs (i + 1) (some i)
  | true :: bs, i, some a => runsOf bs (i + 1) (some a)
  | false :: bs, i, some a => (a, i) :: runsOf bs (i + 1) none
  | false :: bs, i, none => runsOf bs (i + 1) none

/-- The pixel bits of a raster line (R158). -/
def State.pixels (s : State) (r : Rec) : List Bool :=
  match s.layers.activePkg with
  | none => []
  | some p =>
    let n := leAt r.args 2 2
    let bs := s.readMem (halfBase s.layers.halfB + p.rasterOff + leAt r.args 4 4) ((n + 7) / 8)
    tabulate n fun k => (bs.getD (k / 8) 0).getLsbD (k % 8)

/-- A record without motion that completes at once. -/
def idleRel (i : PlanIn) : Rel :=
  { place := i.place, record := i.r, start := i.start, begins := i.start, complete := i.start, segs := [], gates := [], pieces := [], round := i.round
    endPt := i.pos, rawEnd := i.raw, clamped := 0, fromPt := i.pos, fromRaw := i.raw, fromDone := i.prevDone, fromChain := i.chained }

/-- A point with the focus offset of a set (R169). -/
def Pt.lift (p : Pt) (ps : PSet) : Pt := ⟨p.x, p.y, p.z + ps.focus⟩

/-- The start point of a skywriting mark's run-in, when the mark starts at `p` (R176). -/
def runInStart (m : Rec) (ps : PSet) (p : Pt) : Pt := extend p p m.stop (-(ps.skyIn : Int))

/-- Where a beam that comes from elsewhere goes before a record that starts at `p` (R176, R180): the run-in start of a mark with skywriting, else
`p`. -/
def State.entryPoint (s : State) (b : Fin 48) (r : Rec) (p : Pt) : Pt :=
  let ps := s.pset b r.pset.toNat
  if skyOn r ps then runInStart r ps p else p

/-- The plan of a jump (R169, R170). -/
def State.planJump (s : State) (i : PlanIn) : Rel :=
  let ps := s.pset i.beam i.r.pset.toNat
  let e := match i.next with
    | some m => s.entryPoint i.beam m i.r.stop
    | none => i.r.stop
  let len := motionLen i.pos e
  let n := motionTicks len (if i.r.speed = 0 then ps.jump else i.r.speed)
  let d := if len = 0 then 0 else ticksOf (if ps.longJump ≠ 0 ∧ ps.longJump < len then ps.longDelay else ps.jumpDelay)
  let t0 := i.start / tickNs
  { idleRel i with
      complete := i.start + (n + d) * tickNs, endPt := e, rawEnd := i.r.stop,
      segs := [straight t0 n (i.pos.lift ps) (e.lift ps), straight (t0 + n) d (e.lift ps) (e.lift ps)] }

/-- The plan of a mark: hatch, contour or wobble (R169-R173, R176). It starts at the end point of the motion record before it. DESIGN CHOICE (log entry 80): a
beam that stands elsewhere (the record before it was no jump to its run-in start, or ended with a run-out) first goes to its run-in start, or
to its start, with the gate closed at its set's jump speed. DESIGN CHOICE (log entry 95): with a negative LON the gate may open before the mark's first target, as R171
says, also when that falls into the ticks of a hold. -/
def State.planMark (s : State) (i : PlanIn) : Rel :=
  let ps := s.pset i.beam i.r.pset.toNat
  let isC := i.r.ty == tyContour
  let joins := isC && (match i.next with | some m => m.ty == tyContour | none => false)
  let sky := skyOn i.r ps
  let v := if i.r.speed = 0 then ps.mark else i.r.speed
  let m0 := i.raw
  let e := i.r.stop
  let ris := if i.chained then m0 else s.entryPoint i.beam i.r m0
  let nBack := motionTicks (motionLen i.pos ris) ps.jump
  let nIn := motionTicks (motionLen ris m0) v
  let n0 := motionTicks (motionLen m0 e) v
  let n := if n0 = 0 then 1 else n0
  let dOut := if sky && !joins then ps.skyOut else 0
  let o : Pt := if dOut = 0 then e else extend e m0 e dOut
  let nOut := if dOut = 0 then 0 else motionTicks (motionLen e o) v
  let corner := if joins then (match i.next with
      | some m => if turnsOver m0 e m.stop ps.polyAngle then ticksOf ps.polyDelay else 0
      | none => 0) else 0
  let mdelay := if !joins && !sky && (match i.next with | some m => m.ty == tyJump | none => false) then ticksOf ps.markDelay else 0
  let t0 := i.start / tickNs
  let t1 := t0 + nBack + nIn
  let ms := i.start + (nBack + nIn) * tickNs
  let me := ms + n * tickNs
  let lastT := me + (nOut + corner + mdelay) * tickNs
  let openRaw : Int := if i.chained then ms else (ms : Int) + 2 * ps.lon
  let stop : Int := if joins then (me : Int) + (corner * tickNs : Nat) else (me : Int) + 2 * ps.loff
  let opn : Int := max openRaw i.prevDone
  let moved := if openRaw < (i.prevDone : Int) then 1 else 0
  let emits := decide (opn < stop)
  let done := max lastT (if emits then stop.toNat else 0)
  let infl := if i.r.ty = tyWobble then (if i.r.sub = 0 then 2 * leAt i.r.args 12 4 else leAt i.r.args 12 4) else 0
  let pow := if i.r.power = 0 then ps.power else i.r.power
  let mv : Piece := ⟨ms, me, m0.x, m0.y, e.x, e.y, infl, false⟩
  let pre := if opn < (ms : Int) ∧ emits then [(⟨opn.toNat, ms, m0.x, m0.y, m0.x, m0.y, infl, false⟩ : Piece)] else []
  let post := if (me : Int) < stop ∧ emits then [(⟨me, stop.toNat, e.x, e.y, e.x, e.y, infl, false⟩ : Piece)] else []
  { idleRel i with
      complete := done, endPt := o, rawEnd := e, clamped := moved + bit (!emits),
      segs := [straight t0 nBack (i.pos.lift ps) (ris.lift ps), straight (t0 + nBack) nIn (ris.lift ps) (m0.lift ps),
               ⟨t1, n, m0.lift ps, e.lift ps, if i.r.ty = tyWobble then 1 + i.r.sub.toNat else 0, leAt i.r.args 12 4, leAt i.r.args 8 4, n⟩,
               straight (t1 + n) nOut (e.lift ps) (o.lift ps)],
      gates := if emits then [⟨opn.toNat, stop.toNat, pow, i.r.pset.toNat, ps.profile, i.r.flags.getLsbD 2, i.place, e.x - m0.x, e.y - m0.y⟩] else [],
      pieces := pre ++ [mv] ++ post }

/-- The plan of a dwell (R174), after the way back of log entry 80. -/
def State.planDwell (s : State) (i : PlanIn) : Rel :=
  let ps := s.pset i.beam i.r.pset.toNat
  let e := i.r.stop
  let nBack := motionTicks (motionLen i.pos e) ps.jump
  let t0 := i.start / tickNs
  let from_ := i.start + nBack * tickNs
  let stop := from_ + i.r.speed
  let waits := i.r.sub.getLsbD 0
  { idleRel i with
      complete := tickCeil stop, endPt := e, rawEnd := e
      segs := [straight t0 nBack (i.pos.lift ps) (e.lift ps), straight (t0 + nBack) (ceilDiv i.r.speed tickNs) (e.lift ps) (e.lift ps)],
      gates := if waits then [] else [⟨from_, stop, if i.r.power = 0 then ps.power else i.r.power, i.r.pset.toNat, ps.profile, i.r.flags.getLsbD 2, i.place, 0, 0⟩],
      pieces := if waits then [] else [⟨from_, stop, e.x, e.y, e.x, e.y, 0, false⟩] }

/-- The plan of a raster line (R175, R191): its piece is one capsule that stands still. DESIGN CHOICE (log entry 94): a pixel boundary between two BEAM cycles is
rounded down to the earlier one. -/
def State.planRaster (s : State) (i : PlanIn) : Rel :=
  let ps := s.pset i.beam i.r.pset.toNat
  let e := i.r.stop
  let q := s.rasterStart i.beam (i.start + tickNs + ps.jumpDelay * cyc)
  let nominal := max 1 (s.regF (beamReg i.beam 0x6004) 0 24)
  let px := leAt i.r.args 0 2
  let count := leAt i.r.args 2 2
  -- the time of pixel boundary k, rounded to a BEAM cycle
  let edge (k : Nat) : Nat := q.2 + k * px * q.1 / nominal * cyc
  let pow := if i.r.power = 0 then ps.power else i.r.power
  let runs := runsOf (s.pixels i.r) 0 none
  let span := s.reg (0x04000080 + 8 * i.beam.val)
  let dir := s.regF (0x04000084 + 8 * i.beam.val) 0 16
  let dx := round60 (cosTurn dir 36000 * span.toNat)
  let dy := round60 (sinTurn dir 36000 * span.toNat)
  let tol := s.regF (beamReg i.beam 0x6000) 16 16
  let dur := (ps.jumpDelay + q.1 + count * px * q.1 / nominal + tol) * cyc
  { idleRel i with
      begins := q.2, complete := tickCeil (edge count), endPt := e, rawEnd := e, segs := [straight (i.start / tickNs) 1 (i.pos.lift ps) (e.lift ps)],
      gates := runs.map fun r => ⟨edge r.1, edge r.2, pow, i.r.pset.toNat, ps.profile, i.r.flags.getLsbD 2, i.place, dx, dy⟩,
      pieces := [⟨i.start, i.start + dur, e.x, e.y, e.x + dx, e.y + dy, 0, true⟩] }

/-- The plan of a record from its start on. -/
def State.planRec (s : State) (i : PlanIn) : Rel :=
  if i.r.ty = tyJump then s.planJump i
  else if i.r.isMark then s.planMark i
  else if i.r.ty = tyDwell then s.planDwell i
  else if i.r.ty = tyRaster then s.planRaster i
  else idleRel i

/-! ## Where a beam's target is -/

/-- The tick after which a segment moves no more. -/
def Seg.last (g : Seg) : Nat := g.t0 + min g.n g.cut

/-- The planned target at a bed tick: that of the segment it lies in, else the last target of a segment before it, else the position. -/
def segTarget (segs : List Seg) (tick : Nat) (dflt : Pt) : Pt :=
  match segs.find? (fun g => decide (g.t0 < tick) && decide (tick ≤ g.last)) with
  | some g => g.at tick
  | none =>
    match (segs.filter fun g => decide (g.last < tick)).getLast? with
    | some g => g.at g.last
    | none => dflt

/-- A beam's segments, first those still sent after a stop; a failed beam has no others (R132). -/
def Kerf.allSegs (k : Kerf) : List Seg := if k.failed then k.coast else k.coast ++ k.rels.flatMap (·.segs)

/-- A beam's target at a bed tick. Before the first segment it is that segment's start. -/
def Kerf.target (k : Kerf) (tick : Nat) : Pt :=
  match k.allSegs with
  | [] => k.pos
  | g :: _ => segTarget k.allSegs tick g.p

end Sys2Proof.Machine
end

