-- ==== Sys2Proof/Machine/Engine.lean ====
section
/-! DEFINITION. The Kerf engines as they run (05 R166-R168, R177-R183): the record FIFO, release and withdrawal of records, stops, and
the layer's states. -/

namespace Sys2Proof.Machine

open Sys2Proof

/-- A beam's engine. -/
def State.kerf (s : State) (b : Fin 48) : Kerf := s.kerfs[b.val]'b.isLt

/-- A beam's engine changed. -/
def State.onKerf (s : State) (b : Fin 48) (f : Kerf → Kerf) : State := { s with kerfs := vmod s.kerfs b f }

/-- A beam's channel, and a change of it. -/
def State.chan (s : State) (b : Fin 48) : Chan := s.chans[b.val]'b.isLt
def State.onChan (s : State) (b : Fin 48) (f : Chan → Chan) : State := { s with chans := vmod s.chans b f }

/-- The layer machinery changed. -/
def State.onLayers (s : State) (f : Layers → Layers) : State := { s with layers := f s.layers }

/-- Addresses of the Kerf registers of a beam (R187-R189). -/
def kfLastDone (b : Fin 48) : Nat := beamReg b 0x4004
def kfTag (b : Fin 48) : Nat := beamReg b 0x4010
def kfRecords (b : Fin 48) : Nat := beamReg b 0x4024
def kfStarved (b : Fin 48) : Nat := beamReg b 0x4028
def kfHeldTicks (b : Fin 48) : Nat := beamReg b 0x402C
def kfBreaks (b : Fin 48) : Nat := beamReg b 0x4030
def kfClamped (b : Fin 48) : Nat := beamReg b 0x4034

/-- COMMIT_LEAD in BEAM cycles and in ns (R166, R186). -/
def State.commitLead (s : State) : Nat := s.regF 0x2010 0 24
def State.leadNs (s : State) : Nat := s.commitLead * cyc

/-- The commit point: outputs up to this bed time are committed (R166). -/
def State.commitPoint (s : State) : Nat := s.now + s.leadNs

/-- COMMIT_LEAD over the enabled beams with records (R166). -/
def State.computeLead (s : State) (mask : BitVec 48) : Nat :=
  let l := (maskBeams mask).foldl (fun acc b =>
    if s.regB (beamReg b 0x1000) 0 then
      max acc (max ((s.chan b).scanLag * 125) (max (s.chan b).gateLag ((s.chan b).pwrLag + 250)))
    else acc) 0
  ceilDiv (l + 500) 125 * 125

/-- The active package's base address. -/
def State.activeBase (s : State) : Nat := halfBase s.layers.halfB

/-- The stream that an engine runs: offset and count of its records. -/
def State.streamOf (s : State) (b : Fin 48) (pre : Bool) : Nat × Nat :=
  match s.layers.activePkg with
  | none => (0, 0)
  | some p => let d := p.beam b.val; if pre then (d.preOff, d.preCount) else (d.mainOff, d.mainCount)

/-- Record `i` of a beam's stream. -/
def State.streamRec (s : State) (b : Fin 48) (pre : Bool) (i : Nat) : Rec :=
  s.recAt s.activeBase ((s.streamOf b pre).1 + 32 * i)

/-- The FIFO's size in records (01, R167). -/
def fifoSize : Nat := 4096

/-- The shared stick `k`. -/
def Layers.stick (l : Layers) (k : Nat) : Stick := l.sticks.getD k ⟨.free, none, 0, 0, 0, 0⟩

/-- A shared stick changed. -/
def State.onStick (s : State) (k : Nat) (f : Stick → Stick) : State :=
  s.onLayers fun l => { l with sticks := updAt l.sticks k f }

/-- The records that a stick may have in the FIFO: half of it, so that the stream keeps the rest (log entry 81). -/
def stickShare : Nat := 2048

/-- Where a beam's next fetch reads, how many records it may bring, and whether they are a stick's: those of the stick that it holds while some are not
fetched yet, else those of its stream (R167, R168). -/
def State.fetchRange (s : State) (b : Fin 48) (count : Nat) : Nat × Nat × Bool :=
  let k := s.kerf b
  let st := s.streamOf b k.preheat
  let first := k.next + k.fifo.length
  let stream := (s.activeBase + st.1 + 32 * first, min count (min (fifoSize - k.fifo.length - k.queue.length) (st.2 - first)), false)
  match k.stick with
  | some (n, i) =>
    let e := s.layers.stick n
    let at_ := i + k.queue.length
    if at_ < e.count then (s.activeBase + e.off + 32 * at_, min count (min (stickShare - k.queue.length) (e.count - at_)), true) else stream
  | none => stream

/-- The ECC words in error that a fetch of `count` records meets (R527). -/
def State.fillErrors (s : State) (b : Fin 48) (count : Nat) : List Nat :=
  let r := s.fetchRange b count
  s.ueIn r.1 (32 * r.2.1)

/-- A record may be planned only when the one after it is in the FIFO too, or it ends its stream or its stick (R168). -/
def State.followed (s : State) (b : Fin 48) : Bool :=
  let k := s.kerf b
  match k.stick with
  | some (n, i) => decide (2 ≤ k.queue.length) || (k.queue.length == 1 && i + 1 == (s.layers.stick n).count)
  | none => decide (2 ≤ k.fifo.length) || (match k.fifo with
      | [r] => r.ty == tyMarker && r.sub == 3
      | _ => false)

/-- Records written into the FIFO at `n` places from `first` on, each in its place modulo the size, clear the words in error there (R527). -/
def State.fifoWritten (s : State) (b : Fin 48) (first n : Nat) : State :=
  let base := 0x12400000 + 0x20000 * b.val
  { s with ue := s.ue.filter fun w => !(decide (base ≤ w) && decide (w < base + 0x20000) && decide (((w - base) / 32 + fifoSize - first % fifoSize) % fifoSize < n)) }

/-- Records fetched from DRAM arrive (R167): up to `count` more, as many as the FIFO has room for, and none from a word in error on (R30). A starved engine
goes on when the record that it needs, and the one after it, are there. -/
def State.fill (s : State) (b : Fin 48) (count : Nat) : State :=
  let r := s.fetchRange b count
  let n := match s.fillErrors b count with
    | [] => r.2.1
    | w :: ws => min r.2.1 ((ws.foldl min w - r.1) / 32)
  if n = 0 then s
  else
    let recs := tabulate n fun i => s.recAt r.1 (32 * i)
    let k := s.kerf b
    let first := if r.2.2 then (k.stick.map (·.2)).getD 0 + k.queue.length else k.next + k.fifo.length
    let s := (s.fifoWritten b first n).onKerf b fun k => if r.2.2 then { k with queue := k.queue ++ recs } else { k with fifo := k.fifo ++ recs }
    let go := s.followed b
    s.onKerf b fun k => { k with starved := k.starved && !go }

/-- The next record of a beam and the one after it: those of its stick while it holds one, else of its FIFO. The record after the last
of a stick is not known. -/
def State.nextRecs (s : State) (b : Fin 48) : Option (Place × Rec × Option Rec) :=
  let k := s.kerf b
  match k.stick with
  | some (n, i) =>
    match k.queue with
    | [] => none
    | r :: rs => some (.stick n i, r, rs.head?)
  | none =>
    match k.fifo with
    | [] => none
    | r :: rs => some (if k.preheat then .pre k.next else .main k.next, r, rs.head?)

/-- The plan of a beam's next record when it starts at `start`. A chain goes on through contours alone (R172). -/
def State.planNext (s : State) (b : Fin 48) (start round : Nat) : Option Rel :=
  match s.nextRecs b with
  | none => none
  | some (pl, r, nx) =>
    let k := s.kerf b
    some (s.planRec { beam := b, place := pl, r := r, next := nx, pos := k.pos, raw := k.raw, start := start, prevDone := k.frontier,
                      chained := k.chain && r.ty == tyContour && start == tickCeil k.frontier, round := round })

/-- GATE_MIN in ns (R128). -/
def State.gateMin (s : State) (b : Fin 48) : Nat := s.regF (beamReg b 0x2008) 0 8 * cyc

/-- The pulses of a plan, oldest first: intervals that touch or overlap are one pulse (R171). -/
def pulsesOf : List GateIv → List (List GateIv)
  | [] => []
  | g :: gs =>
    match pulsesOf gs with
    | [] => [[g]]
    | p :: ps => if (p.head?.map (·.start)).getD 0 ≤ g.stop then (g :: p) :: ps else [g] :: p :: ps

/-- When a pulse begins and ends. -/
def pulseStart (p : List GateIv) : Nat := (p.head?.map (·.start)).getD 0
def pulseStop (p : List GateIv) : Nat := (p.map (·.stop)).foldl max 0

/-- Whether a pulse is shorter than GATE_MIN. -/
def shortPulse (gmin : Nat) (p : List GateIv) : Bool := decide (pulseStop p < pulseStart p + gmin)

/-- A pulse whose last interval lasts until `t`. -/
def pulseUntil (p : List GateIv) (t : Nat) : List GateIv :=
  match p.getLast? with
  | some l => p.dropLast ++ [{ l with stop := max l.stop t }]
  | none => p

/-- The intervals of pulses with every gap shorter than GATE_MIN closed, and the times at which those gaps begin. -/
def closeGaps (gmin : Nat) : List (List GateIv) → List GateIv × List Nat
  | [] => ([], [])
  | [p] => (p, [])
  | p :: q :: ps =>
    let rest := closeGaps gmin (q :: ps)
    if pulseStart q < pulseStop p + gmin then (pulseUntil p (pulseStart q) ++ rest.1, pulseStop p :: rest.2) else (p ++ rest.1, rest.2)

/-- What R128 leaves of a plan: pulses shorter than GATE_MIN are dropped, and then gaps shorter than GATE_MIN are closed. DESIGN CHOICE (log entry 78): R128
does not say which is judged first; here a short pulse after a short gap is dropped and not merged. -/
def tidyGates (gmin : Nat) (l : List GateIv) : List GateIv := (closeGaps gmin ((pulsesOf l).filter fun p => !shortPulse gmin p)).1

/-- When the dropped pulses of a plan would begin, and when the gaps that are closed begin (R128). -/
def droppedPulses (gmin : Nat) (l : List GateIv) : List Nat := ((pulsesOf l).filter (shortPulse gmin)).map pulseStart
def mergedGaps (gmin : Nat) (l : List GateIv) : List Nat := (closeGaps gmin ((pulsesOf l).filter fun p => !shortPulse gmin p)).2

/-- A beam's planned gate intervals. -/
def State.setPlan (s : State) (b : Fin 48) (l : List GateIv) : State :=
  s.onKerf b fun k => { k with planned := l, gates := tidyGates (s.gateMin b) l }

/-- Planned gate intervals join a beam's plan (R128, R171). -/
def State.addGates (s : State) (b : Fin 48) (l : List GateIv) : State := if l.isEmpty then s else s.setPlan b ((s.kerf b).planned ++ l)

/-- What is left of gate intervals when the gate closes at bed time `t`. -/
def cutGates (l : List GateIv) (t : Nat) : List GateIv := (l.filter fun g => decide (g.start < t)).map fun g => { g with stop := min g.stop t }

/-- The part of a piece before bed time `t`. -/
def Piece.upTo (q : Piece) (t : Nat) : Piece :=
  if q.t1 ≤ t ∨ q.capsule = true then { q with t1 := min q.t1 t }
  else
    let n := q.t1 - q.t0
    { q with t1 := t, qx := q.px + roundHalfAway ((q.qx - q.px) * (t - q.t0 : Nat)) n, qy := q.py + roundHalfAway ((q.qy - q.py) * (t - q.t0 : Nat)) n }

/-- Executed exposing pieces reach the renderer while it writes a footprint (R189, R316). -/
def State.footprintAdd (s : State) (ps : List Piece) : State :=
  if ((s.veneer.rings.getD 16 ⟨none, none, none⟩).writing).isSome then { s with veneer := { s.veneer with footprint := s.veneer.footprint ++ ps } } else s

/-- What was executed of released records before bed time `t`. -/
def piecesUpTo (rs : List Rel) (t : Nat) : List Piece := ((rs.flatMap (·.pieces)).filter fun q => decide (q.t0 < t)).map fun q => q.upTo t

/-- Whether a record belongs to a preheat stream. -/
def Rel.inPre (r : Rel) : Bool := match r.place with | .pre _ => true | _ => false

/-- A beam's gate closes for good at bed time `t`: what was executed before stays on record, and the renderer gets it (R189, R193). -/
def State.cutWork (s : State) (b : Fin 48) (t : Nat) : State :=
  let rs := (s.kerf b).rels
  (s.onKerf b fun k => { k with
    planned := cutGates k.planned t, gates := cutGates k.gates t, past := k.past ++ piecesUpTo k.rels t }).footprintAdd (piecesUpTo (rs.filter fun r => !r.inPre) t)

/-- A contour chain broken at a joint (R172): the gate closes there with LOFF, which a positive LOFF makes a piece of its own (R191), and the chain
ends; a break by a Truss hold is counted. -/
def State.breakChain (s : State) (b : Fin 48) (held : Bool) : State :=
  let k := s.kerf b
  match k.rels.getLast? with
  | none => s.onKerf b fun k => { k with chain := false }
  | some r =>
    let loff := (s.pset b r.record.pset.toNat).loff
    let old : Nat := (r.gates.map (·.stop)).foldl max 0
    let stop := ((old : Int) + 2 * loff).toNat
    let fix (g : GateIv) : GateIv := if g.place = r.place then { g with stop := stop } else g
    let more : List Piece := if old < stop ∧ r.gates.isEmpty = false then [⟨old, stop, r.rawEnd.x, r.rawEnd.y, r.rawEnd.x, r.rawEnd.y, 0, false⟩] else []
    let r' := { r with complete := if r.gates.isEmpty then r.complete else max r.complete stop, pieces := r.pieces ++ more, gates := r.gates.map fix }
    let s := s.onKerf b fun k => { k with rels := k.rels.dropLast ++ [r'], frontier := max k.frontier r'.complete, chain := false }
    let s := s.setPlan b (k.planned.map fix)
    if held then s.count (kfBreaks b) else s

/-- A wait for Truss ends (R179, R200): its ticks up to bed time `t` and its length are counted. -/
def State.endWait (s : State) (b : Fin 48) (t : Nat) : State :=
  let k := s.kerf b
  let s := match k.waitSince with
    | none => s
    | some t0 =>
      let w := (s.now - t0) / 1000
      let s := if (s.reg 0x0400011C).toNat < w then s.setReg 0x0400011C (BitVec.ofNat 32 (min w 0xFFFFFFFF)) else s
      s.count (kfHeldTicks b) ((t - tickCeil k.frontier) / tickNs)
  s.onKerf b fun k => { k with held := false, waitSince := none }

/-- A planned record is released (R195): it leaves the FIFO or the stick's queue and joins the engine's plan. -/
def State.releaseRel (s : State) (b : Fin 48) (r : Rel) : State :=
  let k := s.kerf b
  let s := if k.chain && tickCeil k.frontier < r.start && r.record.ty == tyContour then s.breakChain b false else s
  (s.addGates b r.gates).onKerf b fun k => { k with
    rels := k.rels ++ [r], frontier := max k.frontier r.complete, pos := r.endPt, raw := r.rawEnd
    fifo := if k.stick.isSome then k.fifo else k.fifo.drop 1
    queue := if k.stick.isSome then k.queue.drop 1 else k.queue
    next := if k.stick.isSome then k.next else k.next + 1
    stick := k.stick.map fun x => (x.1, x.2 + 1)
    chain := r.record.ty == tyContour }

/-- Whether an engine takes records. -/
def Engine.runs : Engine → Bool
  | .running => true
  | .window => true
  | .stick => true
  | .draining => true
  | _ => false

/-- Whether a released record belongs to a shared stick. -/
def Rel.inStick (r : Rel) : Bool := match r.place with | .stick .. => true | _ => false

/-- The released records of a beam from the first that `keep` refuses on are withdrawn (R196), and the engine stands where it stood before the first of
them: a stick that would come after withdrawn records of the stream is free again, and a window or the END marker among them is still ahead. -/
def State.withdrawRels (s : State) (b : Fin 48) (keep : Rel → Bool) : State :=
  let k := s.kerf b
  let kept := k.rels.takeWhile keep
  let gone := k.rels.dropWhile keep
  match gone with
  | [] => s
  | g :: _ =>
    let places := gone.map (·.place)
    let own := gone.filter fun r => !r.inStick
    let shared := gone.filter Rel.inStick
    let drop := !own.isEmpty && k.stick.isSome
    let window := (own.head?.map fun r => r.record.ty == tyMarker && r.record.sub == 2).getD false
    let s := if drop then (match k.stick with
      | some (n, _) => s.onStick n fun t => { t with state := .free, owner := none }
      | none => s) else s
    -- what the gate has already let out stays, to be reported (R189)
    let s := s.setPlan b (k.planned.filter fun iv => !(places.contains iv.place) || decide (iv.start < s.now + (s.chan b).gateLag * cyc))
    s.onKerf b fun k => { k with
      rels := kept
      fifo := own.map (·.record) ++ k.fifo, next := k.next - own.length
      queue := if drop then [] else shared.map (·.record) ++ k.queue
      stick := if drop then none else k.stick.map fun x => (x.1, x.2 - shared.length)
      taken := if drop then k.taken - 1 else k.taken
      engine := if own.isEmpty || !k.engine.runs then k.engine else if window then .window
        else if k.engine = .window ∨ k.engine = .draining then .running else k.engine
      wantStick := if own.isEmpty || !k.engine.runs then k.wantStick else window
      pos := g.fromPt, raw := g.fromRaw, frontier := g.fromDone, chain := g.fromChain }

/-- Whether a record of a stick that a beam holds has been committed (R201). -/
def State.stickBegun (s : State) (b : Fin 48) (n : Nat) : Bool :=
  (s.kerf b).rels.any fun r => (match r.place with | .stick m _ => m == n | _ => false) && decide (r.start ≤ s.commitPoint)

/-- A granted stick whose first record has been committed is RUNNING (R201). -/
def State.commitStick (s : State) (b : Fin 48) : State :=
  match (s.kerf b).stick with
  | some (n, _) => if s.stickBegun b n && (s.layers.stick n).state == StickState.granted then s.onStick n fun t => { t with state := .running } else s
  | none => s

/-- The state of a stick as it is now. -/
def State.stickNow (s : State) (n : Nat) : StickState :=
  let t := s.layers.stick n
  if t.state == StickState.granted && (t.owner.map fun b => s.stickBegun b n).getD false then .running else t.state

/-- The stick that a beam has in progress, with the record in progress within it (R189, R213): only a stick that is RUNNING. -/
def State.stickInUse (s : State) (b : Fin 48) : Option (Nat × Nat) :=
  match (s.kerf b).stick with
  | some (n, _) => if s.stickNow n = .running then some (n, (s.kerf b).stickDone) else none
  | none => none

/-- A stick that a beam was granted and has not begun is free again (R203). -/
def State.dropGrant (s : State) (b : Fin 48) : State :=
  match (s.kerf b).stick with
  | some (n, _) =>
    if (s.layers.stick n).state = StickState.granted then
      (s.onStick n fun t => { t with state := .free, owner := none }).onKerf b fun k => { k with stick := none, stickDone := 0, queue := [] }
    else s
  | none => s

/-- Whether a layer is in progress: started and neither complete nor abandoned (R65, R72). -/
def State.layerInProgress (s : State) : Bool :=
  match s.layers.active with
  | .preheating => true
  | .running => true
  | .paused => true
  | .held => true
  | _ => false

/-- Whether a layer is active and not COMPLETE or ABANDONED (R161, R213, R217). -/
def State.layerLive (s : State) : Bool :=
  match s.layers.active with
  | .none => false
  | .complete => false
  | .abandoned => false
  | _ => true

/-- The active layer's number. -/
def State.layerNo (s : State) : Nat := (s.layers.activePkg.map fun p => p.layer.toNat).getD 0

/-- The start point of record `i` of a stream: the end point of the motion record before it; none at the stream's start. -/
def State.startPoint (s : State) (off : Nat) : Nat → Option Pt
  | 0 => none
  | i + 1 =>
    let r := s.recAt s.activeBase (off + 32 * i)
    if r.ty = tyMarker then s.startPoint off i
    else some r.stop

/-- Where the record before record `i` of a stream leaves a beam: its end point, or the end of its run-out when it is a mark with skywriting (R176). -/
def State.leftAt (s : State) (b : Fin 48) (off : Nat) : Nat → Option Pt
  | 0 => none
  | i + 1 =>
    let m := s.recAt s.activeBase (off + 32 * i)
    let ps := s.pset b m.pset.toNat
    if m.ty = tyMarker then s.leftAt b off i
    else if skyOn m ps then (match s.startPoint off i with
      | some p => some (extend m.stop p m.stop ps.skyOut)
      | none => some m.stop)
    else some m.stop

/-- An engine set to continue at record `i` of its stream, with a FIFO filled from there (R67, R180). -/
def State.rewind (s : State) (b : Fin 48) (i : Nat) : State :=
  ((s.onKerf b fun k => { k with fifo := [], queue := [], next := i, rels := [], chain := false }).fill b fifoSize).fill b fifoSize

/-- Where an engine takes up its work again after a stop (R180): the record after the last completed one, or the next record of the
stick it keeps. It is in a window only where the STICK_WINDOW marker is that next record. -/
def State.takeUp (s : State) (b : Fin 48) : State :=
  let k := s.kerf b
  let last := s.reg (kfLastDone b)
  let i := if k.preheat then 0 else if last = 0xFFFFFFFF then 0 else last.toNat + 1
  let done := k.stickDone
  let s := (s.onKerf b fun k => { k with stick := k.stick.map fun x => (x.1, done) }).rewind b i
  s.onKerf b fun k => { k with wantStick := k.wantStick && (match k.fifo with | r :: _ => r.ty == tyMarker && r.sub == 2 | [] => false) }

/-- The move with the gate closed to where a beam's next record begins (R67, R180): a mark's start point or the start of its run-in, else where the record before
it ended, its run-out included (R176); at that record's jump speed (log entry 14). -/
def State.approach (s : State) (b : Fin 48) : State :=
  let k := s.kerf b
  let at_ : Nat × Nat := match k.stick with
    | some (n, i) => ((s.layers.stick n).off, i)
    | none => ((s.streamOf b k.preheat).1, k.next)
  let from_ := s.startPoint at_.1 at_.2
  let t0 := ceilDiv (s.commitPoint + 1000) tickNs
  let wait := s.onKerf b fun k => { k with frontier := max k.frontier (t0 * tickNs) }
  match from_, s.nextRecs b with
  | some p, some (_, r, _) =>
    let ps := s.pset b r.pset.toNat
    let q := if r.isMark then s.entryPoint b r p else (s.leftAt b at_.1 at_.2).getD p
    if q = k.pos then wait.onKerf b fun k => { k with raw := p }
    else
      let n := motionTicks (motionLen k.pos q) (max 1 ps.jump)
      s.onKerf b fun k => { k with coast := [straight t0 n (k.target t0) (q.lift ps)], pos := q, raw := p, frontier := (t0 + n) * tickNs }
  | some p, none => wait.onKerf b fun k => { k with raw := p }
  | none, _ => wait

/-- A beam failure stops its engine at the end of its current segment with the gate closed (R132, R180); Truss is to be told. A beam that fails while a
layer is active executes none of it any more (R134). -/
def State.failEngine (s : State) (b : Fin 48) : State :=
  let s := s.commitStick b
  let k := s.kerf b
  let cur := (k.rels.filter fun r => decide (r.start ≤ s.now)).getLast?
  let segs := match cur with
    | some r => r.segs
    | none => k.coast
  let inLayer := s.layerLive && (match s.layers.activePkg with | some p => p.beamMask.getLsbD b.val | none => false)
  let s := (s.endWait b s.commitPoint).cutWork b (s.now + (s.chan b).gateLag * cyc)
  s.onKerf b fun k => { k with
    engine := if inLayer then .failed else k.engine, failed := k.failed || inLayer, notice := k.notice || (inLayer && !k.failed)
    failIndex := if k.failed then k.failIndex else s.reg (kfLastDone b), failAt := if k.failed then k.failAt else s.now
    coast := segs, rels := if k.failed || inLayer then k.rels else [] }

/-- Bit `k` of the resume bitmap set (R65). -/
def State.markStick (s : State) (k : Nat) : State :=
  { s with resume := { s.resume with sticks := s.resume.sticks ||| (1#16384 <<< k) } }

/-- The sticks that are done. -/
def Layers.doneCount (l : Layers) : Nat := (l.sticks.filter fun t => t.state == .done).length

/-- Whether a beam is in the active package's mask. -/
def State.inMask (s : State) (b : Fin 48) : Bool :=
  match s.layers.activePkg with
  | some p => p.beamMask.getLsbD b.val
  | none => false

/-- A working beam: in beam_mask and not failed in the layer (R201). -/
def State.working (s : State) (b : Fin 48) : Bool := s.inMask b && !(s.kerf b).failed

/-- Whether every beam is done or failed and every stick is done or uncovered (R181). -/
def State.layerFinished (s : State) : Bool :=
  (beams.all fun b => !s.inMask b || (s.kerf b).failed || (s.kerf b).engine == .done)
    && s.layers.sticks.all fun t => t.state == .done || t.state == .uncovered

/-- Whether any uncovered work remains (R205). -/
def State.uncoveredWork (s : State) : Bool :=
  !s.layers.uncovered.isEmpty || s.layers.sticks.any fun t => t.state == .uncovered

/-- The layer becomes COMPLETE (R181): LAYER_DONE is sent, the Rings count the layer, and in a chain the manager hears of it. -/
def State.completeLayer (s : State) : State :=
  if s.layers.active = .running ∨ s.layers.active = .paused ∨ s.layers.active = .held then
    if s.layerFinished then
      let s := s.onLayers fun l => { l with active := .complete, sentDone := true }
      let s := s.rings fun r => { r with layers := min (r.layers + 1) 0xFFFFFFFF }
      let gen := (s.layers.activePkg.map fun p => p.jobGen.toNat).getD 0
      let s := s.raise 0x0301 0 0 [] (leBytes 4 s.layerNo ++ leBytes 2 gen ++ leBytes 1 s.layers.uncovered.length ++ leBytes 1 0
        ++ leBytes 8 (s.now - s.layers.layerStart))
      let s : State := { s with chain := { s.chain with layerDone := s.chain.index :: s.chain.layerDone } }
      s.toManager ctlLayerDone (leBytes 1 (bit s.uncoveredWork) ++ leBytes 3 0)
    else s
  else s

/-- PREHEAT_DONE when every beam with a preheat stream has finished it (R182). -/
def State.preheatDone (s : State) : State :=
  let open_ := beams.any fun b => s.inMask b && !(s.kerf b).failed && (s.streamOf b true).2 != 0 && !(s.kerf b).preDone
  if s.layers.active = .preheating ∧ open_ = false ∧ s.layers.preDone = false then
    (s.onLayers fun l => { l with preDone := true }).raise 0x0302 0 0 [] (leBytes 4 s.layerNo)
  else s

/-- The effect of reaching a TAG marker (R159, R185): KF_TAG, and a TAG alert at most once per millisecond. -/
def State.tagReached (s : State) (b : Fin 48) (r : Rec) (index : Nat) : State :=
  let v := leAt r.args 0 4
  let s := s.setReg (kfTag b) (BitVec.ofNat 32 v)
  if r.flags.getLsbD 3 then
    let k := s.kerf b
    let free := match k.tagSentAt with
      | none => true
      | some t => decide (t + milli ≤ s.now)
    if free then
      let m := k.tagMerged
      (s.onKerf b fun k => { k with tagSentAt := some s.now, tagMerged := 0 }).raise 0x0303 0 0 [0, b] (leBytes 4 v ++ leBytes 4 index ++ leBytes 4 m)
    else s.onKerf b fun k => { k with tagMerged := k.tagMerged + 1 }
  else s

end Sys2Proof.Machine
end

