-- ==== Sys2Proof/Machine/Truss.lean ====
section
/-! DEFINITION. Truss (06_truss_overlap.md): the separation and lee-zone tests, rounds, claims, shared sticks, failure and cover, the gas
flow and the exchange with neighbour devices. -/

namespace Sys2Proof.Machine

open Sys2Proof

/-! ## Geometry (R192, R193, R197, R199) -/

/-- A point of the bed plane. -/
abbrev P2 := Rat × Rat

/-- A piece's position at a bed time. -/
def Piece.at (q : Piece) (t : Rat) : P2 :=
  if q.t1 ≤ q.t0 then ((q.px : Rat), (q.py : Rat))
  else
    let u : Rat := (t - (q.t0 : Rat)) / ((q.t1 : Rat) - (q.t0 : Rat))
    ((q.px : Rat) + ((q.qx - q.px : Int) : Rat) * u, (q.py : Rat) + ((q.qy - q.py : Int) : Rat) * u)

/-- A piece's velocity. -/
def Piece.vel (q : Piece) : P2 :=
  if q.t1 ≤ q.t0 then (0, 0)
  else (((q.qx - q.px : Int) : Rat) / ((q.t1 : Rat) - (q.t0 : Rat)), ((q.qy - q.py : Int) : Rat) / ((q.t1 : Rat) - (q.t0 : Rat)))

/-- Inner product, difference and cross product. -/
def dot2 (a b : P2) : Rat := a.1 * b.1 + a.2 * b.2
def sub2 (a b : P2) : P2 := (a.1 - b.1, a.2 - b.2)
def add2 (a b : P2) : P2 := (a.1 + b.1, a.2 + b.2)
def cross2 (a b : P2) : Rat := a.1 * b.2 - a.2 * b.1

/-- What a piece covers over [t0, t1]: the way of its spot, or all of a capsule (R191). -/
def Piece.way (q : Piece) (t0 t1 : Rat) : P2 × P2 :=
  if q.capsule then (((q.px : Rat), (q.py : Rat)), ((q.qx : Rat), (q.qy : Rat))) else (q.at t0, q.at t1)

/-- The squared distance of a point from a segment. -/
def ptSeg2 (p a b : P2) : Rat :=
  let d := sub2 b a
  if dot2 d d = 0 then dot2 (sub2 p a) (sub2 p a)
  else
    let t := min (max (dot2 (sub2 p a) d / dot2 d d) 0) 1
    let r := sub2 p (a.1 + d.1 * t, a.2 + d.2 * t)
    dot2 r r

/-- Whether two segments cross. -/
def segCross (a b c d : P2) : Bool :=
  let o1 := cross2 (sub2 b a) (sub2 c a)
  let o2 := cross2 (sub2 b a) (sub2 d a)
  let o3 := cross2 (sub2 d c) (sub2 a c)
  let o4 := cross2 (sub2 d c) (sub2 b c)
  decide (o1 * o2 < 0) && decide (o3 * o4 < 0)

/-- The squared distance of two segments. -/
def segSeg2 (a b c d : P2) : Rat :=
  if segCross a b c d then 0
  else min (min (ptSeg2 a c d) (ptSeg2 b c d)) (min (ptSeg2 c a b) (ptSeg2 d a b))

/-- The squared least distance of two pieces over [t0, t1] (R197): of two spots at one time, or, where one is a capsule, of what they cover. -/
def minDist2 (a q : Piece) (t0 t1 : Rat) : Rat :=
  if a.capsule || q.capsule then segSeg2 (a.way t0 t1).1 (a.way t0 t1).2 (q.way t0 t1).1 (q.way t0 t1).2
  else
    let r0 := sub2 (a.at t0) (q.at t0)
    let w := sub2 a.vel q.vel
    if dot2 w w = 0 then dot2 r0 r0
    else
      let t := min (max (-(dot2 r0 w) / dot2 w w) 0) (t1 - t0)
      let r := (r0.1 + w.1 * t, r0.2 + w.2 * t)
      dot2 r r

/-- Whether a point lies in a convex polygon that has area. -/
def inPoly (p : P2) (vs : List P2) : Bool :=
  let es := vs.zip (vs.drop 1 ++ vs.take 1)
  let area := (es.map fun e => cross2 e.1 e.2).sum
  let cs := es.map fun e => cross2 (sub2 e.2 e.1) (sub2 p e.1)
  area != 0 && (cs.all (fun c => decide (0 ≤ c)) || cs.all (fun c => decide (c ≤ 0)))

/-- The gas flow in force: direction in 0.01 degrees, cone length, half angle in 0.01 degrees (R193, R207). -/
structure Gas where
  dir  : Nat
  len  : Nat
  half : Nat
deriving DecidableEq, Repr

/-- The far corners of a cone at the origin (R193). -/
def Gas.corners (g : Gas) : P2 × P2 :=
  let gx : Rat := (cosTurn g.dir 36000 : Rat) / (one60 : Rat)
  let gy : Rat := (sinTurn g.dir 36000 : Rat) / (one60 : Rat)
  let c := cosTurn g.half 36000
  let t : Rat := if c = 0 then 0 else (sinTurn g.half 36000 : Rat) / (c : Rat)
  let l : Rat := (g.len : Rat)
  ((l * (gx - t * gy), l * (gy + t * gx)), (l * (gx + t * gy), l * (gy - t * gx)))

/-- The lee reach, lee_len / cos(half_angle) (R193). -/
def Gas.reach (g : Gas) : Rat :=
  let c := cosTurn g.half 36000
  if c ≤ 0 then (g.len : Rat) else (g.len : Rat) * (one60 : Rat) / (c : Rat)

/-- Whether an exposing segment, widened by `w`, meets the union of the cones along a source segment (R197). -/
def coneMeets (g : Gas) (p1 p2 e1 e2 : P2) (w : Nat) : Bool :=
  let k := g.corners
  let v1 := [p1, add2 p1 k.1, add2 p1 k.2]
  let v2 := [p2, add2 p2 k.1, add2 p2 k.2]
  let edges (vs : List P2) := vs.zip (vs.drop 1 ++ vs.take 1)
  let sweep := v1.zip v2
  let quads := (edges v1).zip (edges v2) |>.map fun e => [e.1.1, e.1.2, e.2.2, e.2.1]
  let segs := edges v1 ++ edges v2 ++ sweep
  inPoly e1 v1 || inPoly e1 v2 || quads.any (inPoly e1) || segs.any fun d => decide (segSeg2 e1 e2 d.1 d.2 ≤ (w : Rat) * (w : Rat))

/-- The rules in force (R208). -/
structure Rules where
  sepEn   : Bool
  leeEn   : Bool
  sepMin  : Nat
  persist : Nat
  gas     : Gas
deriving DecidableEq, Repr

/-- The conflict of a candidate piece with a released piece (R197). -/
def conflict (u : Rules) (a q : Piece) : Option Rule :=
  let t0 := max a.t0 q.t0
  let t1 := min a.t1 q.t1
  let sep := u.sepMin + a.e + q.e + 2
  if u.sepEn && decide (t0 ≤ t1) && decide (minDist2 a q t0 t1 < (sep : Rat) * (sep : Rat)) then some .sep
  else
    let lee (src exp : Piece) : Bool :=
      let t0 := max exp.t0 src.t0
      let t1 := min exp.t1 (src.t1 + u.persist)
      let a0 := max (t0 - u.persist) src.t0
      let a1 := min t1 src.t1
      decide (t0 ≤ t1) && coneMeets u.gas (src.way a0 a1).1 (src.way a0 a1).2 (exp.way t0 t1).1 (exp.way t0 t1).2 (src.e + exp.e + 2)
    if u.leeEn && (lee q a || lee a q) then some .lee else none

/-- The static test of a piece against a claim's piece (R199). -/
def staticConflict (u : Rules) (a k : Piece) : Bool :=
  let r : Rat := max (u.sepMin : Rat) u.gas.reach + ((a.e + k.e + 2 : Nat) : Rat)
  decide (segSeg2 (a.px, a.py) (a.qx, a.qy) (k.px, k.py) (k.qx, k.qy) < r * r)

/-! ## Gas flow (R207) -/

/-- TR_GAS.SOURCE and LANE. -/
def State.gasSource (s : State) : Nat := s.regF 0x0400000C 16 2
def State.gasLane (s : State) : Fin 16 := Fin.ofNat 16 (s.regF 0x0400000C 20 4)

/-- The entries of the gas table up to its end: speed, direction, length. -/
def State.gasTable (s : State) : List (Nat × Nat × Nat) :=
  (tabulate 8 fun k => (s.regF (0x04000040 + 8 * k) 0 16, s.regF (0x04000040 + 8 * k) 16 16, (s.reg (0x04000044 + 8 * k)).toNat)).takeWhile fun e => e.1 != 0xFFFF

/-- Whether speeds rise strictly. -/
def rising : List (Nat × Nat × Nat) → Bool
  | a :: b :: r => decide (a.1 < b.1) && rising (b :: r)
  | _ => true

/-- A direction interpolated along the shorter arc, in 0.01 degrees. -/
def arc (d0 d1 k n : Nat) : Nat :=
  let diff : Int := ((d1 : Int) - d0) % 36000
  let short : Int := if 18000 < diff then diff - 36000 else diff
  (((d0 : Int) + roundHalfAway (short * k) (max n 1)) % 36000).toNat

/-- The gas table looked up at a speed (R207). DESIGN CHOICE (log entry 98): the interpolated direction and length are rounded half away from zero, and a difference of
exactly 180 degrees turns upward. -/
def gasLookup : List (Nat × Nat × Nat) → Nat → Nat × Nat
  | [], _ => (0, 0)
  | [e], _ => (e.2.1, e.2.2)
  | a :: b :: r, v =>
    if v ≤ a.1 then (a.2.1, a.2.2)
    else if v < b.1 then
      (arc a.2.1 b.2.1 (v - a.1) (b.1 - a.1),
       ((a.2.2 : Int) + roundHalfAway (((b.2.2 : Int) - a.2.2) * (v - a.1 : Nat)) (b.1 - a.1)).toNat)
    else gasLookup (b :: r) v

/-- The blower speed that the selected lane's head gave last, with its sample time: its first channel of kind 1 (R351). -/
def State.headBlower (s : State) : Option (Nat × Nat) :=
  ((s.joists[(s.gasLane).val]'(s.gasLane).isLt).sensors.find? fun e => e.2.1 / 65536 == 1).map fun e => (e.2.1 % 65536, e.2.2)

/-- The gas flow taken into force at a round boundary (R207, R208). -/
def State.gasUpdate (s : State) : State :=
  let set (dir speed len : Nat) : State := (s.setReg 0x04000018 (BitVec.ofNat 32 (dir + 65536 * speed))).setReg 0x0400001C (BitVec.ofNat 32 len)
  match s.gasSource with
  | 0 => set (s.regF 0x0400000C 0 16) 0 (s.reg 0x04000010).toNat
  | 1 => let v := s.regF 0x04000014 0 16; let e := gasLookup s.gasTable v; set e.1 v e.2
  | 2 =>
    match s.headBlower with
    | none => s
    | some (v, t) => if t + 100 * milli < s.now then s else let e := gasLookup s.gasTable v; set e.1 v e.2
  | _ => s

/-- The rules in force. -/
def State.rules (s : State) : Rules :=
  { sepEn := s.regB 0x04000000 0, leeEn := s.regB 0x04000000 1, sepMin := (s.reg 0x04000004).toNat, persist := s.regF 0x04000008 16 16 * 1000,
    gas := { dir := s.regF 0x04000018 0 16, len := (s.reg 0x0400001C).toNat, half := s.regF 0x04000008 0 16 } }

/-! ## Messages to the neighbours (R209, R210) -/

/-- CROSS_EN and the export masks. -/
def State.crossEn (s : State) : Bool := s.regB 0x04000000 2
def exportMask (s : State) : RPort → BitVec 48
  | .up => BitVec.ofNat 48 ((s.reg 0x0400002C).toNat + 0x100000000 * (s.reg 0x04000030).toNat)
  | .down => BitVec.ofNat 48 ((s.reg 0x04000034).toNat + 0x100000000 * (s.reg 0x04000038).toNat)

/-- Whether a beam is exported on a port. -/
def State.exported (s : State) (p : RPort) (b : Fin 48) : Bool := s.crossEn && (exportMask s p).getLsbD b.val

/-- The ports on which a beam is exported. -/
def State.exportPorts (s : State) (b : Fin 48) : List RPort := [RPort.up, RPort.down].filter fun p => s.exported p b

/-- The 40 bytes of a Truss message (R210). -/
def trussMsg (kind device beam pc round t0 dur : Nat) (x0 y0 x1 y1 : Int) (e : Nat) : List Byte :=
  leBytes 1 kind ++ leBytes 1 device ++ leBytes 1 beam ++ leBytes 1 pc ++ leBytes 4 round ++ leBytes 4 (nsOf t0) ++ leBytes 4 dur
    ++ leBytes 4 (unsignedOf 32 x0) ++ leBytes 4 (unsignedOf 32 y0) ++ leBytes 4 (unsignedOf 32 x1) ++ leBytes 4 (unsignedOf 32 y1)
    ++ leBytes 4 e ++ leBytes 4 0

/-- A piece sent as a RELEASE (kind 1) or CLAIM (kind 3). A raster line's capsule travels with the piece code of a capsule (DEDUCED, log entry 82). -/
def State.sendPiece (s : State) (p : RPort) (kind : Nat) (b : Fin 48) (round : Nat) (flags : Nat) (q : Piece) : State :=
  let pc := if kind = 3 ∨ q.capsule = true then 2 else if q.px = q.qx ∧ q.py = q.qy then 1 else 0
  s.sendRafter p 0x10 0xFF flags (trussMsg kind s.chain.index b pc (round % eraLen) q.t0 (if kind = 3 then 0xFFFFFFFF else q.t1 - q.t0) q.px q.py q.qx q.qy q.e)

/-- A message without a piece: WITHDRAW (2), UNCLAIM (4) or HEARTBEAT (5). -/
def State.sendBare (s : State) (p : RPort) (kind beam round : Nat) : State :=
  s.sendRafter p 0x10 0xFF 0 (trussMsg kind s.chain.index beam 0 (round % eraLen) 0 0 0 0 0 0 0)

/-- A beam's released records withdrawn, with WITHDRAW sent for each that a neighbour holds (R196, R204). -/
def State.withdraw (s : State) (b : Fin 48) (keep : Rel → Bool) : State :=
  let gone := ((s.kerf b).rels.dropWhile keep).filter fun r => !r.pieces.isEmpty
  let s := gone.foldl (fun st r => (st.exportPorts b).foldl (fun st p => st.sendBare p 2 b r.round) st) s
  s.withdrawRels b keep

/-- What a holder that leaves has exported as its claim ends there (R211). -/
def State.unclaim (s : State) : State :=
  let t := s.truss
  let s := if t.free || t.claimOut.isEmpty then s
    else (s.exportPorts (Fin.ofNat 48 t.token)).foldl (fun st p => st.sendBare p 4 t.token t.claimRound) s
  { s with truss := { s.truss with claimOut := [] } }

/-- The token becomes free; the next search starts after the holder that has left it (R198). -/
def State.freeToken (s : State) : State :=
  if s.truss.free then s else let s := s.unclaim; { s with truss := { s.truss with token := (s.truss.token + 1) % 48, free := true } }

/-- A hold cause or an abandoned layer stops an engine at once (R51, R180, R196): the gate closes, releases that are not committed are withdrawn, targets
already committed are still sent and the last is held, and records in progress do not complete. -/
def State.stopEngine (s : State) (b : Fin 48) : State :=
  let k := s.kerf b
  if k.failed = true ∨ (k.engine.runs = false ∧ k.rels.isEmpty = true) then s
  else
    let c := s.commitPoint
    let s := ((s.commitStick b).endWait b c).withdraw b fun r => decide (r.start ≤ c)
    let k := s.kerf b
    let tick := c / tickNs
    let held := k.target tick
    let pos : Pt := match k.rels.getLast? with
      | some r => ⟨held.x, held.y, held.z - (s.pset b r.record.pset.toNat).focus⟩
      | none => k.pos
    let segs := (k.allSegs.filter fun g => decide (g.t0 ≤ tick)).map fun g => { g with cut := min g.cut (tick - g.t0) }
    let s := (s.dropGrant b).cutWork b (s.now + (s.chan b).gateLag * cyc)
    let s := if k.engine.runs then (s.takeUp b).onKerf b fun k => { k with engine := .stopped } else s
    s.onKerf b fun k => { k with rels := [], coast := segs, pos := pos, raw := pos, frontier := max k.frontier c }

/-! ## The release test (R195-R199) -/

/-- Whether round label `a` is earlier than `b`, both of 32 bits (R210, R211). -/
def earlierRound (a b : Nat) : Bool := decide (2147483648 ≤ (a % eraLen + eraLen - b % eraLen) % eraLen)

/-- Truss's registers that count (R218). -/
def trRefused : Rule → Nat
  | .sep => 0x04000100
  | .lee => 0x04000104
  | .claim => 0x04000108
  | .full => 0x0400010C

/-- The code of a rule in WAIT_LONG (R214). -/
def Rule.code : Rule → Nat
  | .sep => 1
  | .lee => 2
  | .claim => 3
  | .full => 4

/-- Imported pieces or claims of both ports with their import slots (R209): 0-15 upstream, 16-31 downstream by beam of first import. -/
def State.importsOf (s : State) (claim : Bool) : List (Nat × Import) :=
  let slot (l : List Import) (base : Nat) : List (Nat × Import) :=
    let names := (l.map fun i => (i.device, i.beam)).dedup
    l.filter (fun i => i.claim == claim) |>.map fun i => (base + names.findIdx (fun n => n == (i.device, i.beam)), i)
  slot s.up.inMsgs 0 ++ slot s.down.inMsgs 16

/-- The first conflict of a candidate with released pieces (local beams, then imports) and with claims that outrank it (R197, R199, R212):
its rule and the blocking beam. DESIGN CHOICE (log entry 96): FULL names the beam itself, and a stale port 0x80 or 0x90, its first import slot. -/
def State.releaseTest (s : State) (b : Fin 48) (r : Rel) : Option (Rule × Nat) :=
  let u := s.rules
  let mine := r.pieces
  let against (q : Piece) : Option Rule := mine.findSome? fun a => conflict u a q
  -- the holder's claim, until its record is released
  let isHolder := !s.truss.free && s.truss.token == b.val && !s.truss.claimOut.isEmpty
  let cross := !(s.exportPorts b).isEmpty
  if 64 ≤ ((s.kerf b).rels.filter fun x => !x.pieces.isEmpty).length then some (.full, b)
  else if (s.exportPorts b).any fun p => (s.rport p).stale then some (.claim, if s.up.stale then 0x80 else 0x90)
  else
    let localHit := (beams.filter (· ≠ b)).findSome? fun o =>
      ((s.kerf o).rels.flatMap (·.pieces) ++ (s.kerf o).past).findSome? fun q => (against q).map fun ru => (ru, o.val)
    match localHit with
    | some h => some h
    | none =>
      let impHit := if cross then (s.importsOf false).findSome? fun x => (against x.2.piece).map fun ru => (ru, 0x80 + x.1) else none
      match impHit with
      | some h => some h
      | none =>
        let hitsClaim (k : Piece) : Bool := mine.any fun a => staticConflict u a k
        -- the local claim is the token holder's candidate; it outranks all but claims
        let own := if isHolder || s.truss.free then none
          else if s.truss.claimOut.any hitsClaim then some (Rule.claim, s.truss.token) else none
        match own with
        | some h => some h
        | none =>
          if !cross then none
          else (s.importsOf true).findSome? fun x =>
            let outranks := !isHolder || earlierRound x.2.round s.truss.claimRound
              || (x.2.round == s.truss.claimRound % eraLen && decide (x.2.device < s.chain.index))
            if outranks && hitsClaim x.2.piece then some (Rule.claim, 0x80 + x.1) else none

/-- The start of a beam's next record (R195). -/
def State.candStart (s : State) (b : Fin 48) (c : Nat) : Nat :=
  let margin := if (s.exportPorts b).isEmpty then 0 else 4000
  max (tickCeil (s.kerf b).frontier) (tickCeil (c + 1000 + margin))

/-- A refusal counted (R214, R218). -/
def State.refuse (s : State) (b : Fin 48) (h : Rule × Nat) : State :=
  (s.onKerf b fun k => { k with lastRule := some h.1, blocker := h.2, refusals := min (k.refusals + 1) 0xFFFF }).count (trRefused h.1)

/-- A candidate that the test accepts is released: its wait ends, the token holder's claim ends, and an exported beam's pieces go to the neighbours. -/
def State.grantRelease (s : State) (b : Fin 48) (r : Rel) (round : Nat) : State :=
  let s := (s.endWait b r.start).releaseRel b r
  let s := if !s.truss.free && s.truss.token == b.val then s.unclaim else s
  (s.exportPorts b).foldl (fun st p => r.pieces.foldl (fun st q => st.sendPiece p 1 b round 0 q) st) s

/-- The records of one beam in one round (R195): markers and records without exposing pieces go at once, each other record when the test
accepts it, until one is refused or is not yet a candidate. With `freeOnly`, a record with pieces is left for the next round. DESIGN CHOICE (log entry 97): a record
without exposing pieces is released at once (R195) also while the imports are stale (R212). -/
def State.releaseLoop : Nat → State → Fin 48 → Nat → Nat → Bool → State
  | 0, s, _, _, _, _ => s
  | fuel + 1, s, b, c, round, freeOnly =>
    let k := s.kerf b
    if k.engine.runs = false ∨ k.failed = true ∨ s.followed b = false then s
    else match s.nextRecs b with
      | none => s
      | some (pl, r, _) =>
        let markAt := { (idleRel { beam := b, place := pl, r := r, next := none, pos := k.pos, raw := k.raw, start := k.frontier, prevDone := k.frontier,
                                   chained := k.chain, round := round }) with complete := k.frontier }
        if c + 20000 < tickCeil k.frontier then s
        else if r.ty = tyMarker then
          if r.sub = 2 ∧ k.engine = .running then s.onKerf b fun k => { k with engine := .window, wantStick := true, taken := 0, limit := leAt r.args 0 4 }
          else if r.sub = 2 then s
          else if r.sub = 3 then (s.releaseRel b markAt).onKerf b fun k => { k with engine := if k.preheat then .running else .draining, wantStick := !k.preheat }
          else State.releaseLoop fuel (s.releaseRel b markAt) b c round freeOnly
        else
          let st := s.candStart b c
          if c + 20000 < st ∨ (r.ty = tyRaster ∧ s.rasterReady b = false) then s
          else match s.planNext b st round with
            | none => s
            | some rel =>
              if rel.pieces.isEmpty ∨ s.mode.mode ≠ .expose ∧ s.mode.mode ≠ .preheat then State.releaseLoop fuel (s.grantRelease b rel round) b c round freeOnly
              else if freeOnly then s
              else match s.releaseTest b rel with
                | some h => s.refuse b h
                | none => State.releaseLoop fuel (s.grantRelease b rel round) b c round freeOnly

/-- The records that a beam has fetched, which bound a round's loop. -/
def State.fetched (s : State) (b : Fin 48) : Nat := (s.kerf b).fifo.length + (s.kerf b).queue.length + 1

/-- The beams in cyclic order from one on. -/
def cyclic (from_ : Nat) : List (Fin 48) := tabulate 48 fun i => Fin.ofNat 48 (from_ + i)

/-- A stable insertion into a list that rises by a key, and the sort by it. -/
def insertBy {α : Type} (f : α → Nat) (x : α) : List α → List α
  | [] => [x]
  | y :: ys => if f x < f y then x :: y :: ys else y :: insertBy f x ys
def sortBy {α : Type} (f : α → Nat) (l : List α) : List α := l.foldl (fun acc x => insertBy f x acc) []

/-- The order in which a round takes the beams (R198): waiting beams from the token on, then the others by start. -/
def State.roundOrder (s : State) (c : Nat) : List (Fin 48) :=
  let cyc := cyclic s.truss.token
  let waiting := cyc.filter fun b => (s.kerf b).held
  let others := cyc.filter fun b => !(s.kerf b).held
  waiting ++ sortBy (fun b => s.candStart b c) others

/-- The token goes to the first waiting beam from `start` on, whose candidate becomes its claim and goes to the neighbours (R198, R199); with none waiting it
is free. -/
def State.passToken (s : State) (c round start : Nat) : State :=
  match (cyclic start).find? fun b => (s.kerf b).held with
  | none => { s with truss := { s.truss with token := start, free := true, claimOut := [] } }
  | some b =>
    let pieces := match s.planNext b (s.candStart b c) round with
      | some r => r.pieces
      | none => []
    let s : State := { s with truss := { s.truss with token := b.val, free := false, claimRound := round, claimOut := pieces } }
    (s.exportPorts b).foldl (fun st p => pieces.foldl (fun st q => st.sendPiece p 3 b round 0 q) st) s

/-! ## Failure and cover (R204-R206) -/

/-- The exposing records of a beam's main stream from index `i` on. -/
def State.exposingFrom (s : State) (b : Fin 48) (i : Nat) : Nat :=
  let n := (s.streamOf b false).2
  ((List.range (n - i)).filter fun j => (s.streamRec b false (i + j)).isExposing).length

/-- Working beams that are eligible for a stick. -/
def State.eligibleWorking (s : State) (k : Nat) : List (Fin 48) :=
  beams.filter fun b => (s.layers.stick k).eligible.getLsbD b.val && s.working b

/-- A failed beam's round (R204, R205): its releases are withdrawn, the token passes on, its stick returns, and the cover test runs. A beam that fails before
its main stream has begun leaves all of it uncovered. -/
def State.takeFailure (s : State) (b : Fin 48) (c round : Nat) : State :=
  let cls := s.regF (beamReg b 0) 8 8
  let pos := (s.kerf b).pos
  let returned := match (s.kerf b).stick with
    | some (n, _) => if (s.layers.stick n).state = StickState.granted ∨ (s.layers.stick n).state = StickState.running then some n else none
    | none => none
  let s := (s.withdraw b fun _ => false).onKerf b fun k => { k with
    rels := [], notice := false, pos := pos, held := false, waitSince := none, wantStick := false, stick := none, stickDone := 0, queue := [] }
  let s := if !s.truss.free && s.truss.token == b.val then s.unclaim.passToken c round ((b.val + 1) % 48) else s
  let s := match returned with
    | some n => ((s.onStick n fun t => { t with state := .free, owner := none }).count 0x04000114)
    | none => s
  -- the cover test
  let lost := (List.range s.layers.sticks.length).filter fun n => (s.layers.stick n).state == .free && (s.eligibleWorking n).isEmpty
  let s := lost.foldl (fun st n => st.onStick n fun t => { t with state := .uncovered }) s
  let last := (s.kerf b).failIndex
  let recs : Nat := s.exposingFrom b (if last = 0xFFFFFFFF then 0 else last.toNat + 1)
  if recs = 0 ∧ lost.isEmpty then
    s.raise 0x0500 1 cls [0, b] (leBytes 1 b ++ leBytes 1 cls ++ leBytes 2 (bit returned.isSome) ++ leBytes 4 last.toNat)
  else
    let s := s.onLayers fun l => { l with uncovered := if recs ≠ 0 then b :: l.uncovered else l.uncovered, mainUncov := l.mainUncov || recs != 0 }
    s.raise 0x0501 2 cls [0, b] (leBytes 1 b ++ leBytes 1 0 ++ leBytes 2 lost.length ++ leBytes 4 recs)

/-- COVER_REPORT and TR_COVER at activation (R206). -/
def State.coverReport (s : State) : State :=
  let mask := (beams.filter fun b => s.exposingFrom b 0 != 0).foldl (fun (m : Nat) b => m + 2 ^ b.val) 0
  let single := ((List.range s.layers.sticks.length).filter fun n => decide ((beams.filter fun b => (s.layers.stick n).eligible.getLsbD b.val).length = 1)).length
  let s := s.setReg 0x04000120 (BitVec.ofNat 32 mask)
  let s := s.setReg 0x04000124 (BitVec.ofNat 32 (mask / 0x100000000 + 65536 * single))
  s.raise 0x0503 0 0 [] (leBytes 4 s.layerNo ++ leBytes 6 mask ++ leBytes 2 0 ++ leBytes 2 single ++ leBytes 2 0)

/-! ## Shared sticks (R201-R203) -/

/-- The four rectangles of a beam's territory (R213): min and max corners; all zero is unused. -/
def State.territory (s : State) (b : Fin 48) : List (Int × Int × Int × Int) :=
  let w (r i : Nat) : Word := s.reg (0x04001000 + 0x40 * b.val + 0x10 * r + 4 * i)
  (tabulate 4 fun r => (s32 (w r 0), s32 (w r 1), s32 (w r 2), s32 (w r 3))).filter fun q => q != (0, 0, 0, 0)

/-- Whether a point lies in a beam's territory. -/
def State.inTerritory (s : State) (b : Fin 48) (p : Pt) : Bool :=
  (s.territory b).any fun q => decide (q.1 ≤ p.x) && decide (q.2.1 ≤ p.y) && decide (p.x ≤ q.2.2.1) && decide (p.y ≤ q.2.2.2)

/-- The first point of a stick: its first record's end point (R155). -/
def State.stickPoint (s : State) (n : Nat) : Pt := (s.recAt s.activeBase (s.layers.stick n).off).stop

/-- The choice of a stick for a beam (R202). -/
def State.chooseStick (s : State) (b : Fin 48) : Option Nat :=
  let inWindow := (s.kerf b).engine == .window
  let cand := (List.range s.layers.sticks.length).filter fun n =>
    (s.layers.stick n).state == .free && (s.layers.stick n).eligible.getLsbD b.val
      && !(inWindow && (s.eligibleWorking n).any fun o => o != b && s.inTerritory o (s.stickPoint n))
  let key (n : Nat) : Nat × Nat × Nat × Nat :=
    let p := s.stickPoint n
    let q := (s.kerf b).pos
    (bit (!(s.inTerritory b p)), (s.eligibleWorking n).length, ((p.x - q.x) * (p.x - q.x) + (p.y - q.y) * (p.y - q.y)).toNat, n)
  let less (a b : Nat × Nat × Nat × Nat) : Bool :=
    decide (a.1 < b.1) || (a.1 == b.1 && (decide (a.2.1 < b.2.1) || (a.2.1 == b.2.1 && (decide (a.2.2.1 < b.2.2.1)
      || (a.2.2.1 == b.2.2.1 && decide (a.2.2.2 < b.2.2.2))))))
  cand.foldl (fun best n => match best with
    | none => some n
    | some m => if less (key n) (key m) then some n else best) none

/-- The window of a beam closes (R178): its marker completes and the stream continues. -/
def State.closeWindow (s : State) (b : Fin 48) (round : Nat) : State :=
  let k := s.kerf b
  match k.fifo with
  | r :: _ =>
    let m := idleRel { beam := b, place := .main k.next, r := r, next := none, pos := k.pos, raw := k.raw, start := k.frontier, prevDone := k.frontier,
                       chained := false, round := round }
    (s.releaseRel b m).onKerf b fun k => { k with engine := .running, wantStick := false }
  | [] => s

/-- A beam past its END is DONE when every record of it has completed and no stick that it may take remains undone (R178). -/
def State.drained (s : State) (b : Fin 48) : State :=
  let k := s.kerf b
  let left := s.layers.sticks.any fun t => t.eligible.getLsbD b.val && t.state != .done && t.state != .uncovered
  if k.failed = true ∨ k.stick ≠ none ∨ k.engine ≠ .draining ∨ left = true ∨ k.rels.isEmpty = false then s
  else s.onKerf b fun k => { k with engine := .done, wantStick := false }

/-- One beam's request for a stick in a round (R202, R178). -/
def State.stickRequest (s : State) (b : Fin 48) (c round : Nat) : State :=
  let k := s.kerf b
  if k.failed = true ∨ k.stick ≠ none ∨ (k.engine ≠ .window ∧ k.engine ≠ .draining) then s
  else if k.engine = .window ∧ k.limit ≠ 0 ∧ k.limit ≤ k.taken then s.closeWindow b round
  else match s.chooseStick b with
    | some n =>
      let s := (s.onStick n fun t => { t with state := .granted, owner := some b, grants := min (t.grants + 1) 0xFFFF }).count 0x04000110
      let s := (s.onKerf b fun k => { k with
        stick := some (n, 0), stickDone := 0, queue := [], fifo := k.fifo.take stickShare, taken := k.taken + 1, sticks := min (k.sticks + 1) 0xFFFF
        chain := false }).fill b fifoSize
      State.releaseLoop (s.fetched b) s b c round true
    | none =>
      if k.engine = .window then s.closeWindow b round else s.drained b

/-! ## The round (R194) -/

/-- The start of the round that a time lies in, and its label (R194). -/
def roundStart (t : Nat) : Nat := eraOf t * eraLen + nsOf t / 1000 * 1000
def roundLabel (t : Nat) : Nat := eraOf t * 4294968 + nsOf t / 1000

/-- The start of the round with a label. -/
def roundTime (label : Nat) : Nat := label / 4294968 * eraLen + label % 4294968 * 1000

/-- A release is provisional until 3 µs after the start of its round; one that conflicts with an import of an earlier round, or of an equal round and a lower
device, loses (R211). Each import is settled in the first round after it arrived, and what passed stays released (R208). -/
def State.settleRevocations (s : State) : State :=
  let u := s.rules
  let since := roundStart (roundStart s.now - 1)
  (beams.filter fun b => !(s.exportPorts b).isEmpty).foldl (fun st b =>
    let loses (r : Rel) : Bool := decide (st.now < roundTime r.round + 3000) && ((st.importsOf false).any fun x =>
      decide (since ≤ x.2.arrived) && (earlierRound x.2.round r.round || (x.2.round == r.round % eraLen && decide (x.2.device < st.chain.index)))
        && r.pieces.any fun a => (conflict u a x.2.piece).isSome)
    if (st.kerf b).rels.any loses then (st.withdraw b fun r => !loses r).count 0x04000118 else st) s

/-- The longest PERSIST, in ns (R216). -/
def mostPersist : Nat := 1000000

/-- Imported pieces whose durations have ended, and pieces of completed records, are dropped once no value of PERSIST can reach them (R193, R208). -/
def State.pruneImports (s : State) : State :=
  let s : State := { s with kerfs := vmap s.kerfs fun _ k => { k with past := k.past.filter fun q => decide (s.now < q.t1 + mostPersist) } }
  let f (r : Rafter) : Rafter := { r with inMsgs := r.inMsgs.filter fun i => i.claim || i.endless || decide (s.now < i.piece.t1 + mostPersist) }
  { s with up := f s.up, down := f s.down }

/-- Whether a beam has a record that waits for its release at the commit point (R195); a raster line that waits for its sync does not wait for Truss
(R175). -/
def State.atBoundary (s : State) (b : Fin 48) (c : Nat) : Bool :=
  let k := s.kerf b
  k.engine.runs && !k.failed && s.followed b && decide (k.frontier ≤ c) && (match s.nextRecs b with
    | some (_, r, _) => r.ty != tyMarker && !(r.ty == tyRaster && !s.rasterReady b)
    | none => false)

/-- A beam whose commit point has reached its frontier waits; a contour chain at that joint is broken (R172, R195). Its wait so far counts in TR_MAX_WAIT
(R200). -/
def State.markWait (s : State) (c : Nat) (b : Fin 48) : State :=
  if s.atBoundary b c then
    let joint := match s.nextRecs b with | some (_, r, _) => r.ty == tyContour | none => false
    let s := if (s.kerf b).held = false ∧ (s.kerf b).chain = true ∧ joint = true then s.breakChain b true else s
    let s := s.onKerf b fun k => { k with held := true, waitSince := some (k.waitSince.getD s.now) }
    let w := (s.now - ((s.kerf b).waitSince.getD s.now)) / 1000
    if (s.reg 0x0400011C).toNat < w then s.setReg 0x0400011C (BitVec.ofNat 32 (min w 0xFFFFFFFF)) else s
  else s.endWait b c

/-- The waiting beams are marked, and the token moves (R195, R198, R199): a holder that still waits keeps it, with its claim as it now stands. -/
def State.moveToken (s : State) (c round : Nat) : State :=
  let s := beams.foldl (fun st b => st.markWait c b) s
  let t := s.truss
  if t.free then s.passToken c round t.token
  else
    let b := Fin.ofNat 48 t.token
    if (s.kerf b).held then
      { s with truss := { t with claimOut := match s.planNext b (s.candStart b c) round with
        | some r => r.pieces
        | none => [] } }
    else s.unclaim.passToken c round ((t.token + 1) % 48)

/-- The HEARTBEAT of a round (R210). -/
def State.heartbeat (s : State) (round : Nat) : State := if s.crossEn then (s.sendBare .up 5 0xFF round).sendBare .down 5 0xFF round else s

/-- One Truss round (R194). -/
def State.trussRound (s : State) : State :=
  let round := roundLabel s.now
  let c := roundStart s.now + s.leadNs
  let s := s.gasUpdate
  -- 1: failure notices and imports
  let s := (beams.filter fun b => (s.kerf b).notice).foldl (fun st b => st.takeFailure b c round) s
  let s := (beams.foldl (fun st b => st.commitStick b) s.pruneImports).settleRevocations
  if (s.mode.mode = .expose ∨ s.mode.mode = .preheat) ∧ s.mode.transition = none then
    -- 2: the release test, 3: the sticks, 4: the token
    let s := (s.roundOrder c).foldl (fun st b => State.releaseLoop (st.fetched b) st b c round false) s
    let s := if s.mode.mode = .expose then (cyclic s.truss.token).foldl (fun st b => st.stickRequest b c round) s else s
    (((s.moveToken c round).heartbeat round).completeLayer).preheatDone
  else ((if s.mode.mode = .expose then beams.foldl (fun st b => st.drained b) s else s).heartbeat round).completeLayer

end Sys2Proof.Machine
end

