-- ==== Sys2Proof/Machine/Chain.lean ====
section
/-! DEFINITION. The chain (11_lanes_links.md R354, R359-R367, 02 R46): CONTROL messages, what workers report, admission, and device time
that rises on joining. The codes of the CONTROL messages other than 0x0A and 0x0C, and how a worker tells the manager of its neighbour,
are the model's (log entry 25). -/

namespace Sys2Proof.Machine

open Sys2Proof

/-- The workers that are admitted and present. -/
def State.workers (s : State) : List (Nat × Word) := s.chain.members.filter fun m => s.chain.present.getLsbD m.1

/-- To every worker of the chain. -/
def State.toWorkers (s : State) (code : Nat) (body : List Byte) : State :=
  if s.chain.manager then s.workers.foldl (fun st m => st.sendControl .down code m.1 body) s else s

/-- What the manager tells of a move: the mode, the hold cause and the device time of the move, at which every device makes it (R46). -/
def State.modeNotice (s : State) (m : Mode) (cause : Nat) : List Byte := leBytes 1 m.code ++ leBytes 3 cause ++ timeBytes s.now

/-- What it tells of a move that is scheduled, or of one that is scheduled no more (R46, R94). -/
def planNotice (code due : Nat) (on : Bool) : List Byte := leBytes 1 code ++ leBytes 1 (bit on) ++ leBytes 2 0 ++ timeBytes due

/-- Whether the downstream port has no partner and its lanes' attempts have ended: the chain ends here (R364). -/
def State.atChainEnd (s : State) : Bool := s.down.port == .absent || s.down.port == .disabled

/-- The chain's end has been found. -/
def State.chainFormed (s : State) : State := s.onChain fun c => { c with forming := false }

/-- A worker reports its mode, its active layer and whether the chain ends at it (R46, R165, R364). -/
def State.report (s : State) : State :=
  let gen := (s.layers.activePkg.map fun p => p.jobGen.toNat).getD 0
  s.toManager ctlReport (leBytes 1 s.mode.mode.code ++ leBytes 1 (bit s.layers.activePkg.isSome + 2 * bit s.atChainEnd) ++ leBytes 2 gen ++ leBytes 4 s.layerNo)

/-- Whether every device of the chain is in the manager's mode (R47). -/
def State.chainSameMode (s : State) : Bool :=
  !s.chain.manager || s.workers.all fun m => getKey m.1 0xFF s.chain.modes == s.mode.mode.code

/-- Whether no worker is in BOOT or UPDATE (R46). -/
def State.chainAwake (s : State) : Bool :=
  !s.chain.manager || s.workers.all fun m => let c := getKey m.1 0xFF s.chain.modes; c != 1 && c != 11

/-- Whether every device holds an active package with the same layer and generation (R165). -/
def State.chainSameLayer (s : State) : Bool :=
  let gen := (s.layers.activePkg.map fun p => p.jobGen.toNat).getD 0
  !s.chain.manager || s.workers.all fun m => s.chain.layers.any fun l => l.1 == m.1 && l.2.1 == s.layerNo && l.2.2 == gen

/-- An ERA_MARK record (R456): cause 1 low-16 wrap, 2 start-up, 3 device time raised. -/
def State.eraMark (s : State) (cause : Nat) : State :=
  let s := s.record recEraMark (leBytes 1 cause ++ leBytes 1 (bit s.time.valid) ++ leBytes 2 0 ++ leBytes 4 (eraOf s.now) ++ s64 s.time.offset)
  { s with tally := { s.tally with lastEra := eraOf s.now } }

/-- Device time raised on joining (R367): never lowered, marked in the records, and network time does not move. -/
def State.raiseTime (s : State) (t : Nat) : State :=
  if t ≤ s.now then s
  else
    let d : Int := ((t - s.now : Nat) : Int)
    let s := { s with now := t }
    (s.onTime fun u => { u with offset := if u.valid then u.offset - d else u.offset, apply := u.apply.map fun x => (x.1, x.2 - d) }).eraMark 3

/-- CHAIN_FAULT (R370): causes 1 partner on the manager's upstream port, 2 beyond sixteen, 3 a joiner's time is later, 4 a returning
worker's time is off, 5 a manager on a downstream port. -/
def State.chainFault (s : State) (cause port : Nat) (id : Word) : State :=
  (if cause = 2 ∨ cause = 5 then s.chainFormed else s).raise 0x0907 1 0 [4, port] (leBytes 1 cause ++ leBytes 1 port ++ leBytes 2 0 ++ leBytes 4 id.toNat)

/-- The next free index (R365): indices are not given again. -/
def Chain.nextIndex (c : Chain) : Nat := (c.members.map (·.1)).foldl max 0 + 1

/-- What the manager tells its workers of a session that opens or closes: its identifier, its client and JUMBO_REPLIES (R79, R88, R105, log entry 25). -/
def Session.notice (x : Session) (opened : Bool) : List Byte :=
  leBytes 4 x.id.toNat ++ leBytes 4 x.client.toNat ++ leBytes 1 (bit opened) ++ leBytes 1 (bit x.jumbo) ++ leBytes 2 0

/-- The member that a partner is: one of its DEVICE_ID at its place in the chain, else the one of its DEVICE_ID whose index it still holds. Chips of one revision have
one DEVICE_ID (R33), so that the place tells them apart (log entry 103). -/
def Chain.memberOf (c : Chain) (p : Partner) : Option (Nat × Word) :=
  match c.members.find? fun m => m.2 == p.deviceId && getKey m.1 16 c.places == p.via with
  | some m => some m
  | none => c.members.find? fun m => m.2 == p.deviceId && p.index == some m.1

/-- A partner is given its index (R364, R365): a device with the DEVICE_ID that it had before keeps its former one. -/
def State.takeIn (s : State) (p : Partner) : State :=
  let known := s.chain.memberOf p
  let idx := match known with
    | some m => m.1
    | none => s.chain.nextIndex
  if 15 < idx then s.chainFault 2 1 p.deviceId
  else
    let s := s.onChain fun c => { c with
      members := if known.isSome then c.members else c.members ++ [(idx, p.deviceId)], places := putKey idx p.via 16 c.places, count := if c.present.getLsbD idx || c.lost.getLsbD idx then c.count else c.count + 1
      present := c.present ||| (1#16 <<< idx), lost := c.lost &&& ~~~(1#16 <<< idx), modes := putKey idx 2 0xFF c.modes }
    let s : State := if p.via = 0 then s.onRport .down fun r => { r with partner := r.partner.map fun q => { q with index := some idx } } else s
    let s := s.sendRafter .down 0x02 (if p.via = 0 then 0xFF else p.via) 0 (leBytes 1 idx ++ leBytes 3 0 ++ timeBytes s.now)
    let s := s.front.sessions.foldl (fun st x => st.sendControl .down ctlSession idx (x.notice true)) s
    s.raise 0x0905 0 0 [] (leBytes 1 idx ++ leBytes 3 0 ++ leBytes 4 p.deviceId.toNat)

/-- The partners that wait are admitted at an entry into CONFIG or IDLE (R365). -/
def State.admitWaiting (s : State) : State :=
  if s.chain.manager then
    s.chain.waiting.foldl (fun st p => st.takeIn p) (s.onChain fun c => { c with waiting := [] })
  else s

/-- The OFFSET last decided: the one that waits for its apply time, else the one in force. -/
def State.newOffset (s : State) : Int :=
  match s.time.apply with
  | some x => x.2
  | none => s.time.offset

/-- The manager's OFFSET goes to every worker (R392), to apply 50 µs after sending. -/
def State.sendOffset (s : State) : State :=
  if s.chain.manager && !s.workers.isEmpty then s.toWorkers ctlOffset (timeBytes (s.now + 50 * micro) ++ s64 s.newOffset) else s

/-- A step that may change OFFSET. With workers, the change is sent and the manager too applies it at the apply time (R392). -/
def State.offsetStep (s : State) (f : State → State) : State :=
  let wait := s.time.apply.isSome
  let b := s.onTime fun u => { u with offset := s.newOffset, valid := u.valid || wait }
  let r := f b
  let back (st : State) (a : Option (Nat × Int)) : State := st.onTime fun u => { u with offset := s.time.offset, valid := s.time.valid, apply := a }
  if r.time.offset = b.time.offset ∧ r.time.valid = b.time.valid then (if wait then back r s.time.apply else r)
  else if s.chain.manager && !s.workers.isEmpty then
    let v := r.time.offset
    let r := r.onTime fun u => { u with apply := none }
    back r.sendOffset (some (s.now + 50 * micro, v))
  else r.onTime fun u => { u with apply := none }

/-- The apply time of an OFFSET is reached (R392). -/
def State.offsetApply (s : State) : State :=
  match s.time.apply with
  | some x => ((s.reach x.1).onTime fun u => { u with offset := x.2, valid := true, apply := none }).timeStatus
  | none => s

end Sys2Proof.Machine
end

