-- ==== Sys2Proof/Machine/Plumb.lean ====
section
/-! DEFINITION. Plumb (07_plumb_meltpool.md): feature windows, camera features, the control law, excursions, camera loss and the tuning
trace. -/

namespace Sys2Proof.Machine

open Sys2Proof

/-- A beam's controller, and a change of it. -/
def State.plumb (s : State) (b : Fin 48) : Plumb := s.plumbs[b.val]'b.isLt
def State.onPlumb (s : State) (b : Fin 48) (f : Plumb → Plumb) : State := { s with plumbs := vmod s.plumbs b f }

/-- A joist lane, and a change of it. -/
def State.joist (s : State) (n : Fin 16) : Joist := s.joists[n.val]'n.isLt
def State.onJoist (s : State) (n : Fin 16) (f : Joist → Joist) : State := { s with joists := vmod s.joists n f }

/-! ## Profiles (R231, R236) -/

/-- The addresses of a profile's eight words and their values in the registers. -/
def profReg (b : Fin 48) (p k : Nat) : Nat := beamReg b (0x5100 + 0x20 * p + 4 * k)
def State.profRegs (s : State) (b : Fin 48) (p : Nat) : List Word := tabulate 8 fun k => s.reg (profReg b p k)

/-- The words of a profile in force: those before a write that waits for the record boundary, else the registers (R236). -/
def State.profWords (s : State) (b : Fin 48) (p : Nat) : List Word :=
  match (s.plumb b).pendProf.find? (fun e => e.1 == p) with
  | some e => e.2
  | none => s.profRegs b p

/-- A control profile (R231), with the fields that the variable in force selects. -/
structure Prof where
  mode    : Nat
  var     : Nat
  resetGate : Bool
  setpoint : Nat
  kp      : Nat
  ki      : Nat
  iLimit  : Nat
  mMin    : Nat
  ffGain  : Nat
  high    : Nat
  low     : Nat
deriving DecidableEq, Repr

/-- The bytes of a profile's words. -/
def wordsBytes (ws : List Word) : List Byte := ws.flatMap fun w => leBytes 4 w.toNat

/-- A profile as it runs, with its FB_ fields in place of a camera variable's after camera loss (R242). -/
def profOf (bs : List Byte) (fallback : Bool) : Prof :=
  let cam := decide (3 ≤ byteAt bs 1)
  let fb := fallback && cam
  { mode := byteAt bs 0, var := if fb then byteAt bs 2 else byteAt bs 1, resetGate := (bs.getD 3 0).getLsbD 0
    setpoint := if fb then leAt bs 6 2 else leAt bs 4 2, kp := if fb then leAt bs 12 2 else leAt bs 8 2
    ki := if fb then leAt bs 14 2 else leAt bs 10 2, iLimit := leAt bs 16 2, mMin := leAt bs 18 2, ffGain := leAt bs 20 2
    high := if fb then leAt bs 28 2 else leAt bs 24 2, low := if fb then leAt bs 30 2 else leAt bs 26 2 }

/-- The profile in force. -/
def State.prof (s : State) (b : Fin 48) (p : Nat) : Prof := profOf (wordsBytes (s.profWords b p)) (s.plumb b).fallback

/-- The offsets of the values of a profile's 32 bytes that are out of range (R231). -/
def profFaults (bs : List Byte) : List Nat :=
  badAt [(decide (3 < byteAt bs 0), 0), (decide (4 < byteAt bs 1), 1), (decide (2 < byteAt bs 2), 2), (decide (1 < byteAt bs 3), 3)
        , (decide (2 ≤ byteAt bs 0) && leAt bs 4 2 == 0, 4), (decide (3 ≤ byteAt bs 1) && leAt bs 6 2 == 0, 6), (decide (0x4000 < leAt bs 16 2), 16)
        , (decide (0x8000 < leAt bs 18 2), 18), (leAt bs 22 2 != 0, 22)]

/-- The offset of the first value of a profile's 32 bytes that is out of range. -/
def profBad (bs : List Byte) : Option Nat := (profFaults bs).head?

/-- AIN_CONFIG's fields (R249). -/
def State.secMode (s : State) (b : Fin 48) : Nat := s.regF (beamReg b 0x3000) 4 2
def State.ain0Used (s : State) (b : Fin 48) : Bool := s.regB (beamReg b 0x3000) 6
def State.ain1Used (s : State) (b : Fin 48) : Bool := s.regB (beamReg b 0x3000) 7
def State.senseDelay (s : State) (b : Fin 48) : Nat := s.regF (beamReg b 0x3000) 8 10

/-- Whether a profile's variable needs an input that is not declared (R222). -/
def State.noInput (s : State) (b : Fin 48) (v : Nat) : Bool :=
  (v == 0 && !s.ain0Used b) || (v == 1 && !s.ain1Used b) || (v == 2 && !(s.ain0Used b && s.ain1Used b))

/-- Plumb delivers 1.0 and updates nothing in these modes (R235). -/
def State.bypass (s : State) : Bool :=
  match s.mode.mode with
  | .expose => false
  | .preheat => false
  | .pause => false
  | .hold => false
  | _ => true

/-! ## The control law (R232-R234) -/

/-- The feed-forward term in units of 2^-29, exactly (R232). -/
def mff29 (p : Prof) (g : Nat) : Int := clampInt 0 (2 ^ 30) (2 ^ 29 + (p.ffGain : Int) * ((g : Int) - 16384))

/-- The base of the multiplier in units of 2^-29: 1.0, or mff (R232). -/
def base29 (p : Prof) (g : Nat) : Int := if p.mode = 1 ∨ p.mode = 3 then mff29 p g else 2 ^ 29

/-- A value in units of 2^-30 rounded to u2.14, ties away from zero (R234). -/
def toU14 (v : Int) : Nat := (roundHalfAway v 65536).toNat

/-- The trim factor from a proportional and an integral term, in u2.14 (R233). -/
def trim (p i : Int) : Nat := toU14 (2 ^ 30 + clampInt (-(2 ^ 30)) (2 ^ 30) (p + i))

/-- The multiplier before its limits, in units of 2^-43. -/
def mraw (p : Prof) (g f : Nat) : Int := base29 p g * f

/-- PL_CEILING (R255). -/
def State.ceiling (s : State) (b : Fin 48) : Nat := s.regF (beamReg b 0x5004) 0 16

/-- PL_CEILING as a frame that starts at a time takes it (R236, R244): as it stood before the BEAM cycle in which the frame's m is formed. DEDUCED (log entry 99): that cycle is
the deadline of R237, 100 ns before the frame. -/
def State.ceilingFor (s : State) (b : Fin 48) (t : Nat) : Nat :=
  (((s.plumb b).ceilings.filter fun e => decide ((t - 100) / cyc ≤ e.1 / cyc)).getLast?.map (·.2)).getD (s.ceiling b)

/-- PL_CEILING is written. -/
def State.ceilingWrite (s : State) (b : Fin 48) (w : Word) : State :=
  (s.onPlumb b fun c => { c with ceilings := (s.now, s.ceiling b) :: c.ceilings.filter fun e => decide (s.now < e.1 + 1000) }).setReg (beamReg b 0x5004) w

/-- The variable of a profile (R231). -/
def Plumb.varValue (c : Plumb) (v : Nat) : Nat :=
  if v = 0 then c.int0f else if v = 1 then c.int1f else if v = 2 then c.tempf else if v = 3 then c.cam.area else c.cam.length

/-- The error of a controller in s2.14, towards zero (R233). -/
def errOf (r y : Nat) : Int := if r = 0 then 0 else clampInt (-32768) 32767 (Int.tdiv (((r : Int) - y) * 16384) r)

/-- FEAT_FLAGS (R251). -/
def Plumb.flags (c : Plumb) : Nat :=
  c.window % 4 + 4 * maskOf [c.sat0, c.sat1, c.tempValid, c.high, c.low, c.backrefl, c.clampHi, c.clampLo, c.cam.lastValid, c.cam.noPool,
    c.exc.any fun e => e.opened.isSome, c.fallback]

/-- The trim in force as an integrator value, f − 1 (R236, R242): that of the last frame's f. -/
def Plumb.trimNow (c : Plumb) : Int := ((c.fOut : Int) - 16384) * 65536

/-- The integrators of some profiles take the trim in force; those of a failed beam no longer change (R235). -/
def Plumb.carryTrim (c : Plumb) (which : Nat → Bool) : Plumb :=
  { c with integ := if c.frozen then c.integ else c.integ.zipIdx.map fun (e : Int × Nat) => if which e.2 then c.trimNow else e.1 }

/-- Integrators hold in PAUSE and HOLD (R235). -/
def State.integHolds (s : State) : Bool := s.mode.mode == .pause || s.mode.mode == .hold

/-- One update of a profile's controller (R233): `dt` in whole µs, `gc` the g of the next control frame. The integrator and f change; the
update counts, and an armed trace takes an entry. -/
def State.control (s : State) (b : Fin 48) (pi dt gc stamp : Nat) : State :=
  let c := s.plumb b
  let p := s.prof b pi
  if c.frozen || s.bypass then s
  else if p.mode < 2 then s.onPlumb b fun c => { c with f := 16384 }
  else if s.noInput b p.var then
    s.onPlumb b fun c => { c with f := trim 0 (c.integ.getD pi 0) }
  else
    let y := c.varValue p.var
    let e := errOf p.setpoint y
    let pt := (p.kp : Int) * e * 16
    let i := c.integ.getD pi 0
    let lim : Int := (p.iLimit : Int) * 65536
    let i1 := if s.integHolds then i else clampInt (-lim) lim (i + (p.ki : Int) * e * dt)
    let f1 := trim pt i1
    let hi := s.ceiling b
    let lo := min p.mMin hi
    let raw := mraw p gc f1
    let held := (decide ((hi : Int) * 2 ^ 29 < raw) && decide (0 < e)) || (decide (raw < (lo : Int) * 2 ^ 29) && decide (e < 0))
    let i2 := if held then i else i1
    let f2 := if held then trim pt i else f1
    let m := min (max (roundHalfAway (mraw p gc f2) (2 ^ 29)).toNat lo) hi
    let entry := leBytes 4 (nsOf stamp) ++ leBytes 2 y ++ leBytes 2 (unsignedOf 16 e) ++ leBytes 2 f2 ++ leBytes 2 m ++ leBytes 2 gc
      ++ leBytes 2 c.flags
    let traced := c.tracing && (s.regF (beamReg b 0x5030) 1 3 == pi) && decide (c.trace.length < 128)
    let s := s.onPlumb b fun c => { c with
      undo := some ⟨s.now, c.integ, c.f, c.trace, s.reg (beamReg b 0x502C), c.lastUpd⟩, lastUpd := putKey pi s.now 0 c.lastUpd
      integ := updAt c.integ pi fun _ => i2, f := f2, trace := if traced then c.trace ++ [entry] else c.trace }
    s.count (beamReg b 0x502C)

/-! ## Excursions (R238-R240) -/

/-- Index of a kind. -/
def excIndex : ExcKind → Nat
  | .high => 0
  | .low => 1
  | .backrefl => 2
  | .sat => 3

/-- A kind's counts with none. -/
def noExc : ExcOpen := ⟨0, 0, 0, 0, .main 0, 0, 0, 0, false⟩

/-- EXC_MIN, EXC_REC_LIMIT and EXC_ALERT (R254). -/
def State.excMin (s : State) (b : Fin 48) : Nat := s.regF (beamReg b 0x5000) 8 8
def State.excLimit (s : State) (b : Fin 48) : Nat := s.regF (beamReg b 0x5000) 16 8

/-- One test of a kind: whether it qualifies, and the value that its extreme keeps. `stamp` is its device time, `bed` the bed time of its last lit instant, which gives
the record in progress and the position. -/
def State.excTest (s : State) (b : Fin 48) (kind : Nat) (qual : Bool) (value profile stamp bed : Nat) (frame : Bool := false) : State :=
  let k := s.kerf b
  let pt := k.target (bed / tickNs)
  let place := match k.gates.find? (fun g => decide (bed < g.stop)) with
    | some g => g.place
    | none => .main k.next
  s.onPlumb b fun c => { c with exc := updAt c.exc kind fun x =>
    let better (o : ExcOpen) : ExcOpen := { o with
      windows := o.windows + 1, last := stamp
      extreme := if kind = 1 then min o.extreme value else if kind = 3 then o.extreme + value else max o.extreme value }
    let x := if qual then
        let first := if x.runIn = 0 then { profile := profile, start := stamp, windows := 1, extreme := value, place := place, x := pt.x, y := pt.y, last := stamp, frames := frame } else better x.first
        { x with runIn := x.runIn + 1, runOut := 0, first := first }
      else { x with runIn := 0, runOut := x.runOut + 1 }
    { x with opened := x.opened.map fun o => if qual then better o else { o with windows := o.windows + 1 } } }

/-- The HIGH and LOW tests of an update (R238), against the limits of the variable in force. -/
def State.limitTests (s : State) (b : Fin 48) (p : Prof) (pi stamp bed : Nat) (frame : Bool) : State :=
  let y := (s.plumb b).varValue p.var
  let hi := p.high != 0 && decide (p.high < y)
  let lo := p.low != 0 && decide (y < p.low)
  ((s.onPlumb b fun c => { c with high := hi, low := lo }).excTest b 0 hi y pi stamp bed frame).excTest b 1 lo y pi stamp bed frame

/-- The four bytes that name a record: its main-stream index, or its stick and the record in it. -/
def placeBytes : Place → List Byte
  | .main i => leBytes 4 i
  | .pre i => leBytes 4 i
  | .stick k i => leBytes 2 k ++ leBytes 2 i
  | .scan => leBytes 4 0

/-- An event opens after EXC_MIN qualifying tests (R239), and sends EXCURSION at most once per 10 ms (R240). -/
def State.excOpen (s : State) (b : Fin 48) (kind : Nat) : State :=
  let c := s.plumb b
  let x := c.exc.getD kind ⟨0, 0, noExc, none⟩
  if x.opened.isSome ∨ x.runIn < s.excMin b then s
  else
    let o := x.first
    let s := s.onPlumb b fun c => { c with exc := updAt c.exc kind fun x => { x with opened := some o } }
    if s.regB (beamReg b 0x5000) 1 = false then s
    else
      let free := match c.excAt with
        | none => true
        | some t => decide (t + 10 * milli ≤ s.now)
      if free then
        (s.onPlumb b fun c => { c with excAt := some s.now, excMerged := 0 }).raise 0x0600 0 0 [0, b]
          (leBytes 1 (kind + 1) ++ leBytes 1 o.profile ++ leBytes 2 c.excMerged ++ placeBytes o.place ++ leBytes 4 (unsignedOf 32 o.x) ++ leBytes 4 (unsignedOf 32 o.y))
      else s.onPlumb b fun c => { c with excMerged := min (c.excMerged + 1) 0xFFFF }

/-- An open event closes (R239): its duration is in windows, of 1 µs each where the tests were camera frames; its counter, the Rings histogram and, below the limit, its record. -/
def State.excEnd (s : State) (b : Fin 48) (kind : Nat) : State :=
  let x := (s.plumb b).exc.getD kind ⟨0, 0, noExc, none⟩
  match x.opened with
  | none => s
  | some o =>
    let s := s.onPlumb b fun c => { c with exc := updAt c.exc kind fun x => { x with opened := none, runIn := 0 } }
    let s := s.count (beamReg b (0x501C + 4 * kind))
    let dur := if o.frames then (o.last - o.start) / 1000 + 1 else o.windows - x.runOut
    let s := s.rings fun r => { r with excHist := updAt r.excHist b fun h => histAdd h (r.limits.getD 0 []) dur 1 }
    if (s.plumb b).excRecs < s.excLimit b then
      (s.onPlumb b fun c => { c with excRecs := c.excRecs + 1 }).note 0x0680 0 0 [0, b]
        (leBytes 1 (kind + 1) ++ leBytes 1 o.profile ++ leBytes 2 0 ++ leBytes 2 (eraOf o.start) ++ leBytes 2 0 ++ leBytes 4 (nsOf o.start)
          ++ leBytes 4 dur ++ leBytes 2 o.extreme ++ leBytes 2 0 ++ placeBytes o.place ++ leBytes 4 (unsignedOf 32 o.x) ++ leBytes 4 (unsignedOf 32 o.y))
    else s

/-- Every open event of a beam closes: a beam failure, layer end, or the mode leaving EXPOSE and PREHEAT (R239). -/
def State.excCloseAll (s : State) (b : Fin 48) : State := (List.range 4).foldl (fun st k => st.excEnd b k) s

/-- Every open event of the device closes. -/
def State.excCloseDevice (s : State) : State := beams.foldl (fun st b => st.excCloseAll b) s

/-- The EXC_SUMMARY of a beam that reached its limit of records (R239), at layer end. -/
def State.excSummary (s : State) (b : Fin 48) : State :=
  if s.excLimit b ≤ (s.plumb b).excRecs ∧ (s.plumb b).excRecs ≠ 0 then
    s.note 0x0681 0 0 [0, b] (leBytes 4 s.layerNo ++ (tabulate 4 fun k => leBytes 4 (s.reg (beamReg b (0x501C + 4 * k))).toNat).flatten)
  else s

/-! ## Feature windows (R223-R225) -/

/-- The last sample instant at or before a time: 800 ns before a control frame of the beam (R223). -/
def State.lastSample (s : State) (t : Nat) : Nat :=
  let o := s.power.beamStart
  if t + 800 < o then t else t - (t + 800 - o) % 1000

/-- The last sample of the beams' inputs at or before a time: one every 50 ns, on the grid of the windows (R219, R223). -/
def State.sampleInstant (s : State) (t : Nat) : Nat :=
  let o := s.power.beamStart
  if t < o then t else t - (t - o) % 50

/-- The gate interval that was open at a bed time. -/
def Kerf.gateAt (k : Kerf) (t : Nat) : Option GateIv := k.gates.find? fun g => decide (g.start ≤ t) && decide (t < g.stop)

/-- A lookup in the temperature table (R225). -/
def State.tempLookup (s : State) (b : Fin 48) (ratio : Nat) : Nat :=
  let t (j : Nat) : Int := (s.regF (beamReg b (0x3200 + 4 * (j / 2))) (16 * (j % 2)) 16 : Nat)
  let j := ratio / 256
  let frac := ratio % 256
  ((t j + ((t (j + 1) - t j) * frac) / 256) % 65536).toNat

/-- A step of a filter (R224): an arithmetic shift. -/
def filt (old new : Nat) (sh : Nat) : Nat := ((old : Int) + ((new : Int) - old) / (2 ^ sh : Nat)).toNat

/-- A dark mean over the last 1,024 dark windows, given the sum of each window's 20 codes, rounded towards zero (R220). DESIGN CHOICE (log entry 99): before 1,024
have come, the mean of those there are, 0 with none. -/
def darkMean (l : List Int) : Int := if l.isEmpty then 0 else Int.tdiv l.sum (20 * l.length : Nat)

/-- Profile writes that waited take effect at a record boundary; a changed active variable carries the trim over (R236). -/
def State.plumbBoundary (s : State) (b : Fin 48) : State :=
  let c := s.plumb b
  if c.pendProf.isEmpty then s
  else
    let changed := (c.pendProf.filter fun e =>
      let old := profOf (wordsBytes e.2) c.fallback
      let new := profOf (wordsBytes (s.profRegs b e.1)) c.fallback
      old.var != new.var).map (·.1)
    s.onPlumb b fun c => { c.carryTrim changed.contains with pendProf := [] }

/-- Whether a released record of the beam has started and not completed. -/
def State.inRecord (s : State) (b : Fin 48) : Bool := (s.kerf b).rels.any fun r => decide (r.start ≤ s.now)

/-- A write that waits for a boundary where no record is under way any more takes effect (R236): its record was cut, or had not started. -/
def State.plumbSettle (s : State) (b : Fin 48) : State := if s.inRecord b then s else s.plumbBoundary b

/-- A PWR frame's multiplier with that frame's g (R232, R233), its clamp flags and counts, and whether the profile in force runs with its feedback off (R222). A
frame is limited when its unrounded product lies beyond a limit; rounding alone is no limit (DEDUCED, log entry 85). -/
def State.formM (s : State) (b : Fin 48) (pi g : Nat) (noFF : Bool) : State :=
  let s := s.plumbSettle b
  let p := s.prof b pi
  let c := s.plumb b
  let g := if noFF then 16384 else g
  let off := decide (2 ≤ p.mode) && s.noInput b p.var
  let f := if p.mode < 2 then 16384 else if off then trim 0 (c.integ.getD pi 0) else c.f
  let s := s.onPlumb b fun c => { c with g := g, mff := toU14 (2 * mff29 p g), profile := pi, noFb := off, f := f, fOut := f }
  if s.bypass then s.onPlumb b fun c => { c with m := 16384, clampHi := false, clampLo := false }
  else
    let hi := s.ceilingFor b (s.now / tickNs * tickNs)
    let lo := min p.mMin hi
    let raw := mraw p g f
    let ch := decide ((hi : Int) * 2 ^ 29 < raw)
    let cl := decide (raw < (lo : Int) * 2 ^ 29)
    let s := s.onPlumb b fun c => { c with m := min (max (roundHalfAway raw (2 ^ 29)).toNat lo) hi, clampHi := ch, clampLo := cl }
    let s : State := if ch then s.count (beamReg b 0x5014) else s
    if cl then s.count (beamReg b 0x5018) else s

/-- Whether a profile's own variable is a camera feature. -/
def State.camProfile (s : State) (b : Fin 48) (p : Nat) : Bool := decide (3 ≤ byteAt (wordsBytes (s.profWords b p)) 1)

/-- A camera loss takes effect at the beam's next update (R242, R244); profile writes that wait for the same boundary are applied first. -/
def State.takeCameraLoss (s : State) (b : Fin 48) : State :=
  match (s.plumb b).cam.lossWaits with
  | none => s
  | some cause =>
    let s := s.plumbBoundary b
    let s := s.onPlumb b fun c => {
      c.carryTrim (s.camProfile b) with fallback := true, cam := { c.cam with lossWaits := none, lost := true, back := false } }
    let s := (s.onChan b fun ch => { ch with degs := if ch.degs.contains .cameraLost then ch.degs else .cameraLost :: ch.degs }).unitFault (.beam b) stDegraded 0x09
    s.raise 0x0601 1 0x09 [0, b] (leBytes 1 cause ++ leBytes 3 0 ++ leBytes 4 (s.regF (beamReg b 0x3114) 16 16))

/-- A window of 20 samples closes (R224, R233, R234, R238, R242). `gc` is the g of the next control frame. The flags are latched before the update that the window runs
(R237). A RATIO_FLOOR of 0 admits a division by an INT0 of 0, whose quotient is a free value (log entry 99). -/
def State.window (s : State) (b : Fin 48) (smp : List Sample) (gc : Nat) : State :=
  let s := s.plumbSettle b
  let last := s.lastSample s.now
  let k := s.kerf b
  let del := s.senseDelay b * cyc
  let n := smp.length
  let litAt := tabulate n fun i => k.gateAt (last - 50 * (n - 1 - i) - del)
  let lits := litAt.filterMap id
  let bed := last - del - 50 * (n - 1 - (((litAt.zipIdx.filter fun x => x.1.isSome).getLast?.map (·.2)).getD 0))
  let profs := (lits.map (·.profile)).dedup
  let cls := if lits.isEmpty then 0 else if lits.length = n ∧ profs.length ≤ 1 then 2 else 1
  let pi := profs.headD (s.plumb b).profile
  let codes0 := smp.map fun x => signed 14 x.ain0.toNat
  let codes1 := smp.map fun x => signed 14 x.ain1.toNat
  let isSat (c : Int) : Bool := c == -8192 || c == 8191
  let satN0 := (codes0.filter isSat).length
  let satN1 := (codes1.filter isSat).length
  let off := s.reg (beamReg b 0x3004)
  let sum0 := (codes0.map fun c => c - signed 16 (field off 0 16)).sum
  let sum1 := (codes1.map fun c => c - signed 16 (field off 16 16)).sum
  let int0 := (Int.tdiv (max 0 sum0) 5).toNat
  let int1 := (Int.tdiv (max 0 sum1) 5).toNat
  let sat := decide (0 < satN0 + satN1)
  let full := cls == 2
  let clean := full && !sat
  let tv := s.secMode b == 1 && clean && decide (s.regF (beamReg b 0x3008) 0 16 ≤ int0)
  let ratio := min 0xFFFF (if int0 = 0 then Config.ratioByZero int1 else int1 * 16384 / int0)
  let temp := s.tempLookup b ratio
  let sh := s.regF (beamReg b 0x5000) 24 3
  let s := s.count (beamReg b 0x301C) satN0
  let s := s.count (beamReg b 0x3020) satN1
  let s := s.onPlumb b fun c => { c with
    window := cls, sat0 := decide (0 < satN0), sat1 := decide (0 < satN1), tempValid := tv, int0 := int0, int1 := int1
    ratio := if tv then ratio else c.ratio, temp := if tv then temp else c.temp
    int0f := if clean then filt c.int0f int0 sh else c.int0f, int1f := if clean then filt c.int1f int1 sh else c.int1f
    tempf := if tv then filt c.tempf temp sh else c.tempf, windowNs := last
    dark0 := if cls = 0 then (codes0.sum :: c.dark0).take 1024 else c.dark0, dark1 := if cls = 0 then (codes1.sum :: c.dark1).take 1024 else c.dark1 }
  let switched := (s.plumb b).cam.lossWaits.isSome
  let s := s.takeCameraLoss b
  let p := s.prof b pi
  let s : State := if cls = 0 then s.onPlumb b fun c => { c with f := if p.mode < 2 then 16384 else trim 0 (c.integ.getD pi 0) } else s
  -- a profile that this window has switched takes its first photodiode update at the next one (R242)
  let update := clean && decide (p.var ≤ 2) && !(switched && s.camProfile b pi)
  let s : State := if update then s.limitTests b p pi last bed false else s
  let s : State := if cls = 0 then s
    else
      let lim := s.regF (beamReg b 0x3008) 16 16
      let br := s.secMode b == 2 && lim != 0 && decide (lim < int1)
      ((s.onPlumb b fun c => { c with backrefl := br }).excTest b 2 br int1 pi last bed).excTest b 3 sat (satN0 + satN1) pi last bed
  if update then s.control b pi 1 gc last else s

/-! ## The coaxial camera (R226-R229, R241-R243) -/

/-- The beams that a joist lane's coaxial camera serves: those whose CAM_CONFIG, as it is in force, names the lane and is enabled (R226). -/
def State.camBeams (s : State) (n : Nat) : List (Fin 48) := beams.filter fun b => (s.plumb b).cam.inUse && (s.plumb b).cam.lane == n

/-- ENABLE and LANE of CAM_CONFIG come into force (R243); a pair that is at half rate shows as one (R229). -/
def State.camForce (s : State) (b : Fin 48) : State :=
  let on := s.regB (beamReg b 0x3100) 0
  let n := s.regF (beamReg b 0x3100) 1 4
  s.onPlumb b fun c => { c with cam := { c.cam with inUse := on, lane := n, halfRate := on && (s.joist (Fin.ofNat 16 n)).half } }

/-- CAM_CONFIG is written: a camera that is disabled, or whose lane changes, while a layer is RUNNING, PAUSED or HELD stays in force until the next layer
start (R243). -/
def State.camConfig (s : State) (b : Fin 48) (w : Word) : State :=
  let c := (s.plumb b).cam
  let s := s.setReg (beamReg b 0x3100) w
  let live := s.layers.active == .running || s.layers.active == .paused || s.layers.active == .held
  if live && c.inUse && (flag w 0 == false || field w 1 4 != c.lane) then s else s.camForce b

/-- Whether a profile of the beam uses a camera variable (R241). -/
def State.usesCamera (s : State) (b : Fin 48) : Bool :=
  (List.range 8).any fun p => let bs := wordsBytes (s.profWords b p); decide (2 ≤ byteAt bs 0) && decide (3 ≤ byteAt bs 1)

/-- Whether a camera variable is in use (R253, R255). -/
def State.cameraInUse (s : State) (b : Fin 48) : Bool := (s.plumb b).cam.inUse && s.usesCamera b && !(s.plumb b).fallback

/-- A camera loss found (R241): it takes effect at the beam's next update. Causes: 1 lane, 2 head absent, 3 timeout, 4 bad frames (R248). -/
def State.cameraLost (s : State) (b : Fin 48) (cause : Nat) : State :=
  let c := s.plumb b
  if (s.mode.mode = .expose ∨ s.mode.mode = .preheat) ∧ s.usesCamera b ∧ c.fallback = false ∧ c.cam.lossWaits = none then
    s.onPlumb b fun c => { c with cam := { c.cam with lost := true, lossWaits := some cause, validRun := 0, back := false } }
  else s

/-- The measured frame period over the last 64 frames, in ns (R241, R253). -/
def Cam.period (c : Cam) : Nat :=
  match c.stamps.head?, c.stamps.getLast? with
  | some a, some z => if c.stamps.length ≤ 1 then 0 else (a - z) / (c.stamps.length - 1)
  | _, _ => 0

/-- HALF_RATE of the beams that a lane's camera serves (R229). -/
def State.camHalf (s : State) (n : Nat) (on : Bool) : State := (s.camBeams n).foldl (fun st b => st.onPlumb b fun c => { c with cam := { c.cam with halfRate := on } }) s

/-- One lane of a bonded camera pair is lost (R229, R248): the camera goes on at half rate, and CAMERA_HALF_RATE is sent for each beam that it serves. -/
def State.cameraHalf (s : State) (n : Nat) : State :=
  let s := s.camHalf n true
  (s.camBeams n).foldl (fun (st : State) (b : Fin 48) => st.raise 0x0602 1 0 [0, b.val] (leBytes 1 n ++ leBytes 3 0 ++ leBytes 4 (st.plumb b).cam.period)) s

/-- Every beam whose camera is on a lane loses it. -/
def State.laneCameraLost (s : State) (n : Nat) (cause : Nat) : State := (s.camBeams n).foldl (fun st b => st.cameraLost b cause) s

/-- When a camera's frames came, with the one that comes now. -/
def Cam.stamped (c : Cam) (t : Nat) : List Nat := (t :: c.stamps).take 65

/-- A frame that Plumb does not use (R226) counts in CAM_BAD; more than 8 of 64 lose the camera (R241). -/
def State.camBad (s : State) (b : Fin 48) : State :=
  let s := (s.onPlumb b fun c => { c with cam := { c.cam with
    recent := ((false, true) :: c.cam.recent).take 64, stamps := c.cam.stamped s.now, lastValid := false, validRun := 0 } }).count (beamReg b 0x311C)
  if 8 < ((s.plumb b).cam.recent.filter (·.2)).length then s.cameraLost b 4 else s

/-- The beam's path direction at a bed time as Kerf planned it (R227): that of the tick's motion, a wobble's figure included; where the target stands still, that of
the motion before it. -/
def Kerf.pathDir (k : Kerf) (t : Nat) : Int × Int :=
  let n := ceilDiv t tickNs
  let step (g : Seg) : Int × Int :=
    if g.wob = 0 then (g.q.x - g.p.x, g.q.y - g.p.y)
    else let i := min n g.last; let a := g.at (i - 1); let z := g.at i; (z.x - a.x, z.y - a.y)
  (((k.allSegs.filter fun g => decide (g.t0 < n)).map step).filter fun d => d != (0, 0)).getLastD (0, 0)

/-- The profile of the records in whose open gate all of [a, z] lies, if there is one (R228). -/
def litThrough : List GateIv → Nat → Nat → Option Nat → Option Nat
  | [], _, _, _ => none
  | g :: gs, a, z, p =>
    if a < g.start then none
    else if g.stop ≤ a then litThrough gs a z p
    else if p.getD g.profile ≠ g.profile then none
    else if z ≤ g.stop then some g.profile
    else litThrough gs g.stop z (some g.profile)

/-- A coaxial frame (R226-R228): `pix` gives its pixel rows, `es` and `ee` the exposure's start and end, zero when it carries none; `bad`
when its lane CRC failed. A loss that waits takes effect at a frame that would be an update, in its place (R242). DESIGN CHOICE (log entry 99): the length is rounded
to the nearest 1/256 pixel, and a profile's first update has a dt of 255. -/
def State.coaxFrame (s : State) (b : Fin 48) (w h bits es ee : Nat) (pix : List (List Nat)) (bad : Bool) (gc : Nat) : State :=
  let unusable := bad || decide (128 < w) || decide (128 < h) || decide (12 < bits) || es == 0 || ee == 0 || decide (ee < es)
  if unusable then s.camBad b
  else
    let s := s.plumbSettle b
    let k := s.kerf b
    let del := s.senseDelay b * cyc
    let mid := (es + ee) / 2 - del
    let dir := k.pathDir mid
    let l := isqrt ((dir.1 * dir.1 + dir.2 * dir.2).toNat * 2 ^ 64)
    let unit (v : Int) : Int := if l = 0 then 0 else v * 2 ^ 32 * one60 / l
    let rot := s.regF (beamReg b 0x3108) 0 16
    let cr := cosTurn rot 36000
    let sr := sinTurn rot 36000
    let ux := mul60 (unit dir.1) cr + mul60 (unit dir.2) sr
    let uy := mul60 (unit dir.2) cr - mul60 (unit dir.1) sr
    let thr := s.regF (beamReg b 0x3100) 16 16
    let cx := s.regF (beamReg b 0x3104) 0 16
    let cy := s.regF (beamReg b 0x3104) 16 16
    let pool := (pix.zipIdx.flatMap fun row => (row.1.zipIdx.filter fun v => decide (thr ≤ v.1)).map fun v => (v.2, row.2))
    let area := pool.length
    let lit := if es < del then none else litThrough k.gates (es - del) (ee - del) none
    let valid := area != 0 && lit.isSome
    let proj := pool.map fun q => ((q.1 : Int) * 256 - cx) * ux + ((q.2 : Int) * 256 - cy) * uy
    let len := match proj.max?, proj.min? with
      | some a, some z => (round60 (a - z)).toNat + 256
      | _, _ => 0
    let mean (f : Nat × Nat → Nat) (c : Nat) : Int := roundHalfAway (256 * ((pool.map f).sum : Nat)) (max area 1) - c
    let pi := lit.getD (s.plumb b).profile
    let s := s.onPlumb b fun c => { c with cam := { c.cam with
      recent := ((valid, false) :: c.cam.recent).take 64, stamps := c.cam.stamped s.now, lastValid := valid, validRun := if valid then c.cam.validRun + 1 else 0
      lastGood := if valid then some s.now else c.cam.lastGood, back := c.cam.back || (valid && decide (64 ≤ c.cam.validRun + 1))
      area := min area 0xFFFF, noPool := area == 0
      centX := if area = 0 then c.cam.centX else mean (·.1) cx, centY := if area = 0 then c.cam.centY else mean (·.2) cy
      length := if area = 0 then c.cam.length else min len 0xFFFF } }
    if valid = false then s
    else
      let s := s.count16 (beamReg b 0x3114) 16
      let p := s.prof b pi
      if p.var < 3 then s
      else if (s.plumb b).cam.lossWaits.isSome then s.takeCameraLoss b
      else
        let dt := match (s.plumb b).lastUpd.find? fun e => e.1 == pi with
          | some e => min 255 ((s.now - e.2) / 1000)
          | none => 255
        (s.limitTests b p pi ee (ee - del) true).control b pi dt gc ee

/-! ## Layer start, record boundaries and failures -/

/-- The camera path returns at a layer start when 64 valid frames in a row have come since the loss (R243). -/
def Plumb.returns (c : Plumb) : Bool := c.fallback && c.cam.back

/-- What a layer start does to a beam's controller (R224, R235, R243, R256). The integrators go to 0 where EXPOSE is entered from any mode but PAUSE; those of a beam
that is still failed no longer change. DESIGN CHOICE (log entry 100): the freeze that a beam failure starts ends at the first layer start after its acknowledgement. -/
def State.plumbLayer (s : State) (b : Fin 48) : State :=
  let back := (s.plumb b).returns
  let stays := (s.plumb b).frozen && ((s.kerf b).failed || s.unitState (.beam b) == stFault)
  let s := (s.camForce b).onPlumb b fun c => { c with
    int0f := 0, int1f := 0, tempf := 0, excRecs := 0, frozen := stays
    fallback := if back then false else c.fallback, cam := if back then { c.cam with lost := false } else c.cam
    integ := if s.regB (beamReg b 0x5000) 0 && !stays && s.mode.prev != .pause then List.replicate 8 0 else c.integ }
  let s := s.setF (beamReg b 0x3114) 16 16 0
  let s := [0x5014, 0x5018, 0x501C, 0x5020, 0x5024, 0x5028, 0x502C].foldl (fun st o => st.setReg (beamReg b o) 0) s
  if back then (s.onChan b fun ch => { ch with degs := ch.degs.filter (· ≠ .cameraLost) }).settle (.beam b) else s

/-- A profile register is written (R236): while a record of its beam is under way, the old words stay in force to the next boundary; without, the boundary is now. -/
def State.plumbProfileWrite (s : State) (b : Fin 48) (p off : Nat) (w : Word) : State :=
  let c := s.plumb b
  let s := if c.pendProf.any (fun e => e.1 == p) then s else s.onPlumb b fun c => { c with pendProf := (p, s.profRegs b p) :: c.pendProf }
  let s := s.setReg (beamReg b off) w
  s.plumbSettle b

/-- An update taken in the present BEAM cycle is discarded (R244). -/
def State.undoUpdate (s : State) (b : Fin 48) : State :=
  match (s.plumb b).undo with
  | none => s
  | some u => if u.time / cyc ≠ s.now / cyc then s
    else (s.onPlumb b fun c => { c with integ := u.integ, f := u.f, trace := u.trace, lastUpd := u.lastUpd, undo := none }).setReg (beamReg b 0x502C) u.updates

/-- A beam failure freezes the controller, wins over an update of its own cycle and closes the events (R235, R239, R244); a write that waited for the boundary of
the record that it cuts takes effect (R236). -/
def State.plumbFail (s : State) (b : Fin 48) : State := (((s.excCloseAll b).undoUpdate b).onPlumb b fun c => { c with frozen := true }).plumbSettle b

/-- A gate opening of a record (R231, R235, R245): an integrator reset that its profile asks for, and an armed trace that starts. -/
def State.plumbGateOpen (s : State) (b : Fin 48) (pi : Nat) : State :=
  let s := s.plumbSettle b
  let p := s.prof b pi
  let s : State := if p.resetGate && !(s.plumb b).frozen then s.onPlumb b fun c => { c with integ := updAt c.integ pi fun _ => 0 } else s
  if s.regB (beamReg b 0x5030) 0 && s.regF (beamReg b 0x5030) 1 3 == pi then s.onPlumb b fun c => { c with tracing := true } else s

/-- The tuning trace is armed (R245): the old trace is discarded. -/
def State.traceArm (s : State) (b : Fin 48) (profile : Nat) : State :=
  (s.setReg (beamReg b 0x5030) (BitVec.ofNat 32 (1 + 2 * (profile % 8)))).onPlumb b fun c => { c with trace := [], tracing := false }

/-- The trace is full (R245): DONE is set, ARM is cleared and TRACE_DONE is sent. -/
def State.traceFinish (s : State) (b : Fin 48) : State :=
  if (s.plumb b).trace.length < 128 ∨ s.regB (beamReg b 0x5030) 0 = false then s
  else
    let pr := s.regF (beamReg b 0x5030) 1 3
    let s := (s.setReg (beamReg b 0x5030) (BitVec.ofNat 32 (2 * pr + 16))).onPlumb b fun c => { c with tracing := false }
    s.raise 0x0603 0 0 [0, b] (leBytes 1 pr ++ leBytes 1 0 ++ leBytes 2 128)

end Sys2Proof.Machine
end

