-- ==== Sys2Proof/Machine/Grain.lean ====
section
/-! DEFINITION. The Grain map (08_grain_map.md): cells, planes and tiles, deposition and merging, decay and the roll, lookahead queries,
the tile caches and the feed-forward scale. -/

namespace Sys2Proof.Machine

open Sys2Proof

/-! ## Addresses (R257, R258, R260) -/

def grConfig : Nat := 0x04800000
def grLate : Nat := 0x04800040
def grOutside : Nat := 0x04800044
def grSat : Nat := 0x04800048
def grInvalidQ : Nat := 0x0480004C
def grRoles : Nat := 0x04800034

/-- The base address of plane slot `k` (R258). -/
def slotBase (k : Nat) : Nat := 0x200000000 + k * 0x20000000

/-- The slot that holds role `k` (R278). -/
def State.slotOf (s : State) (k : Nat) : Nat := s.regF grRoles (2 * k) 2

/-- The tile of a cell, the cell's place in it, and the address of a tile and of its directory entry (R258). -/
def tileOf (cx cy : Nat) : Nat := cy / 32 * 500 + cx / 32
def cellIn (cx cy : Nat) : Nat := cy % 32 * 32 + cx % 32
def tileAddr (slot tile : Nat) : Nat := slotBase slot + tile * 2048
def dirAddr (slot tile : Nat) : Nat := slotBase slot + 0x1E848000 + tile * 8

/-- The window's size in cells (R277). -/
def State.sizeX (s : State) : Nat := s.regF 0x04800024 0 14
def State.sizeY (s : State) : Nat := s.regF 0x04800024 16 14

/-- The cell of a bed position, which may lie outside the window (R257). -/
def State.cellOf (s : State) (x y : Int) : Int × Int :=
  ((x - s32 (s.reg 0x0480001C)) / 12500, (y - s32 (s.reg 0x04800020)) / 12500)

/-- Whether a cell lies in the window. -/
def State.inWindow (s : State) (c : Int × Int) : Bool :=
  decide (0 ≤ c.1) && decide (c.1 < s.sizeX) && decide (0 ≤ c.2) && decide (c.2 < s.sizeY)

/-! ## Cells and directory entries (R259, R260) -/

/-- A compressed cell's value. -/
def unpackCell (raw : Nat) : Nat := let e := raw / 4096; let m := raw % 4096; if e = 0 then m else (m + 4096) * 2 ^ (e - 1)

/-- The compressed code of a value in units of 2^-60, to the nearest, ties up: exponents from `e` on, `fuel` of them. -/
def packCell : Nat → Nat → Nat → Nat
  | 0, _, _ => 0xFFFF
  | fuel + 1, e, v =>
    let unit := 2 ^ (60 + (e - 1))
    let q := (2 * v + unit) / (2 * unit)
    if e = 0 then (if q < 4096 then q else packCell fuel 1 v)
    else if q < 8192 then e * 4096 + (q - 4096) else packCell fuel (e + 1) v

/-- The code of a value in units of 2^-60. -/
def encodeCell (v : Nat) : Nat := packCell 16 0 v

/-- A directory entry: its time, its flags and the layer tag. -/
structure DirEnt where
  tRef     : Nat
  occupied : Bool
  invalid  : Bool
  tag      : Nat
deriving DecidableEq, Repr

/-- The latest device time, not after `now`, with these low 16 era bits and this ns count. -/
def fullTime (now eraLo ns : Nat) : Nat :=
  let e := eraOf now
  let c := e / 65536 * 65536 + eraLo
  let t := c * eraLen + ns
  if now < t ∧ 65536 ≤ c then t - 65536 * eraLen else t

/-- A directory entry of 8 bytes. -/
def dirOf (now : Nat) (bs : List Byte) : DirEnt :=
  let fl := leAt bs 6 2
  { tRef := fullTime now (leAt bs 4 2) (leAt bs 0 4), occupied := decide (fl % 2 = 1), invalid := decide (fl / 2 % 2 = 1), tag := fl / 4 }

/-- The bytes of a directory entry. -/
def DirEnt.bytes (d : DirEnt) : List Byte :=
  leBytes 4 (nsOf d.tRef) ++ leBytes 2 (eraOf d.tRef) ++ leBytes 2 (bit d.occupied + 2 * bit d.invalid + 4 * (d.tag % 16384))

/-- A tile's directory entry in a slot, and its replacement. -/
def State.dir (s : State) (slot tile : Nat) : DirEnt := dirOf s.now (s.readMem (dirAddr slot tile) 8)
def State.setDir (s : State) (slot tile : Nat) (d : DirEnt) : State := s.writeMem (dirAddr slot tile) d.bytes

/-- The bytes of memory in a range, by offset. -/
def sliceMem (m : List Host.Cell) (a n : Nat) : List Host.Cell :=
  (m.filter fun c => decide (a ≤ c.1) && decide (c.1 < a + n)).map fun c => (c.1 - a, c.2)

/-- The nonzero cells of a tile: their places and codes. -/
def cellsOf (bs : List Host.Cell) : List (Nat × Nat) :=
  let idx := (bs.map fun c => c.1 / 2).dedup
  idx.map fun i => (i, (getKey (2 * i) memDefault bs).toNat + 256 * (getKey (2 * i + 1) memDefault bs).toNat)

/-- A whole tile written: its memory is cleared, which also makes its ECC words good (R527), and the cells given are stored. -/
def State.writeTile (s : State) (slot tile : Nat) (cells : List (Nat × Nat)) : State :=
  let a := tileAddr slot tile
  let s := { s with mem := Memory.erase s.mem a 2048, ue := s.ue.filter fun w => !(decide (a ≤ w) && decide (w < a + 2048)) }
  cells.foldl (fun st c => st.writeMem (a + 2 * c.1) (leBytes 2 c.2)) s

/-! ## Decay (R264) -/

/-- The half-lives in ns: P0's, and that of the planes below. -/
def State.halfLife (s : State) : Nat := (s.reg 0x04800004).toNat * 1000
def State.deepHalf (s : State) : Nat := (s.reg 0x04800008).toNat * 1000000

/-- The decay factor d over an interval, in units of 2^-60. -/
def decay (dt h : Nat) : Nat := (pow2Neg dt h).toNat

/-- The half-life of a role. -/
def State.roleHalf (s : State) (k : Nat) : Nat := if k = 0 then s.halfLife else s.deepHalf

/-- A cell's value in a role's code. -/
def roleValue (k raw : Nat) : Nat := if k = 0 then raw else unpackCell raw

/-- The Grain engine changed. -/
def State.onGrain (s : State) (f : Grain → Grain) : State := { s with grain := f s.grain }

/-! ## DRAM traffic (R270). Which bytes count is the model's choice (log entry 101): a whole column or plane fetched, a merged cell read and written, and a tile column
rolled. -/

/-- The bytes of a prefetch, of a P0 refresh, of a merge and of one rolled tile column. -/
def fetchBytes : Nat := 8224
def refreshBytes : Nat := 2056
def mergeBytes : Nat := 4
def rollBytes : Nat := 10272

/-- The most that the map moves in 10 ms at 20 GB/s. -/
def trafficLimit : Nat := 200000000

/-- The bytes moved in the last 10 ms: all of them, or those that do not yield to a prefetch (the roll pass does). -/
def State.trafficIn (s : State) (pass : Bool) : Nat :=
  ((s.grain.traffic.filter fun e => decide (s.now < e.1 + 10 * milli) && (pass || !e.2.2)).map fun e => e.2.1).sum

/-- GR_TRAFFIC in MB/s (R279); a pass that would exceed the limit is deferred. -/
def State.trafficNow (s : State) : Nat := min 20000 (s.trafficIn true / 10000)

/-- Bytes are moved; GR_TRAFFIC_MAX follows. -/
def State.moveBytes (s : State) (n : Nat) (pass : Bool := false) : State :=
  let s := s.onGrain fun g => { g with traffic := (s.now, n, pass) :: g.traffic.filter fun e => decide (s.now < e.1 + 10 * milli) }
  s.setReg 0x04800058 (BitVec.ofNat 32 (max (s.reg 0x04800058).toNat s.trafficNow))

/-! ## Deposition (R261, R263) -/

/-- Whether the map takes deposits and makes predictions (R276). -/
def State.grainOn (s : State) : Bool := s.regB grConfig 0

/-- E_LSB in nJ (R277). -/
def State.eLsb (s : State) : Nat := max 1 (s.regF 0x04800018 0 16)

/-- The power word in force at a bed time (R129): of the frames sent, the last one that starts at or before it less the lag. -/
def Chan.wordAt (c : Chan) (t : Nat) : Nat :=
  match c.words.find? fun w => decide (w.1 + c.pwrLag * cyc ≤ t) with
  | some w => w.2
  | none => 0

/-- The time for which an interval is open within a tick. -/
def GateIv.openIn (g : GateIv) (t : Nat) : Nat := min g.stop (t + 250) - max g.start t

/-- The modes in which energy is deposited (R261). -/
def Mode.deposits : Mode → Bool
  | .preheat | .expose => true
  | _ => false

/-- A beam's energy of bed tick `n` is deposited (R261, R189): over each interval of its records in which the gate was open, with exact carry. The tick in which the
mode leaves PREHEAT or EXPOSE still counts with its executed part. -/
def State.deposit (s : State) (b : Fin 48) (n : Nat) : State :=
  let t := n * tickNs
  let k := s.kerf b
  let pf := s.regF (0x04800100 + 4 * b.val) 0 16
  let word := (s.chan b).wordAt t
  let num := (((k.gates.filter fun g => g.place != .scan).map fun g => g.openIn t * (s.pset b g.pset).absorb).sum) * word * pf
  if num = 0 ∨ s.grainOn = false ∨ (s.mode.mode.deposits || s.mode.prev.deposits) = false then s
  else
    let p := k.target n
    let c := s.cellOf p.x p.y
    if s.inWindow c = false then s.count grOutside
    else
      let den := 65536 * 10 * 65536 * s.eLsb
      let v := num + getKey b.val 0 s.grain.carry
      let d : Deposit := { beam := some b, cx := c.1.toNat, cy := c.2.toNat, units := v / den, time := t, key := none }
      s.onGrain fun g => { g with
        carry := putKey b.val (v % den) 0 g.carry
        deposits := if v / den = 0 then g.deposits else g.deposits ++ [d] }

/-- The imported piece of a remote beam deposits its energy, spread over the ticks of its interval (R263, log entry 12). -/
def State.depositImport (s : State) (device beam round : Nat) (q : Piece) : State :=
  if s.grainOn = false ∨ s.regB grConfig 1 = false then s
  else
    let line := s.regF 0x04800028 0 16
    let len := isqrt ((q.qx - q.px) * (q.qx - q.px) + (q.qy - q.py) * (q.qy - q.py)).toNat
    -- nJ of the whole piece: uJ per mm over 100,000 bed units per mm, or per 10 us when it stands still
    let total := if len = 0 then line * 1000 * (q.t1 - q.t0) / 10000 else line * 1000 * len / 100000
    let n0 := q.t0 / tickNs
    let n := max 1 (ceilDiv q.t1 tickNs - n0)
    (List.range n).foldl (fun st i =>
      let u := total * (i + 1) / (n * st.eLsb) - total * i / (n * st.eLsb)
      let p := motionAt ⟨q.px, q.py, 0⟩ ⟨q.qx, q.qy, 0⟩ i n
      let c := st.cellOf p.x p.y
      if u = 0 then st
      else if st.inWindow c = false then st.count grOutside
      else st.onGrain fun g => { g with deposits := g.deposits ++
        [{ beam := none, cx := c.1.toNat, cy := c.2.toNat, units := u, time := (n0 + i) * tickNs, key := some (device, beam, round) }] }) s

/-- The deposits of a withdrawn piece that are not merged yet are removed (R263). -/
def State.undeposit (s : State) (device beam round : Nat) : State :=
  s.onGrain fun g => { g with deposits := g.deposits.filter fun d => d.key != some (device, beam, round) }

/-- One deposit is merged into P0 (R262). -/
def State.mergeOne (s : State) (cx cy units time : Nat) : State :=
  let slot := s.slotOf 0
  let tile := tileOf cx cy
  let d := s.dir slot tile
  let renorm := s.regF 0x04800018 16 16 * 1000
  let h := s.halfLife
  let s : State :=
    if d.occupied = false ∨ d.invalid = true then
      (s.writeTile slot tile []).setDir slot tile { d with tRef := time, occupied := true, invalid := false }
    else if renorm ≤ time - d.tRef then
      let f := decay (time - d.tRef) h
      let cells := (cellsOf (sliceMem s.mem (tileAddr slot tile) 2048)).map fun c => (c.1, (2 * c.2 * f + 2 ^ 60) / 2 ^ 61)
      (s.writeTile slot tile cells).setDir slot tile { d with tRef := time }
    else s
  let t0 := (s.dir slot tile).tRef
  let grow := if t0 ≤ time then (pow2 (time - t0) h).toNat else decay (t0 - time) h
  let a := tileAddr slot tile + 2 * cellIn cx cy
  let new : Nat := leNat (s.readMem a 2) + (2 * units * grow + 2 ^ 60) / 2 ^ 61
  let s : State := if 0xFFFF < new then s.count grSat else s
  let s := (s.writeMem a (leBytes 2 (min new 0xFFFF))).moveBytes mergeBytes
  s.onGrain fun g => { g with columns := g.columns.map fun l => l.map fun c => if c.tile = tile then { c with stale := true } else c }

/-- Deposits of one cell at one time are added together. -/
def mergeSame : List Deposit → List (Nat × Nat × Nat × Nat)
  | [] => []
  | d :: ds =>
    match mergeSame ds with
    | (t, x, y, u) :: r => if t = d.time ∧ x = d.cx ∧ y = d.cy then (t, x, y, u + d.units) :: r else (d.time, d.cx, d.cy, d.units) :: (t, x, y, u) :: r
    | [] => [(d.time, d.cx, d.cy, d.units)]

/-- Every deposit whose time has come is merged, in bed-time order (R262). -/
def State.mergeDeposits (s : State) : State :=
  let ready := s.grain.deposits.filter fun d => decide (d.time ≤ s.now)
  let order := sortBy (fun (d : Deposit) => (d.time * 16384 + d.cy) * 16384 + d.cx) ready
  let s := s.onGrain fun g => { g with deposits := g.deposits.filter fun d => decide (s.now < d.time) }
  (mergeSame order).foldl (fun st d => st.mergeOne d.2.1 d.2.2.1 d.2.2.2 d.1) s

/-! ## The roll (R265) -/

/-- The tiles that a slot's directory names OCCUPIED or INVALID. -/
def State.dirTiles (s : State) (slot : Nat) : List Nat :=
  let base := dirAddr slot 0
  ((sliceMem s.mem base (250000 * 8)).filter fun c => c.1 % 8 == 6 && c.2.toNat % 4 != 0).map fun c => c.1 / 8

/-- One tile column rolled at `t` for layer `layer` (R265): `a`, `b`, `c`, `q` are the slots of P0-P3 before the roll. -/
def State.rollTile (s : State) (a b c q t layer tile : Nat) : State :=
  let da := s.dir a tile
  let dc := s.dir c tile
  let dq := s.dir q tile
  let h := s.halfLife
  let dh := s.deepHalf
  let ca := cellsOf (sliceMem s.mem (tileAddr a tile) 2048)
  let cc := if dc.occupied && !dc.invalid then cellsOf (sliceMem s.mem (tileAddr c tile) 2048) else []
  let cq := if dq.occupied && !dq.invalid then cellsOf (sliceMem s.mem (tileAddr q tile) 2048) else []
  let fa := decay (t - da.tRef) h
  let fc := decay (t - dc.tRef) dh
  let fq := decay (t - dq.tRef) dh
  let s : State := if da.occupied && !da.invalid then
      (s.writeTile a tile (ca.map fun e => (e.1, encodeCell (e.2 * fa)))).setDir a tile { da with tRef := t, tag := layer }
    else s.setDir a tile { da with tag := layer }
  let s := s.setDir b tile { s.dir b tile with tag := layer }
  let s : State := if dc.occupied || dc.invalid || dq.occupied then
      let places := ((cc ++ cq).map (·.1)).dedup
      let val (i : Nat) : Nat := unpackCell (getKey i 0 cc) * fc + unpackCell (getKey i 0 cq) * fq
      (s.writeTile c tile (places.map fun i => (i, encodeCell (val i)))).setDir c tile { tRef := t, occupied := true, invalid := false, tag := layer }
    else s.setDir c tile { dc with tag := layer }
  s.setDir q tile { dq with occupied := false, invalid := false, tag := layer }

/-- The roll (R265): roles switch and every tile column is rolled (log entry 13); cached copies are stale from here on (R269). -/
def State.grainRoll (s : State) : State :=
  let a := s.slotOf 0
  let b := s.slotOf 1
  let c := s.slotOf 2
  let q := s.slotOf 3
  let layer := s.grain.rollLayer
  let t := s.now
  let tiles := ([a, b, c, q].flatMap s.dirTiles).dedup
  let s := (tiles.foldl (fun st i => st.rollTile a b c q t layer i) s).moveBytes (rollBytes * tiles.length) true
  let s := s.setReg grRoles (BitVec.ofNat 32 (q + 4 * a + 16 * b + 64 * c))
  s.onGrain fun g => { g with pendRoll := false, rolling := true, tRoll := t, columns := List.replicate 48 [] }

/-- The roll may start: the layer is COMPLETE or ABANDONED and its deposits are merged. -/
def State.rollReady (s : State) : Bool :=
  s.grain.pendRoll && !s.grain.rolling && s.grain.deposits.all fun d => decide (s.now < d.time)

/-- The pass ends (R265). -/
def State.rollEnd (s : State) : State :=
  (s.setReg 0x0480003C (BitVec.ofNat 32 ((s.now - s.grain.tRoll) / milli))).onGrain fun g => { g with rolling := false }

/-! ## Tile caches and queries (R266-R269) -/

/-- The copy of a tile column that memory holds now. -/
def State.fetchColumn (s : State) (tile : Nat) : Column :=
  { tile := tile, taken := s.now, queried := s.now, stale := false
    planes := tabulate 4 fun k => sliceMem s.mem (tileAddr (s.slotOf k) tile) 2048
      ++ (sliceMem s.mem (dirAddr (s.slotOf k) tile) 8).map fun c => (c.1 + 2048, c.2) }

/-- A beam's cached columns. -/
def State.columnsOf (s : State) (b : Fin 48) : List Column := s.grain.columns.getD b.val []
def State.queriesOf (s : State) (b : Fin 48) : List Query := s.grain.queries.getD b.val []

/-- The records in a beam's FIFO as they follow one another without further holds, from the frontier or the earliest start past the commit point
on, as far as `until` (R167). -/
def State.expand : Nat → State → Fin 48 → Nat → List Rel
  | 0, _, _, _ => []
  | fuel + 1, s, b, until_ =>
    if until_ ≤ (s.kerf b).frontier then []
    else match s.planNext b (s.candStart b s.commitPoint) 0 with
      | none => []
      | some r => r :: State.expand fuel (s.releaseRel b r) b until_

/-- A beam's expanded path (R167, R266): the released records and those of its FIFO, to 200 µs beyond the commit point. -/
def State.lookRels (s : State) (b : Fin 48) : List Rel :=
  let k := s.kerf b
  k.rels ++ (if k.engine.runs then State.expand (s.fetched b) s b (s.commitPoint + 200 * micro) else [])

/-- What a bed tick is to a beam's queries: an offset in a record's plan, or a held tick. -/
def tickKey (rels : List Rel) (n : Nat) : Option Place × Nat :=
  match rels.find? fun r => decide (r.start ≤ n * tickNs) && decide (n * tickNs < r.complete) with
  | some r => (some r.place, n - r.start / tickNs)
  | none => (none, n)

/-- The result of a beam's query for a bed tick. -/
def State.queryFor (s : State) (b : Fin 48) (n : Nat) : Option Query :=
  let key := tickKey (s.lookRels b) n
  (s.queriesOf b).find? fun q => q.place == key.1 && q.off == key.2

/-- The first bed tick of a beam's path from `n` on that no query has served; at most `fuel` ticks are looked at. -/
def State.nextUnqueried (s : State) (b : Fin 48) : Nat → Nat → Option Nat
  | 0, _ => none
  | fuel + 1, n => if (s.queryFor b n).isNone then some n else s.nextUnqueried b fuel (n + 1)

/-- The tick that a beam's next query serves: beyond the committed ticks, up to the end of its path, else the next held tick. -/
def State.queryTick (s : State) (b : Fin 48) : Option Nat :=
  let n0 := s.commitPoint / tickNs + 1
  let stop := ((s.lookRels b).map (·.complete)).foldl max ((n0 + 1) * tickNs)
  s.nextUnqueried b (ceilDiv stop tickNs - n0) n0

/-- The target of a bed tick on the path that queries look along. -/
def State.lookTarget (s : State) (b : Fin 48) (n : Nat) : Pt :=
  let k := s.kerf b
  Kerf.target { k with rels := s.lookRels b } n

/-- The tiles within one cell of a beam's expanded path beyond its committed target, in path order (R269). -/
def State.pathTiles (s : State) (b : Fin 48) : List Nat :=
  let rels := s.lookRels b
  let k := { s.kerf b with rels := rels }
  let n0 := s.commitPoint / tickNs
  let stop := ceilDiv ((rels.map (·.complete)).foldl max ((n0 + 1) * tickNs)) tickNs
  ((tabulate (stop - n0 + 1) fun i => k.target (n0 + i)).flatMap fun p =>
    let c := s.cellOf p.x p.y
    ((([-1, 0, 1] : List Int).flatMap fun i => ([-1, 0, 1] : List Int).map fun j => (c.1 + i, c.2 + j)).filter s.inWindow).map fun e =>
      tileOf e.1.toNat e.2.toNat).dedup

/-- The column that a beam's prefetch comes to next, in path order (R269). -/
def State.nextFetch (s : State) (b : Fin 48) : Option Nat := (s.pathTiles b).find? fun t => !(s.columnsOf b).any fun c => c.tile == t

/-- Whether the traffic limit leaves a prefetch of a beam its turn (R270): the beams whose earliest unqueried tick is nearer go first. -/
def State.fetchTurn (s : State) (b : Fin 48) : Bool :=
  let used := s.trafficIn false
  decide (used + 48 * fetchBytes ≤ trafficLimit) ||
    (let me := s.queryTick b
     let before := (beams.filter fun x => x != b && (s.kerf x).engine.runs && (s.nextFetch x).isSome && (match s.queryTick x, me with
      | some n, some m => decide (n < m)
      | some _, none => true
      | none, _ => false)).length
     decide (used + (before + 1) * fetchBytes ≤ trafficLimit))

/-- The columns that stay when another one enters a beam's cache; none where there is no room. -/
def State.keptColumns (s : State) (b : Fin 48) : Option (List Column) :=
  let path := s.pathTiles b
  let cols := s.columnsOf b
  let worst := (sortBy (fun (c : Column) => c.queried) (cols.filter fun c => !path.contains c.tile)).head?
  if cols.length < 32 then some cols else worst.map fun w => cols.filter fun c => c.tile != w.tile

/-- A column of the path arrives in a beam's cache (R269), in path order and within the traffic limit (R270): the cache holds 32 columns, and one of them leaves only when it
lies behind the beam's committed target, the least recently queried of these; with none of these it stays as it is. -/
def State.prefetch (s : State) (b : Fin 48) (tile : Nat) : State :=
  match s.keptColumns b with
  | some l => if s.nextFetch b = some tile ∧ s.fetchTurn b = true then
      (s.onGrain fun g => { g with columns := updAt g.columns b.val fun _ => l ++ [s.fetchColumn tile] }).moveBytes fetchBytes
    else s
  | none => s

/-- A cached column whose P0 copy a merge has overtaken, older than REFRESH_US (R269). -/
def State.overtaken (s : State) (c : Column) : Bool := c.stale && decide (c.taken + s.regF grConfig 16 16 * 1000 < s.now)

/-- Whether the traffic limit leaves room for a P0 refresh (R270). -/
def State.refreshRoom (s : State) : Bool := decide (s.trafficIn false + refreshBytes ≤ trafficLimit)

/-- A query is about to use a column: an overtaken P0 copy is fetched again, or the refresh is deferred and counted where the traffic limit leaves it no room (R269, R270). -/
def State.useColumn (s : State) (b : Fin 48) (tile : Nat) : State :=
  match (s.columnsOf b).find? fun c => c.tile == tile with
  | none => s
  | some col =>
    let room := s.refreshRoom
    let new : Column := if s.overtaken col && room then { s.fetchColumn tile with planes := (s.fetchColumn tile).planes.take 1 ++ col.planes.drop 1 }
      else { col with queried := s.now }
    let s' := s.onGrain fun g => { g with columns := updAt g.columns b.val fun l => l.map fun c => if c.tile = tile then new else c }
    if s.overtaken col then (if room then s'.moveBytes refreshBytes else s'.count 0x04800050) else s'

/-- The tiles of the nine cells about the target of a bed tick, as far as they lie in the window. -/
def State.queryTiles (s : State) (b : Fin 48) (n : Nat) : List Nat :=
  let p := s.lookTarget b n
  let c := s.cellOf p.x p.y
  (((([-1, 0, 1] : List Int).flatMap fun i => ([-1, 0, 1] : List Int).map fun j => (c.1 + i, c.2 + j)).filter s.inWindow).map fun e =>
    tileOf e.1.toNat e.2.toNat).dedup

/-- The nine cells around a cell with their weights (R266). -/
def State.kernel (s : State) (c : Int × Int) : List ((Int × Int) × Nat) :=
  let w0 := s.regF 0x04800010 0 16
  let w1 := s.regF 0x04800010 16 16
  let w2 := s.regF 0x04800014 0 16
  ([-1, 0, 1] : List Int).flatMap fun i => ([-1, 0, 1] : List Int).map fun j =>
    ((c.1 + i, c.2 + j), if i = 0 ∧ j = 0 then w0 else if i = 0 ∨ j = 0 then w1 else w2)

/-- A lookahead query (R266): when every column it needs is cached, the sums of the four planes at `now`; a P0 copy that a merge has
overtaken and that is older than REFRESH_US is fetched again first (R269). -/
def State.grainQuery (s : State) (b : Fin 48) : State :=
  match s.queryTick b with
  | none => s
  | some n =>
    let p := s.lookTarget b n
    let c := s.cellOf p.x p.y
    let key := tickKey (s.lookRels b) n
    let add (st : State) (q : Query) : State := st.onGrain fun g => { g with queries := updAt g.queries b.val fun l => l ++ [q] }
    if (s.kerf b).engine.runs = false then s
    else if s.inWindow c = false then add s { place := key.1, off := key.2, tq := s.now, sums := [0, 0, 0, 0], invalid := false, outside := true }
    else
      let ker := (s.kernel c).filter fun e => s.inWindow e.1
      let tiles := s.queryTiles b n
      let have_ := tiles.all fun t => (s.columnsOf b).any fun col => col.tile == t
      if have_ = false then s
      else
        let s := tiles.foldl (fun st t => st.useColumn b t) s
        let cols := s.columnsOf b
        let plane (t k : Nat) : List Host.Cell := ((cols.find? fun col => col.tile == t).map fun col => col.planes.getD k []).getD []
        let dirOfTile (t k : Nat) : DirEnt := dirOf s.now (tabulate 8 fun i => getKey (2048 + i) memDefault (plane t k))
        let sum (k : Nat) : Nat := ((ker.map fun e =>
          let t := tileOf e.1.1.toNat e.1.2.toNat
          let d := dirOfTile t k
          if d.occupied then
            let i := 2 * cellIn e.1.1.toNat e.1.2.toNat
            let pl := plane t k
            let raw := (getKey i memDefault pl).toNat + 256 * (getKey (i + 1) memDefault pl).toNat
            e.2 * roleValue k raw * decay (s.now - d.tRef) (s.roleHalf k) / 2 ^ 44
          else 0).sum)
        let bad := tiles.any fun t => (List.range 4).any fun k => (dirOfTile t k).invalid
        add s { place := key.1, off := key.2, tq := s.now, sums := tabulate 4 sum, invalid := bad, outside := false }

/-- The G table's entry `j` (R279). -/
def State.gEntry (s : State) (j : Nat) : Nat := s.regF (0x04800200 + 4 * (j / 2)) (16 * (j % 2)) 16

/-- The conduction factor. -/
def State.cond (s : State) : Nat := s.regF 0x0480000C 0 16

/-- The scale of one committed tick at its bed time (R267), from a query's sums. -/
def State.gOf (s : State) (q : Query) (tb : Nat) : Nat :=
  let part (k : Nat) : Nat := q.sums.getD k 0 * s.cond ^ k / 65536 ^ k * decay (tb - q.tq) (s.roleHalf k) / 2 ^ 60
  let h : Nat := (part 0 + part 1 + part 2 + part 3) / 2 ^ 32
  let hs : Nat := min (h / 2 ^ s.regF grConfig 8 4) 65535
  let j : Nat := hs / 2048
  let fr : Nat := hs % 2048
  ((s.gEntry j : Int) + (((s.gEntry (j + 1) : Int) - s.gEntry j) * fr) / 2048).toNat

/-- Whether the record that a bed tick belongs to holds the scale at 1.0 (R157). -/
def State.tickNoFF (s : State) (b : Fin 48) (n : Nat) : Bool :=
  match (s.kerf b).rels.find? fun r => decide (r.start ≤ n * tickNs) && decide (n * tickNs < r.complete) with
  | some r => r.record.flags.getLsbD 2
  | none => false

/-- g_tick of a bed tick, with the fallbacks of R268. -/
def State.gTick (s : State) (b : Fin 48) (n : Nat) : Nat :=
  if s.grainOn = false ∨ s.tickNoFF b n = true then 16384
  else match s.queryFor b n with
    | none => 16384
    | some q => if q.outside || q.invalid then 16384 else s.gOf q (n * tickNs)

/-- g of a PWR frame: the mean of the two ticks of its bed interval (R267). -/
def State.gFrame (s : State) (b : Fin 48) (n : Nat) : Nat := (s.gTick b n + s.gTick b (n + 1) + 1) / 2

/-- A tick is committed (R267, R268): its counts, the beam's DEGRADED state, and the layer's shortest lead. -/
def State.commitTick (s : State) (b : Fin 48) (n : Nat) : State :=
  if s.grainOn = false ∨ (s.kerf b).engine.runs = false ∨ s.tickNoFF b n = true then s
  else match s.queryFor b n with
    | none => s.count grLate
    | some q =>
      let lead := (n * tickNs - q.tq) / 1000
      let s := s.onGrain fun g => { g with leadMin := some (match g.leadMin with | none => lead | some l => min l lead) }
      if q.outside then s.count grOutside
      else if q.invalid then
        ((s.count grInvalidQ).onChan b fun c => { c with degs := if c.degs.contains .grainInvalid then c.degs else .grainInvalid :: c.degs }).unitFault (.beam b) stDegraded 0x0A
      else if (s.chan b).degs.contains .grainInvalid then
        (s.onChan b fun c => { c with degs := c.degs.filter (· ≠ .grainInvalid) }).settle (.beam b)
      else s

/-- The queries of a record that has completed, and of held ticks that are past, are dropped. -/
def State.pruneQueries (s : State) (b : Fin 48) (p : Place) : State :=
  s.onGrain fun g => { g with
    queries := updAt g.queries b.val fun l => l.filter fun (q : Query) => q.place != some p && !(q.place == none && decide (q.off * tickNs + 1000 < s.now)) }

/-! ## Layers, failures and the host (R271-R275) -/

/-- The values held pending take effect (R271); of GR_CONFIG that is G_SHIFT alone. -/
def State.applyMaterial (s : State) : State :=
  (s.grain.pendMat.foldl (fun st e => st.setReg e.1 (if e.1 = grConfig then putField (st.reg grConfig) 8 4 (field e.2 8 4) else e.2)) s).onGrain fun g => { g with pendMat := [] }

/-- Whether a material write waits (R271). -/
def State.materialWaits (s : State) : Bool := s.layerInProgress

/-- A material register with the value that is held pending for it, as a write of some of its bits takes the others (R271); of GR_CONFIG that is G_SHIFT alone. -/
def State.materialReg (s : State) (a : Nat) (w : Word) : Word :=
  match s.grain.pendMat.find? fun e => e.1 == a with
  | some e => if a = grConfig then putField w 8 4 (field e.2 8 4) else e.2
  | none => w

/-- A material register written, at once or pending. -/
def State.setMaterial (s : State) (a : Nat) (w : Word) : State :=
  if s.materialWaits then s.onGrain fun g => { g with pendMat := (g.pendMat.filter fun e => e.1 != a) ++ [(a, w)] }
  else s.setReg a w

/-- A layer start (R261, R271, R279). -/
def State.grainLayer (s : State) : State :=
  let s := s.applyMaterial
  let s := [grLate, grOutside, grSat, grInvalidQ, 0x04800050, 0x04800058].foldl (fun st a => st.setReg a 0) s
  (s.setReg 0x04800038 (BitVec.ofNat 32 s.layerNo)).onGrain fun g => { g with carry := [], leadMin := none, queries := List.replicate 48 [] }

/-- A layer end (R265, R271, R275): pending values apply, the roll is due, and a summary is recorded when a counter is not 0. -/
def State.grainLayerEnd (s : State) : State :=
  let s := s.applyMaterial.onGrain fun g => { g with pendRoll := true, rollLayer := s.layerNo, whole := s.layers.active == .complete }
  let c (a : Nat) : List Byte := leBytes 4 (s.reg a).toNat
  if s.reg grLate = 0 ∧ s.reg grOutside = 0 ∧ s.reg grSat = 0 ∧ s.reg grInvalidQ = 0 then s
  else s.note 0x0682 0 0 [] (c grLate ++ c grOutside ++ c grSat ++ c grInvalidQ ++ leBytes 4 (s.reg 0x04800058).toNat ++ leBytes 4 (s.grain.leadMin.getD 0))

/-- A beam failure discards the queries that are not committed (R271). -/
def State.grainFail (s : State) (b : Fin 48) : State :=
  s.onGrain fun g => { g with queries := updAt g.queries b.val fun _ => [] }

/-- OCCUPIED cleared in every tile of the masked roles (R274). -/
def State.grainClear (s : State) (mask : Nat) : State :=
  let slots := ((List.range 4).filter fun k => mask.testBit k).map s.slotOf
  let s := slots.foldl (fun st sl => (st.dirTiles sl).foldl (fun st t => st.setDir sl t { st.dir sl t with occupied := false }) st) s
  s.onGrain fun g => { g with columns := List.replicate 48 [] }

/-- A cell's value in a role now, decayed, in units of 2^-60 (R273). -/
def State.cellNow (s : State) (k cx cy : Nat) : Nat :=
  let slot := s.slotOf k
  let d := s.dir slot (tileOf cx cy)
  if d.occupied then roleValue k (leNat (s.readMem (tileAddr slot (tileOf cx cy) + 2 * cellIn cx cy) 2)) * decay (s.now - d.tRef) (s.roleHalf k) else 0

/-- What GRAIN_READ returns for a cell (R273), rounded to nearest (log entry 15). -/
def State.grainCell (s : State) (plane cx cy : Nat) : Nat :=
  let v := if plane < 4 then s.cellNow plane cx cy
    else s.cellNow 0 cx cy + s.cond * s.cellNow 1 cx cy / 65536 + s.cond ^ 2 * s.cellNow 2 cx cy / 65536 ^ 2 + s.cond ^ 3 * s.cellNow 3 cx cy / 65536 ^ 3
  min 0xFFFFFFFF ((2 * v + 2 ^ 60) / 2 ^ 61)

/-- An uncorrectable error in the map's memory marks its tile INVALID (R30). -/
def State.grainBad (s : State) (a : Nat) : State :=
  let off := (a - 0x200000000) % 0x20000000
  let slot := (a - 0x200000000) / 0x20000000
  let tile := if off < 0x1E848000 then off / 2048 else (off - 0x1E848000) / 8
  s.setDir slot tile { s.dir slot tile with invalid := true }

/-! ## The g that the control law uses (R223, R233, R267) -/

/-- The first control frame at or after a time, and the next one after it. -/
def State.controlFrame (s : State) (t : Nat) : Nat := s.power.beamStart + ceilDiv (t - s.power.beamStart) 1000 * 1000
def State.controlAfter (s : State) (t : Nat) : Nat := if t < s.power.beamStart then s.power.beamStart else s.power.beamStart + ((t - s.power.beamStart) / 1000 + 1) * 1000

/-- The g of a control frame: that of its bed interval. -/
def State.gControl (s : State) (b : Fin 48) (frame : Nat) : Nat := s.gFrame b (ceilDiv (frame + (s.chan b).pwrLag * cyc) tickNs)

/-- The g of a beam's next control frame. -/
def State.gNext (s : State) (b : Fin 48) : Nat := s.gControl b (s.controlAfter s.now)

end Sys2Proof.Machine
end

