-- ==== Sys2Proof/Machine/Scribe.lean ====
section
/-! DEFINITION. Scribe (09_scribe_calibration.md): the correction tables, conversion to field units, fiducials, mark scans, passes, the
fit, its application, and stitching. -/

namespace Sys2Proof.Machine

open Sys2Proof

/-- A beam's Scribe state. -/
def State.scribe (s : State) (b : Fin 48) : Scribe := s.scribes[b.val]'b.isLt
def State.onScribe (s : State) (b : Fin 48) (f : Scribe → Scribe) : State := { s with scribes := vmod s.scribes b f }

/-! ## The table (R283, R284) -/

/-- Where beam b's table lies (R284), its length, and where its measurements lie (R306). -/
def tableBase (b : Fin 48) : Nat := 0x13100000 + b.val * 0x31100
def tableLen : Nat := 200804
def measBase (b : Fin 48) : Nat := 0x13A33000 + b.val * 0x1800

/-- A beam's Scribe register (R305). -/
def scb (b : Fin 48) (off : Nat) : Nat := 0x05004000 + 0x40 * b.val + off

/-- Fields of the live table. -/
def State.tabS32 (s : State) (b : Fin 48) (off : Nat) : Int := leS32 (s.readMem (tableBase b + off) 4) 0
def State.tabNat (s : State) (b : Fin 48) (off n : Nat) : Nat := leNat (s.readMem (tableBase b + off) n)

/-- One component (0 dx, 1 dy, 2 dz) of grid point (i, j). -/
def State.gridPt (s : State) (b : Fin 48) (i j k : Nat) : Int := s.tabS32 b (80 + (j * 129 + i) * 12 + 4 * k)

/-- Entry k of the focus table. -/
def State.focusPt (s : State) (b : Fin 48) (k : Nat) : Int := s.tabS32 b (199772 + 4 * k)

/-- The grid's span in X and Y: the position of the first line and the spacing. -/
def State.gridSpan (s : State) (b : Fin 48) : Int × Int × Nat := (s.tabS32 b 36, s.tabS32 b 40, s.tabNat b 44 4)

/-- What a table of 200,804 bytes fails first (R285): a check's code and the offset of the failing field. -/
def tableCheck (b : Fin 48) (valid : Bool) (bs : List Byte) : Option (Nat × Nat) :=
  let i32 (o : Nat) : Int := leS32 bs o
  let pitch := leAt bs 44 4
  let far (o : Nat) : Int := i32 o + 128 * pitch
  let step := leAt bs 48 4
  if valid = false then some (1, 0)
  else if leAt bs 0 4 ≠ 0x42544353 then some (2, 0)
  else if leAt bs 4 2 ≠ 1 then some (2, 4)
  else if byteAt bs 6 ≠ b.val then some (3, 6)
  else if leAt bs 200800 4 ≠ (crc32c (bs.take 200800)).toNat then some (4, 200800)
  else if 1 < byteAt bs 7 then some (5, 7)
  else if i32 16 * i32 28 - i32 20 * i32 24 = 0 then some (5, 28)
  else if pitch < 1000 ∨ 1000000 < pitch then some (5, 44)
  else if 2147483647 < far 36 then some (5, 36)
  else if 2147483647 < far 40 then some (5, 40)
  else if step < 100 ∨ 1000000 < step then some (5, 48)
  else if zeroAt bs 68 12 = false then some (5, 68)
  else none

/-! ## Conversion (R281, R282) -/

/-- The Catmull-Rom weights at s/65536 in units of 2^-49 (R282). -/
def crWeights (s : Int) : List Int :=
  let u : Int := 65536
  [-(s ^ 3) + 2 * s ^ 2 * u - s * u ^ 2, 3 * s ^ 3 - 5 * s ^ 2 * u + 2 * u ^ 3,
   -3 * s ^ 3 + 4 * s ^ 2 * u + s * u ^ 2, s ^ 3 - s ^ 2 * u]

/-- A grid coordinate's point and fraction (R282). -/
def gridSplit (g : Nat) : Nat × Nat := if 128 ≤ g / 65536 then (127, 65536) else (g / 65536, g % 65536)

/-- A grid index limited to the grid. -/
def gridIdx (i : Nat) (a : Nat) : Nat := min (i + a - 1) 128

/-- The interpolated value of a component, rounded to the nearest LSB (log entry 16). -/
def State.bicubic (s : State) (b : Fin 48) (gu gv k : Nat) : Int :=
  let p := gridSplit gu
  let q := gridSplit gv
  let wu := crWeights p.2
  let wv := crWeights q.2
  let sum : Int := ((List.range 4).map fun a => ((List.range 4).map fun c =>
    wu.getD a 0 * wv.getD c 0 * s.gridPt b (gridIdx p.1 a) (gridIdx q.1 c) k).sum).sum
  roundHalfAway sum (2 ^ 98)

/-- The field units of a bed target before clipping (R281). -/
def State.convert (s : State) (b : Fin 48) (p : Pt) : Int × Int × Int :=
  let u := p.x - s.tabS32 b 8
  let v := p.y - s.tabS32 b 12
  let sp := s.gridSpan b
  let pitch : Int := max 1 sp.2.2
  let gu := (clampInt 0 (128 * 65536) ((p.x - sp.1) * 65536 / pitch)).toNat
  let gv := (clampInt 0 (128 * 65536) ((p.y - sp.2.1) * 65536 / pitch)).toNat
  let step := max 1 (s.tabNat b 48 4)
  let rr := min (isqrt ((u * u + v * v).toNat * 2 ^ 32 / (step * step))) (256 * 65536)
  let k := rr / 65536
  let fr : Int := (rr % 65536 : Nat)
  let f0 := s.focusPt b k
  let fc := f0 + (s.focusPt b (min (k + 1) 256) - f0) * fr / 65536
  let axis (a c : Nat) (d : Int) : Int := roundHalfAway (s.tabS32 b a * u + s.tabS32 b c * v + d * 2 ^ 20) (2 ^ 28)
  (axis 16 20 (s.bicubic b gu gv 0), axis 24 28 (s.bicubic b gu gv 1),
   roundHalfAway (s.tabS32 b 32 * p.z + (fc + s.bicubic b gu gv 2) * 2 ^ 20) (2 ^ 28))

/-- Limited to s24. -/
def clip24 (v : Int) : Int := clampInt (-8388608) 8388607 v

/-- A bed target converted and clipped; a clip is counted and recorded (R281). -/
def State.toField (s : State) (b : Fin 48) (p : Pt) : (Int × Int × Int) × State :=
  let f := s.convert b p
  let c := (clip24 f.1, clip24 f.2.1, clip24 f.2.2)
  (c, if c = f then s else (s.count (scb b 0x20)).note 0x0780 1 0 [0, b] (leBytes 4 s.layerNo))

/-! ## Fiducials and the reach of a beam (R288, R289) -/

/-- A fiducial entry. -/
structure Fid where
  x       : Int
  y       : Int
  half    : Nat
  radius  : Nat
  floor   : Nat
  enabled : Bool
  coverable : Bool
  cmin    : Int
  cmax    : Int
deriving DecidableEq, Repr

/-- Word `w` of entry `k`. -/
def fidReg (k w : Nat) : Nat := 0x05002000 + 0x20 * k + 4 * w

/-- Fiducial `k`. -/
def State.fid (s : State) (k : Nat) : Fid :=
  let r (w : Nat) : Word := s.reg (fidReg k w)
  { x := s32 (r 0), y := s32 (r 1), half := (r 2).toNat, radius := (r 3).toNat, floor := field (r 4) 0 16, enabled := flag (r 4) 16,
    coverable := flag (r 4) 17, cmin := s32 (r 5), cmax := s32 (r 6) }

/-- The offset of the first value of an entry's 32 bytes that is out of range (R288). -/
def fidBad (bs : List Byte) : Option Nat :=
  let h := leAt bs 8 4
  if h < 10000 ∨ 500000 < h then some 8
  else if leAt bs 12 4 < 1000 ∨ h < 2 * leAt bs 12 4 then some 12
  else if 3 < leAt bs 18 2 then some 18
  else if leS32 bs 24 < leS32 bs 20 then some 24
  else if zeroAt bs 28 4 = false then some 28
  else none

/-- A beam's field (R188). -/
def State.kfField (s : State) (b : Fin 48) : Int × Int × Int × Int :=
  (s32 (s.reg (beamReg b 0x4014)), s32 (s.reg (beamReg b 0x4018)), s32 (s.reg (beamReg b 0x401C)), s32 (s.reg (beamReg b 0x4020)))

/-- A fiducial in reach of a beam (R289). -/
def State.inReach (s : State) (b : Fin 48) (k : Nat) : Bool :=
  let f := s.fid k
  let q := s.kfField b
  let g := s.gridSpan b
  let x0 := f.x - f.half
  let x1 := f.x + f.half
  let y0 := f.y - f.half
  let y1 := f.y + f.half
  f.enabled && decide (q.1 ≤ x0) && decide (q.2.1 ≤ y0) && decide (x1 ≤ q.2.2.1) && decide (y1 ≤ q.2.2.2)
    && decide (g.1 ≤ x0) && decide (g.2.1 ≤ y0) && decide (x1 ≤ g.1 + 128 * g.2.2) && decide (y1 ≤ g.2.1 + 128 * g.2.2)

/-- The fiducials in reach of a beam. -/
def State.reachList (s : State) (b : Fin 48) : List Nat := (List.range 256).filter (s.inReach b)

/-- The least valid marks of a model (R294). -/
def leastMarks (m : Nat) : Nat := if m = 0 then 1 else if m = 1 then 2 else if m = 2 then 3 else 8

/-! ## Measurements in memory (R306) -/

/-- An s32 rounded from an exact value, half away from zero. -/
def ratS32 (q : Rat) : List Byte := leBytes 4 (unsignedOf 32 (roundHalfAway q.num q.den))

/-- A measurement's entry, with its post-fit residual. -/
def State.writeMeas (s : State) (b : Fin 48) (k : Nat) (m : Meas) (rx ry : Rat) : State :=
  let f := s.fid k
  s.writeMem (measBase b + 24 * k)
    (leBytes 1 (if m.valid then 1 else 2) ++ leBytes 1 m.cause ++ leBytes 2 0 ++ (if m.valid then ratS32 (m.ex + f.x) ++ ratS32 (m.ey + f.y) else leBytes 8 0)
      ++ ratS32 rx ++ ratS32 ry ++ leBytes 4 (nsOf m.time))

/-- Every measurement of a beam is discarded, and its pass starts again (R301). -/
def State.restartPass (s : State) (b : Fin 48) : State :=
  ({ s with mem := Memory.erase s.mem (measBase b) 0x1800 } : State).onScribe b fun c => { c with meas := [] }

/-! ## Passes (R294) -/

/-- A SCRIBE_RESULT event (R302). -/
def State.scribeResult (s : State) (b : Fin 48) (id : Word) (status model n rms mx drms dmax : Nat) : State :=
  s.raise 0x0700 (if status = 2 then 1 else 0) 0 [0, b] (leBytes 4 id.toNat ++ leBytes 1 status ++ leBytes 1 model ++ leBytes 2 n ++ leBytes 2 rms ++ leBytes 2 mx
    ++ leBytes 2 drms ++ leBytes 2 dmax ++ leBytes 4 (s.reg (scb b 4)).toNat)

/-- A pass that fails (R294): the correction stays, the failure is counted and recorded; it has no figures (log entry 17). -/
def State.passFails (s : State) (b : Fin 48) (model n : Nat) : State :=
  let s := (s.count (scb b 0x18)).count 0x05000044
  (s.onScribe b fun c => { c with pass := none }).scribeResult b 0 2 model n 0xFFFF 0xFFFF 0xFFFF 0xFFFF

/-- A pass is requested: it ends at once with too few marks in reach (R294). -/
def State.requestPass (s : State) (b : Fin 48) (model : Nat) (hold : Bool) : State :=
  if (s.reachList b).length < leastMarks model then s
  else (s.restartPass b).onScribe b fun c => { c with pass := some ⟨model, hold, 0⟩ }

/-- Whether a beam's pass is PENDING, HELD or APPLY_PENDING (R299). -/
def Scribe.busy (c : Scribe) : Bool := c.pass.isSome || c.result.isSome

/-- A layer start (R294): passes age, and automatic passes are requested at every nth. -/
def State.scribeLayer (s : State) : State :=
  let n := s.regF 0x05000000 8 8
  let auto := n != 0 && s.layers.starts % n == 0
  beams.foldl (fun st b =>
    let st := st.onScribe b fun c => { c with pass := c.pass.map fun p => { p with layers := p.layers + 1 } }
    let on := if b.val < 32 then st.regB 0x05000020 b.val else st.regB 0x05000024 (b.val - 32)
    if auto && on && !(st.scribe b).busy then st.requestPass b (st.regF 0x05000000 2 2) false else st) s

/-- Whether every fiducial in reach has been attempted. -/
def State.allAttempted (s : State) (b : Fin 48) : Bool := (s.reachList b).all fun k => (s.scribe b).meas.any fun m => m.1 == k

/-- A pass that PASS_LAYERS layer starts have overtaken fails, after any scan of it (R294, R301). -/
def State.passTimeout (s : State) (b : Fin 48) : State :=
  let c := s.scribe b
  match c.pass with
  | none => s
  | some p =>
    if p.layers < s.regF 0x05000000 16 8 ∨ c.scan.isSome then s
    else s.passFails b p.model (c.meas.filter fun m => m.2.valid).length

/-! ## Mark scans (R290-R293) -/

/-- An axis position in whole PU. -/
def Axis.pu (a : Axis) : Int := a.p / 6000000000000000

/-- Whether the recoater covers a fiducial now (R291, R304). -/
def State.covered (s : State) (f : Fid) : Bool :=
  let p := (s.axes[(Fin.ofNat 8 (s.regF 0x05000014 0 3)).val]'(Fin.ofNat 8 (s.regF 0x05000014 0 3)).isLt).pu
  f.coverable && s.regB 0x05000014 3 && decide (f.cmin ≤ p) && decide (p ≤ f.cmax)

/-- Scan settings (R304). -/
def State.scanSpeed (s : State) : Nat := max 1 (s.regF 0x05000004 0 16)
def State.scanLines (s : State) : Nat := s.regF 0x05000008 16 8
def State.scanPoints (s : State) : Nat := s.regF 0x05000008 24 8
def State.scanSettle (s : State) : Nat := s.regF 0x05000014 16 16

/-- A scan's estimated duration in us (R290). -/
def State.scanTime (s : State) (h : Nat) : Nat := s.scanSettle + (s.scanLines + 1) * 20 * h / s.scanSpeed

/-- The earliest scheduled move out of the present mode, RECOAT or CALIBRATE (R291): MODE_SET to another mode, of this device or of the chain, and HOLD and SAFE, which move
to HOLD (R47, R51). -/
def State.nextMove (s : State) (modeCode : Nat) : Option Nat :=
  ((s.front.sched.filter fun e => (e.opcode == 0x0010 && byteAt e.packet.params 0 != modeCode) || e.opcode == 0x0011 || e.opcode == 0x0012).map (·.due)
    ++ (s.front.moves.filter fun m => m.2 != modeCode).map (·.1)).min?

/-- The codes of the two modes in which marks are scanned (R45). -/
def State.scanMode (s : State) : Option Nat :=
  match s.mode.mode with
  | .recoat => if s.regB 0x05000000 0 then some 6 else none
  | .calibrate => some 4
  | _ => none

/-- The square of the distance between two points of the bed. -/
def dist2 (x0 y0 x1 y1 : Int) : Int := (x0 - x1) * (x0 - x1) + (y0 - y1) * (y0 - y1)

/-- Whether two fiducials are the same, or lie within SC_ISOLATE of one another (R291). -/
def State.clash (s : State) (j k : Nat) : Bool :=
  let iso : Int := (s.reg 0x05000018).toNat
  j == k || decide (dist2 (s.fid j).x (s.fid j).y (s.fid k).x (s.fid k).y ≤ iso * iso)

/-- Whether fiducial `k` qualifies for a scan of beam `b` (R291). -/
def State.scanFits (s : State) (b : Fin 48) (code k : Nat) : Bool :=
  let f := s.fid k
  let clash := beams.any fun o => match (s.scribe o).scan with
    | some sc => o != b && s.clash sc.fid.val k
    | none => false
  let inTime := match s.nextMove code with
    | some due => decide (s.now + (s.scanTime f.half + (s.reg 0x05000028).toNat) * 1000 ≤ due)
    | none => true
  s.inReach b k && !((s.scribe b).meas.any fun m => m.1 == k) && !s.covered f && !clash && inTime

/-- A beam's plan of a mark scan from a tick on (R290): the jump, the wait, and the lines with their gates. -/
def State.scanPlan (s : State) (b : Fin 48) (f : Fid) (t0 : Nat) : List Seg × List GateIv :=
  let h : Int := f.half
  let lines := s.scanLines
  let z := ((s.kerf b).pos).z
  let start : Pt := ⟨f.x - h, f.y - h, z⟩
  let from_ := (s.kerf b).target (t0 - 1)
  let n0 := motionTicks (motionLen from_ start) (max 1 (s.regF 0x05000008 0 16))
  let nw := ceilDiv (s.scanSettle * 1000) tickNs
  let power := min (s.regF 0x05000004 16 16) (s.regF (beamReg b 0x201C) 0 16)
  let yAt (l : Nat) : Int := f.y - h + 2 * h * l / (max 1 (lines - 1) : Nat)
  let nl := motionTicks (2 * f.half) s.scanSpeed
  let go : List Seg × List GateIv × Nat × Pt := (List.range lines).foldl (fun acc l =>
    let y := yAt l
    let t := acc.2.2.1
    let p := acc.2.2.2
    let q0 : Pt := ⟨p.x, y, z⟩
    let ns := if l = 0 then 0 else motionTicks (motionLen p q0) s.scanSpeed
    let q1 : Pt := ⟨if l % 2 = 0 then f.x + h else f.x - h, y, z⟩
    let step : List Seg := if l = 0 then [] else [straight t ns p q0]
    (acc.1 ++ step ++ [straight (t + ns) nl q0 q1],
     acc.2.1 ++ [⟨(t + ns) * tickNs, (t + ns + nl) * tickNs, power, 0, 0, true, .scan, q1.x - q0.x, 0⟩], t + ns + nl, q1))
    ([straight t0 n0 from_ start, straight (t0 + n0) nw start start], [], t0 + n0 + nw, start)
  (go.1, go.2.1)

/-- The tick with which a scan that starts now begins. -/
def State.scanTick (s : State) : Nat := ceilDiv s.commitPoint tickNs + 1

/-- The fiducial that a beam would take now (R291): of those that qualify the nearest to its present target, ties to the lower index. -/
def State.scanChoice (s : State) (b : Fin 48) : Option Nat :=
  let c := s.scribe b
  let st := s.unitState (.beam b)
  match s.scanMode, c.pass with
  | some code, some _ =>
    if c.table ≠ .loaded ∨ (st ≠ stOk ∧ st ≠ stDegraded) ∨ s.regB (beamReg b 0x1000) 0 = false ∨ s.regB (beamReg b 0x1008) 0 = false ∨ c.scan.isSome
        ∨ c.result.isSome then none
    else
      let here := (s.kerf b).target (s.scanTick - 1)
      let fits := (s.reachList b).filter (s.scanFits b code)
      (sortBy (fun k => (dist2 here.x here.y (s.fid k).x (s.fid k).y).toNat) fits).head?
  | _, _ => none

/-- The fiducials that the beams below `b` take in this cycle: a lower beam takes its own before a higher one with which it conflicts (R291). -/
def State.lowerChoices (s : State) (b : Fin 48) : List Nat :=
  (beams.filter fun o => decide (o < b)).foldl (fun acc o => match s.scanChoice o with
    | some k => if acc.any fun j => s.clash j k then acc else acc ++ [k]
    | none => acc) []

/-- A mark scan starts when all conditions hold (R291). -/
def State.scanStart (s : State) (b : Fin 48) : State :=
  match s.scanChoice b with
  | none => s
  | some k =>
    if (s.lowerChoices b).any fun j => s.clash j k then s
    else
      let t0 := s.scanTick
      let here := (s.kerf b).target (t0 - 1)
      let plan := s.scanPlan b (s.fid k) t0
      let ends := ((plan.1.getLast?.map fun g => g.t0 + g.n).getD t0) * tickNs
      let endPt := (plan.1.getLast?.map fun g => g.q).getD here
      let scan : Scan :=
        { fid := Fin.ofNat 256 k, started := s.now, ends := ends, ready := s.regB (beamReg b 0x200C) 0, lines := s.scanLines, points := s.scanPoints,
          spans := plan.2.map fun g => (g.start, g.stop), sums := [], sat := false, met := false }
      let s := s.onScribe b fun c => { c with scan := some scan }
      (s.addGates b plan.2).onKerf b fun kf => { kf with coast := kf.coast ++ plan.1, pos := endPt, raw := endPt }

/-- The line of a scan and the interval of it in which the spot is at a bed time (R290). -/
def Scan.pointAt (c : Scan) (t : Nat) : Option (Nat × Nat) :=
  (c.spans.zipIdx.find? fun e => decide (e.1.1 ≤ t) && decide (t < e.1.2)).map fun e => (e.2, (t - e.1.1) * c.points / (e.1.2 - e.1.1))

/-- Corrected AIN1 samples of a beam, the last of them taken at `last`, enter the points of a beam's scan (R221, R290): in bed time, SENSE_DELAY before the sample, as a window is classed (R223; DEDUCED, log
entry 102). -/
def State.scanSamples (s : State) (b : Fin 48) (last : Nat) (smp : List Sample) : State :=
  match (s.scribe b).scan with
  | none => s
  | some sc =>
    let del := s.senseDelay b * cyc
    let off := signed 16 (field (s.reg (beamReg b 0x3004)) 16 16)
    let n := smp.length
    let hits := smp.zipIdx.filterMap fun e => (sc.pointAt (last - 50 * (n - 1 - e.2) - del)).map fun p => (p, signed 14 e.1.ain1.toNat)
    let sums := hits.foldl (fun (acc : List ((Nat × Nat) × Int × Nat)) e =>
      if acc.any fun x => x.1 == e.1 then acc.map fun x => if x.1 == e.1 then (x.1, x.2.1 + (e.2 - off), x.2.2 + 1) else x
      else acc ++ [(e.1, e.2 - off, 1)]) sc.sums
    s.onScribe b fun c => { c with scan := some { sc with sums := sums, sat := sc.sat || hits.any fun e => e.2 == -8192 || e.2 == 8191 } }

/-- The recoater axis has moved (R293): a scan whose fiducial it now covers becomes INVALID when it ends. -/
def State.coverWatch (s : State) : State :=
  beams.foldl (fun st b => match (st.scribe b).scan with
    | some sc => if st.covered (st.fid sc.fid.val) then st.onScribe b fun c => { c with scan := some { sc with met := true } } else st
    | none => st) s

/-- The value of a scan's point (R290); where no sample fell within its interval the spec states none, and it is free (log entry 102). -/
def Scan.value (c : Scan) (l p : Nat) : Rat :=
  match c.sums.find? fun x => x.1 == (l, p) with
  | some x => mkRat (4 * x.2.1) x.2.2
  | none => (Config.emptyPoint l p : Nat)

/-- The scan's plan is dropped: the gate stays closed and the target stops where it is. -/
def State.scanStop (s : State) (b : Fin 48) : State :=
  let t := ceilDiv s.commitPoint tickNs
  let here := (s.kerf b).target t
  (s.onScribe b fun c => { c with scan := none }).onKerf b fun k => { k with
    planned := k.planned.filter fun g => g.place != .scan, gates := k.gates.filter fun g => g.place != .scan, coast := [straight t 0 here here], pos := here, raw := here }

/-- An INVALID measurement (R293): counted, recorded, and alerted at most once a second with what merged. -/
def State.scanInvalid (s : State) (b : Fin 48) (k cause : Nat) : State :=
  let m : Meas := ⟨false, cause, 0, 0, s.now⟩
  let s := (s.count (scb b 0x18)).count 0x05000048
  let s := (s.onScribe b fun c => { c with meas := c.meas ++ [(k, m)], cause := cause }).writeMeas b k m 0 0
  let c := s.scribe b
  let body (n : Nat) : List Byte := leBytes 1 k ++ leBytes 1 cause ++ leBytes 2 0 ++ leBytes 4 n
  let free := match c.invAt with
    | none => true
    | some t => decide (t + second ≤ s.now)
  let q := s.tallyEvent 0x0701 1 0 [0, b] (body c.invMerged)
  if free then
    (q.1.onScribe b fun c => { c with invAt := some s.now, invMerged := 0 }).alert 0x0701 1 (tallyLow q.2) (q.1.fullPath [0, b]) (body c.invMerged)
  else q.1.onScribe b fun c => { c with invMerged := c.invMerged + 1 }

/-- The mean of a list of points' values. -/
def meanRat (l : List Rat) : Rat := if l.isEmpty then 0 else l.sum / (l.length : Rat)

/-- The centroid of a completed scan's values by line and interval (R292), or the cause that makes it INVALID. -/
def centroid (f : Fid) (lines points : Nat) (v : Nat → Nat → Rat) : Nat × Rat × Rat :=
  let h : Rat := f.half
  let dx : Rat := 2 * h / points
  let px (l p : Nat) : Rat := if l % 2 = 0 then f.x - h + (p + 1 / 2) * dx else f.x + h - (p + 1 / 2) * dx
  let py (l : Nat) : Rat := f.y - h + 2 * h * l / (max 1 (lines - 1) : Nat)
  let all := (List.range lines).flatMap fun l => (List.range points).map fun p => (l, p)
  let edge := all.filter fun e => e.1 == 0 || e.1 + 1 == lines || e.2 == 0 || e.2 + 1 == points
  let b := meanRat (edge.map fun e => v e.1 e.2)
  let w (e : Nat × Nat) : Rat := max 0 (v e.1 e.2 - b)
  let top := (all.map w).foldl max 0
  let sum := (all.map w).sum
  if top < f.floor ∨ sum = 0 then (2, 0, 0)
  else
    let cx := (all.map fun e => w e * px e.1 e.2).sum / sum
    let cy := (all.map fun e => w e * py e.1).sum / sum
    let sp2 := (all.map fun e => w e * ((px e.1 e.2 - cx) * (px e.1 e.2 - cx) + (py e.1 - cy) * (py e.1 - cy))).sum / sum
    let r : Rat := f.radius
    let m := 2 * dx
    if sp2 < r * r / 4 ∨ 4 * r * r < sp2 then (3, 0, 0)
    else if cx - (f.x - h) ≤ m ∨ f.x + h - cx ≤ m ∨ cy - (f.y - h) ≤ m ∨ f.y + h - cy ≤ m then (4, 0, 0)
    else (0, cx - f.x, cy - f.y)

/-- A mark scan completes (R292, R293). -/
def State.scanDone (s : State) (b : Fin 48) : State :=
  match (s.scribe b).scan with
  | none => s
  | some sc =>
    let k := sc.fid.val
    let f := s.fid k
    let c := centroid f sc.lines sc.points sc.value
    let s := s.onScribe b fun q => { q with scan := none }
    if sc.met || s.covered f then s.scanInvalid b k 1
    else if sc.ready = false then s.scanInvalid b k 6
    else if sc.sat then s.scanInvalid b k 5
    else if s.regF (beamReg b 0x201C) 0 16 = 0 then s.scanInvalid b k 2
    else if c.1 ≠ 0 then s.scanInvalid b k c.1
    else
      let m : Meas := ⟨true, 0, c.2.1, c.2.2, s.now⟩
      (s.onScribe b fun q => { q with meas := q.meas ++ [(k, m)] }).writeMeas b k m 0 0

/-- The mode leaves RECOAT or CALIBRATE: scans are cut, and count in SC_CUT alone (R293). -/
def State.cutScans (s : State) : State :=
  beams.foldl (fun st b => if (st.scribe b).scan.isSome then (st.scanStop b).count 0x0500004C else st) s

/-- A beam failure during a scan (R293, R301). -/
def State.scribeFail (s : State) (b : Fin 48) : State :=
  match (s.scribe b).scan with
  | none => s
  | some sc => (s.scanStop b).scanInvalid b sc.fid.val 6

/-! ## The fit (R295) -/

/-- A valid mark: its number, position, error and time. -/
structure FitMark where
  k  : Nat
  x  : Rat
  y  : Rat
  ex : Rat
  ey : Rat
  time : Nat
deriving DecidableEq, Repr

/-! The arithmetic of the fit is that of IEEE 754 double precision (R295): each result is rounded to the nearest double, ties to even. The order of a sum, by fiducial, and
the way in which a 2 x 2 matrix is inverted are the model's choice (log entry 18). -/

/-- The double nearest to an exact value; no value of a fit comes near the largest double. -/
def dbl (q : Rat) : Rat :=
  if q = 0 then 0
  else
    let n := q.num.natAbs
    let e0 : Int := (Nat.log2 n : Int) - Nat.log2 q.den
    let e := if n * 2 ^ (-e0).toNat < q.den * 2 ^ e0.toNat then e0 - 1 else e0
    let u := max (e - 52) (-1074)
    let num := n * 2 ^ (-u).toNat
    let den := q.den * 2 ^ u.toNat
    let f := num / den
    let r := 2 * (num % den)
    let m := if r < den ∨ (r = den ∧ f % 2 = 0) then f else f + 1
    let v : Rat := mkRat (m * 2 ^ u.toNat : Nat) (2 ^ (-u).toNat)
    if q.num < 0 then -v else v

def dadd (a b : Rat) : Rat := dbl (a + b)
def dsub (a b : Rat) : Rat := dbl (a - b)
def dmul (a b : Rat) : Rat := dbl (a * b)
def ddiv (a b : Rat) : Rat := dbl (a / b)
def dsum (l : List Rat) : Rat := l.foldl dadd 0

/-- exp of a value that is at most 0, and the square root. -/
def dexp (x : Rat) : Rat :=
  let v := -(x.num * one60 / x.den)
  let k := (v / ln2).toNat
  if 1100 < k then 0 else dbl (mkRat (expSeries 30 0 (k * ln2 - v) one60 one60) (2 ^ (60 + k)))
def dsqrt (q : Rat) : Rat := dbl (mkRat (isqrtBits 256 (q.num.toNat * 2 ^ 200 / q.den)) (2 ^ 100))

/-- g of the local field at a distance squared (R295). -/
def localG (d2 spread : Rat) : Rat := dexp (ddiv (-d2) (dmul 2 (dmul spread spread)))

/-- |(x, y)|². -/
def dnorm2 (x y : Rat) : Rat := dadd (dmul x x) (dmul y y)

/-- The fitted correction u at a point (R295). -/
def FitResult.u (r : FitResult) (x y : Rat) : Rat × Rat :=
  let qx := dsub x r.mx
  let qy := dsub y r.my
  let ux := dadd r.tx (dadd (dmul r.axx qx) (dmul r.axy qy))
  let uy := dadd r.ty (dadd (dmul r.ayx qx) (dmul r.ayy qy))
  if r.marks.isEmpty then (ux, uy)
  else
    let g (m : Int × Int × Rat × Rat) : Rat := localG (dnorm2 (dsub x m.1) (dsub y m.2.1)) r.spread
    let den := dadd 1 (dsum (r.marks.map g))
    (dadd ux (ddiv (dsum (r.marks.map fun m => dmul (g m) m.2.2.1)) den), dadd uy (ddiv (dsum (r.marks.map fun m => dmul (g m) m.2.2.2)) den))

/-- A figure of a fit (R296): the square root of a double, rounded to nearest, saturating at 0xFFFE. -/
def figure (q : Rat) : Nat := let v := dsqrt q; min 0xFFFE (roundHalfAway v.num v.den).toNat

/-- The square root of an exact value, rounded to nearest, saturating at 0xFFFE (R296). -/
def sqrtRound (q : Rat) : Nat := min 0xFFFE ((isqrt ((4 * q.num).toNat / q.den) + 1) / 2)

/-- The mean of doubles. -/
def dmean (l : List Rat) : Rat := ddiv (dsum l) l.length

/-- s of the marks about their mean: xx, xy, yy (R295). -/
def scatter (ms : List FitMark) : Rat × Rat × Rat :=
  let mx := dmean (ms.map (·.x))
  let my := dmean (ms.map (·.y))
  (dsum (ms.map fun m => dmul (dsub m.x mx) (dsub m.x mx)), dsum (ms.map fun m => dmul (dsub m.x mx) (dsub m.y my))
  , dsum (ms.map fun m => dmul (dsub m.y my) (dsub m.y my)))

/-- Whether the smaller eigenvalue of s/n is below 1 mm² (R294): that of s/n - 1 mm² is negative. -/
def collinear (sc : Rat × Rat × Rat) (n : Nat) : Bool :=
  let l : Rat := 10000000000
  let a := dsub (ddiv sc.1 n) l
  let d := dsub (ddiv sc.2.2 n) l
  let b := ddiv sc.2.1 n
  !(decide (0 ≤ dadd a d) && decide (dmul b b ≤ dmul a d))

/-- The fit of a model to marks (R295); `th` is the rotation where the marks coincide and R295 divides by 0. -/
def fitOf (id : Word) (model spread : Nat) (ms : List FitMark) (th : Rat) (now : Nat) : FitResult :=
  let mx := dmean (ms.map (·.x))
  let my := dmean (ms.map (·.y))
  let tx := dmean (ms.map (·.ex))
  let ty := dmean (ms.map (·.ey))
  let sm (f : FitMark → Rat) : Rat := dsum (ms.map f)
  let (sxx, sxy, syy) := scatter ms
  let norm := sm fun m => dnorm2 (dsub m.x mx) (dsub m.y my)
  let rot := if norm = 0 then th else ddiv (sm fun m => dsub (dmul (dsub m.x mx) m.ey) (dmul (dsub m.y my) m.ex)) norm
  let det := dsub (dmul sxx syy) (dmul sxy sxy)
  let ixx := ddiv syy det
  let ixy := ddiv (-sxy) det
  let iyy := ddiv sxx det
  let rx := sm fun m => dmul (dsub m.ex tx) (dsub m.x mx)
  let ry := sm fun m => dmul (dsub m.ex tx) (dsub m.y my)
  let qx := sm fun m => dmul (dsub m.ey ty) (dsub m.x mx)
  let qy := sm fun m => dmul (dsub m.ey ty) (dsub m.y my)
  let a : Rat × Rat × Rat × Rat :=
    if model = 0 then (0, 0, 0, 0)
    else if model = 1 then (0, -rot, rot, 0)
    else (dadd (dmul rx ixx) (dmul ry ixy), dadd (dmul rx ixy) (dmul ry iyy), dadd (dmul qx ixx) (dmul qy ixy), dadd (dmul qx ixy) (dmul qy iyy))
  let base : FitResult :=
    { id := id, model := model, n := ms.length, rms := 0, max := 0, drms := 0, dmax := 0, last := (ms.map (·.time)).foldl Nat.max 0,
      fitAt := now, wait := false, spread := spread, res := [], tx := tx, ty := ty, axx := a.1, axy := a.2.1, ayx := a.2.2.1, ayy := a.2.2.2,
      mx := mx, my := my, marks := [] }
  let e (m : FitMark) : Rat × Rat := let u := base.u m.x m.y; (dsub m.ex u.1, dsub m.ey u.2)
  let full : FitResult := if model = 3 then { base with marks := ms.map fun m => (m.x.num, m.y.num, (e m).1, (e m).2) } else base
  let res := ms.map fun m => let u := full.u m.x m.y; (m.k, dsub m.ex u.1, dsub m.ey u.2, m.time)
  let r2 := res.map fun p => dnorm2 p.2.1 p.2.2.1
  let d2 := ms.map fun m => dnorm2 m.ex m.ey
  { full with res := res, rms := figure (dmean r2), max := figure (r2.foldl Max.max 0), drms := figure (dmean d2), dmax := figure (d2.foldl Max.max 0) }

/-- The largest |u|² over grid points within the beam's field exceeds STEP_MAX² (R298). -/
def State.stepTooLarge (s : State) (b : Fin 48) (r : FitResult) : Bool :=
  let q := s.kfField b
  let g := s.gridSpan b
  let lim : Rat := (s.regF 0x0500000C 16 16 : Nat)
  (List.range 129).any fun j => (List.range 129).any fun i =>
    let x : Int := g.1 + g.2.2 * i
    let y : Int := g.2.1 + g.2.2 * j
    decide (q.1 ≤ x) && decide (x ≤ q.2.2.1) && decide (q.2.1 ≤ y) && decide (y ≤ q.2.2.2)
      && (let u := r.u x y; decide (lim * lim < dnorm2 u.1 u.2))

/-! ## Applying a result (R297, R300) -/

/-- The table's rms in force. -/
def State.tabRms (s : State) (b : Fin 48) : Nat := s.tabNat b 52 2

/-- The stitching figure of a pair (R300): shared marks and the RMS; none with no shared mark. -/
def State.stitch (s : State) (a b : Fin 48) : Option (Nat × Nat) :=
  let ca := s.scribe a
  let cb := s.scribe b
  let later := max ca.fitAt cb.fitAt
  let age := s.regF 0x05000010 16 16 * second
  let shared := ca.resid.filterMap fun p => match cb.resid.find? fun q => q.1 == p.1 with
    | some q => if later ≤ p.2.2.2 + age ∧ later ≤ q.2.2.2 + age then some (p.2.1 - q.2.1, p.2.2.1 - q.2.2.1) else none
    | none => none
  if shared.isEmpty then none
  else some (shared.length, sqrtRound ((shared.map fun d => d.1 * d.1 + d.2 * d.2).sum / (shared.length : Rat)))

/-- SCB_STITCH of a beam from its worst pair (R300). -/
def State.setStitch (s : State) (b : Fin 48) : State :=
  let pairs := beams.filterMap fun o => if o = b then none else (s.stitch b o).map fun r => (o, r.2)
  let worst := pairs.foldl (fun acc p => match acc with
    | none => some p
    | some q => if q.2 < p.2 then some p else some q) (none : Option (Fin 48 × Nat))
  s.setReg (scb b 0x1C) (match worst with
    | none => 0xFFFF
    | some p => BitVec.ofNat 32 (p.2 + 65536 * p.1.val))

/-- Stitching after beam b applied a result (R300). -/
def State.stitchAll (s : State) (b : Fin 48) : State :=
  let s := beams.foldl (fun st o => st.setStitch o) s
  beams.foldl (fun st o =>
    if o = b then st
    else match st.stitch b o with
      | none => st
      | some r =>
        if st.regF 0x05000010 0 16 < r.2 then
          st.raise 0x0702 1 0 [0, b] (leBytes 1 b.val ++ leBytes 1 o.val ++ leBytes 2 r.1 ++ leBytes 2 r.2 ++ leBytes 2 0)
        else st) s

/-- An s32 sum that saturates. -/
def sat32 (v : Int) : Int := clampInt (-2147483648) 2147483647 v

/-- The fitted correction added to the table, with its header (R297). -/
def State.applyTable (s : State) (b : Fin 48) (r : FitResult) : State :=
  let g := s.gridSpan b
  let base := tableBase b
  let k (o : Nat) : Rat := mkRat (s.tabS32 b o) (2 ^ 28)
  let pts := (List.range 129).flatMap fun j => (List.range 129).map fun i => (i, j)
  let rd (q : Rat) : Int := roundHalfAway q.num q.den
  let s := pts.foldl (fun st e =>
    let u := r.u ((g.1 + g.2.2 * e.1 : Int) : Rat) ((g.2.1 + g.2.2 * e.2 : Int) : Rat)
    let a := base + 80 + (e.2 * 129 + e.1) * 12
    let dx := sat32 (st.gridPt b e.1 e.2 0 + rd (dmul 256 (dadd (dmul (k 16) u.1) (dmul (k 20) u.2))))
    let dy := sat32 (st.gridPt b e.1 e.2 1 + rd (dmul 256 (dadd (dmul (k 24) u.1) (dmul (k 28) u.2))))
    st.writeMem a (leBytes 4 (unsignedOf 32 dx) ++ leBytes 4 (unsignedOf 32 dy))) s
  let s := s.writeMem (base + 7) [1]
  let s := s.writeMem (base + 52) (leBytes 2 r.rms ++ leBytes 2 r.max ++ leBytes 4 (s.tabNat b 56 4 + 1) ++ timeBytes r.last)
  s.writeMem (base + 200800) (leBytes 4 (crc32c (s.readMem base 200800)).toNat)

/-- A result is applied (R297). -/
def State.applyResult (s : State) (b : Fin 48) (r : FitResult) : State :=
  let s := s.applyTable b r
  let s := ((s.count (scb b 4)).count 0x05000040).setReg (scb b 0x24) 0
  let s := s.onScribe b fun c => { c with result := none, resid := r.res, fitAt := r.fitAt }
  (s.scribeResult b r.id 0 r.model r.n r.rms r.max r.drms r.dmax).stitchAll b

/-- Whether a result may be applied now (R297). -/
def State.mayApply (s : State) (b : Fin 48) : Bool :=
  (s.mode.mode == .config || s.mode.mode == .idle || s.mode.mode == .calibrate || s.mode.mode == .recoat) && (s.scribe b).scan.isNone

/-- A result is applied, or waits as APPLY_PENDING (R297). -/
def State.applyOrWait (s : State) (b : Fin 48) (r : FitResult) : State :=
  if s.mayApply b then s.applyResult b r
  else s.onScribe b fun c => { c with result := some { r with wait := true } }

/-- A pending result is applied at the first moment that allows it (R297). -/
def State.applyPending (s : State) (b : Fin 48) : State :=
  match (s.scribe b).result with
  | some r => if r.wait && s.mayApply b then s.applyResult b r else s
  | none => s

/-- The fit of a pass whose marks are all attempted (R294-R298). -/
def State.passFit (s : State) (b : Fin 48) : State :=
  let c := s.scribe b
  match c.pass with
  | none => s
  | some p =>
    if c.scan.isSome ∨ s.allAttempted b = false then s
    else
      let good := c.meas.filter fun m => m.2.valid
      let marks : List FitMark := (sortBy (fun (m : Nat × Meas) => m.1) good).map fun m => let f := s.fid m.1; ⟨m.1, f.x, f.y, dbl m.2.ex, dbl m.2.ey, m.2.time⟩
      let n := marks.length
      let col := collinear (scatter marks) n
      if n < leastMarks p.model ∨ (2 ≤ p.model ∧ col = true) then s.passFails b p.model n
      else
        let id := s.scribeIds
        let d := s.draw
        let s : State := if p.model = 1 ∧ (marks.all fun m => m.x == (marks.map (·.x)).headD 0 && m.y == (marks.map (·.y)).headD 0) then d.2 else s
        let r := fitOf (BitVec.ofNat 32 id) p.model (s.reg 0x0500001C).toNat marks (d.1 : Nat) s.now
        let s := { s with scribeIds := id + 1 }.setReg (scb b 0x28) (BitVec.ofNat 32 (r.drms + 65536 * r.dmax))
        let s := (good.foldl (fun (st : State) m =>
          let e := (r.res.find? fun x => x.1 == m.1).map fun x => (x.2.1, x.2.2.1)
          st.writeMeas b m.1 m.2 (e.map (·.1) |>.getD 0) (e.map (·.2) |>.getD 0)) s).onScribe b fun c => { c with pass := none }
        let old := s.tabRms b
        let held := (old != 0xFFFF && decide (old + s.regF 0x0500000C 0 16 < r.rms)) || s.stepTooLarge b r || s.regB 0x05000000 1 || p.hold
        if held then
          let s := (s.onScribe b fun c => { c with result := some r }).setReg (scb b 0x24) r.id
          (s.note 0x0781 1 0 [0, b] (leBytes 4 id ++ leBytes 2 r.rms ++ leBytes 2 r.max)).scribeResult b r.id 1 r.model r.n r.rms r.max r.drms r.dmax
        else s.applyOrWait b r

/-- SCRIBE_CONFIRM of a held result (R298): 1 applies it, 2 rejects it, which SCRIBE_RESULT reports. -/
def State.confirm (s : State) (b : Fin 48) (action : Nat) : State :=
  match (s.scribe b).result with
  | none => s
  | some r =>
    let s := s.setReg (scb b 0x24) 0
    if action = 1 then s.applyOrWait b r
    else (s.onScribe b fun c => { c with result := none }).scribeResult b r.id 3 r.model r.n r.rms r.max r.drms r.dmax

/-- Whether a beam holds a result with an identifier (R299). -/
def State.holds (s : State) (b : Fin 48) (id : Word) : Bool :=
  match (s.scribe b).result with
  | some r => !r.wait && r.id == id
  | none => false

/-! ## The host's tables (R285, R287, R301) -/

/-- Beam n's staging slot: its offset in the staging area and its bytes. -/
def stageOff (b : Fin 48) : Nat := b.val * 0x40000
def State.stageBytes (s : State) (b : Fin 48) : List Byte := Memory.reads s.front.stage (stageOff b) tableLen

/-- Whether ranges cover [a, z) whole. -/
def coversRange (rs : List (Nat × Nat)) (a z : Nat) : Bool :=
  let pts := (a :: rs.map (·.2)).filter fun p => decide (a ≤ p) && decide (p < z)
  pts.all fun p => rs.any fun r => decide (r.1 ≤ p) && decide (p < r.2)

/-- Whether a beam's slot is valid (R285): written whole by closed transfers, and no transfer into it open. -/
def State.slotValid (s : State) (b : Fin 48) : Bool :=
  let a := stageOff b
  let z := a + tableLen
  let open_ := s.front.transfers.any fun t => t.kind == 3 && decide (t.offset < z) && decide (a < t.offset + t.length)
  !open_ && coversRange s.front.stageOk a z

/-- The check of a target beam's staged table. -/
def State.tableFail (s : State) (b : Fin 48) : Option (Nat × Nat) := tableCheck b (s.slotValid b) (s.stageBytes b)

/-- A beam takes the table in its slot (R285, R301): a pass in progress restarts, a waiting result is rejected; a table in error stops being so. -/
def State.loadTable (s : State) (b : Fin 48) : State :=
  let c := s.scribe b
  let s := ((s.writeMem (tableBase b) (s.stageBytes b)).onScribe b fun c => { c with table := .loaded }).count (scb b 4)
  let s := s.setReg (scb b 0x2C) 0
  let s := if c.pass.isSome then s.restartPass b else s
  let s : State := match c.result with
    | some r => ((s.onScribe b fun c => { c with result := none }).setReg (scb b 0x24) 0).scribeResult b r.id 3 r.model r.n r.rms r.max r.drms r.dmax
    | none => s
  if (s.chan b).fails.contains .scribeTable then
    (s.onChan b fun ch => { ch with fails := ch.fails.filter (· ≠ .scribeTable) }).settle (.beam b)
  else s

/-- SCRIBE_FIDUCIALS accepted (R288, R301): every measurement and held result is discarded and every pass restarts; a result that waits to be applied stays. What
was measured for stitching goes with the measurements, and a scan under way is given up, as its mark may have moved (log entry 17). -/
def State.fiducialsChanged (s : State) : State :=
  beams.foldl (fun st b =>
    let st := if (st.scribe b).scan.isSome then st.scanStop b else st
    ((st.restartPass b).onScribe b fun c => { c with result := c.result.filter (·.wait), resid := [] }).setReg (scb b 0x24) 0) s

/-- An uncorrectable error in a table (R30, R284, R301), before the beam fails. -/
def State.tableBad (s : State) (b : Fin 48) : State :=
  ((s.restartPass b).onScribe b fun c => { c with table := .restoreNeeded, pass := none, result := none }).setReg (scb b 0x24) 0

end Sys2Proof.Machine
end

