-- ==== Sys2Proof/Machine/Beam.lean ====
section
/-! DEFINITION. The beam channels (04_beam_ports.md): the mortise frames, return frames and their checks, the tenon power words and gate,
beam failures, enabling, and raster sync. -/

namespace Sys2Proof.Machine

open Sys2Proof

/-! ## Modes (R45) -/

/-- The modes in which BEAM and SENSE run. -/
def Mode.beamOn : Mode → Bool
  | .calibrate | .preheat | .recoat | .expose | .pause | .hold | .service => true
  | _ => false

/-- The modes in which the DRIVE domain runs (R24). -/
def Mode.driveOn : Mode → Bool
  | .sill | .boot | .update => false
  | _ => true

/-- The laser modes (R47). -/
def Mode.isLaser : Mode → Bool
  | .calibrate | .preheat | .recoat | .expose | .service => true
  | _ => false

/-- The ceiling of a mode's power words (R125); none where the mode emits none. -/
def State.modeCeiling (s : State) (b : Fin 48) : Option Nat :=
  match s.mode.mode with
  | .calibrate | .recoat => some (s.regF (beamReg b 0x201C) 0 16)
  | .service => some (s.regF (beamReg b 0x201C) 16 16)
  | .preheat | .expose => some 0xFFFF
  | _ => none

/-! ## Registers of the page -/

def mtConfig (b : Fin 48) : Nat := beamReg b 0x1000
def mtStatus (b : Fin 48) : Nat := beamReg b 0x1008
def actReg (b : Fin 48) (k : Nat) : Nat := beamReg b (0x100C + 4 * k)
def tnStatus (b : Fin 48) : Nat := beamReg b 0x200C

/-- ENABLE, RX_LOCK, POS_ACTIVE, and RDY and ALM after their filters. -/
def State.beamEnabled (s : State) (b : Fin 48) : Bool := s.regB (mtConfig b) 0
def State.rxLock (s : State) (b : Fin 48) : Bool := s.regB (mtStatus b) 0
def State.posActive (s : State) (b : Fin 48) : Bool := s.regB (mtStatus b) 1

/-- An actual position. -/
def State.actual (s : State) (b : Fin 48) : Int × Int × Int := (s32 (s.reg (actReg b 0)), s32 (s.reg (actReg b 1)), s32 (s.reg (actReg b 2)))

/-- GATE is held low by a latch, a beam failure or the mode (R148); a failure holds it as long as the beam is in FAULT. DESIGN CHOICE (log entry 83): a beam that is
merely disabled, whose GATE R138 drives low, shows FORCED_OFF as 1 too. -/
def State.gateForced (s : State) (b : Fin 48) : Bool :=
  s.safety.laserLatch || !(s.chan b).fails.isEmpty || s.unitState (.beam b) == stFault || (s.modeCeiling b).isNone || !s.beamEnabled b

/-- GATE goes low now, if it is not low already. -/
def State.gateLow (s : State) (b : Fin 48) : State :=
  if s.regB (tnStatus b) 2 then (s.setB (tnStatus b) 2 false).emit (.gateEdge b s.now false) else s

/-- The gates of all beams are forced low (R59). -/
def State.gatesLow (s : State) : State := beams.foldl (fun st b => if st.gateForced b then st.gateLow b else st) s

/-! ## Frames (R114, R115, R117, R124) -/

/-- A forward frame. -/
def forwardFrame (seq cmd : Nat) (x y z : Int) : BitVec 100 :=
  let body := ((((12 * 16 + seq % 16) * 16 + cmd % 16) * 2 ^ 24 + unsignedOf 24 x) * 2 ^ 24 + unsignedOf 24 y) * 2 ^ 24 + unsignedOf 24 z
  BitVec.ofNat 100 (body * 65536 + crc16 80 (body % 2 ^ 80))

/-- A return frame's fields: valid SYNC and CRC, NACK, SEQ, SEL, VALUE. -/
def returnFields (f : BitVec 50) : Bool × Bool × Nat × Nat × Nat :=
  let v := f.toNat
  (v / 2 ^ 47 == 6 && v % 65536 == crc16 31 (v / 65536 % 2 ^ 31), v / 2 ^ 46 % 2 == 1, v / 2 ^ 42 % 16, v / 2 ^ 40 % 4, v / 65536 % 2 ^ 24)

/-- Bit times 3-24 of a PWR frame: POWER, EMIT and CRC-5. -/
def pwrFrame (word : Nat) (emit : Bool) : BitVec 22 :=
  let v := word % 65536 * 2 + bit emit
  BitVec.ofNat 22 (v * 32 + crc5 17 v)

/-! ## Beam failure (R131-R134) -/

/-- The class code of a cause (R462). -/
def FailCause.cls : FailCause → Nat
  | .laserAlarm => 1
  | .scannerFault => 2
  | .scannerLink => 3
  | .scannerTracking => 4
  | .scribeTable => 0x0B
  | .laserNotReady => 5
  | .rasterSync => 6
  | .hostDisabled => 7

/-- The order of R133 among the class codes, LASER_ALARM first. -/
def failOrder : List Nat := [1, 2, 3, 4, 0x0B, 5, 6, 7]

/-- A BEAM cycle of a time. -/
def beamCycle (t : Nat) : Nat := t / cyc

/-- The FAULT record that a beam's failure of this BEAM cycle has written takes another class (R133). -/
def State.reclass (s : State) (b : Fin 48) (cls : Nat) : State :=
  let mine (r : TRec) : Bool := r.type == recEvent && r.body.take 2 == leBytes 2 1 && (r.body.drop 4).take 4 == path4 [0, b] && beamCycle r.time == beamCycle s.now
  let fix (r : TRec) : TRec := if mine r then { r with body := updAt (updAt r.body 3 fun _ => BitVec.ofNat 8 cls) 17 fun _ => BitVec.ofNat 8 cls } else r
  let s := s.setF (statusReg (.beam b)) 8 8 cls
  { s with tally := { s.tally with writing := s.tally.writing.map fix, pre := s.tally.pre.map fix, staged := s.tally.staged.map fix } }

/-- A cause is recorded (R42, R133): causes of one BEAM cycle make one failure, whose class is the first of them in the order of R133; a cause in a beam that is
in FAULT since an earlier cycle writes a record of its own. -/
def State.failRecord (s : State) (b : Fin 48) (cls : Nat) : State :=
  let now := beamCycle s.now
  if s.unitState (.beam b) = stFault ∧ (s.chan b).failedAt = some now then
    if failOrder.idxOf cls < failOrder.idxOf (s.regF (statusReg (.beam b)) 8 8) then s.reclass b cls else s
  else
    let s := if s.unitState (.beam b) = stFault then s else s.onChan b fun ch => { ch with failedAt := some now }
    s.unitFault (.beam b) stFault cls (leBytes 1 (s.regF (beamReg b 0x1018) 8 8))

/-- A beam failure (R132): the gate is low, Truss is told through the engine, the unit enters FAULT. HOST_DISABLED has cleared as soon as
it is taken (R138). -/
def State.beamFail (s : State) (b : Fin 48) (c : FailCause) : State :=
  let s := s.onChan b fun ch => { ch with
    fails := if c = FailCause.hostDisabled ∨ ch.fails.contains c = true then ch.fails else ch.fails ++ [c], jog := none }
  let s := s.gateLow b
  let s : State := if c = FailCause.scannerLink then
      ((s.count (beamReg b 0x1024)).setF (mtStatus b) 0 2 0).onChan b fun ch => { ch with goodRun := 0, badRun := 0, nackRun := 0, nacks := [], invalids := [], haveSet := 0 }
    else s
  let s := (((s.failEngine b).plumbFail b).grainFail b).scribeFail b
  s.failRecord b c.cls

/-- A cause has ended (R42, R138). -/
def State.causeEnds (s : State) (b : Fin 48) (c : FailCause) : State :=
  if (s.chan b).fails.contains c then (s.onChan b fun ch => { ch with fails := ch.fails.filter (· ≠ c) }).settle (.beam b) else s

/-- A DEGRADED cause begins or ends. The record of one that the scanner reports carries its CODE (R118). -/
def State.degrade (s : State) (b : Fin 48) (d : DegCause) (cls : Nat) (extra : List Byte := []) : State :=
  if (s.chan b).degs.contains d then s
  else (s.onChan b fun ch => { ch with degs := d :: ch.degs }).unitFault (.beam b) stDegraded cls extra
def State.degradeEnds (s : State) (b : Fin 48) (d : DegCause) : State :=
  if (s.chan b).degs.contains d then (s.onChan b fun ch => { ch with degs := ch.degs.filter (· ≠ d) }).settle (.beam b) else s

/-! ## Gating, lock and attachment (R119, R120) -/

/-- A port starts sending IDLE frames. -/
def State.portStart (s : State) (b : Fin 48) (startAt : Option Nat) : State :=
  (s.setF (mtStatus b) 0 2 0).onChan b fun c => { c with
    running := true, idleLeft := 0, selNext := 4, goodRun := 0, badRun := 0, nackRun := 0, nacks := [], invalids := [], haveSet := 0, startAt := startAt
    trackX := 0, trackY := 0, trackZ := 0 }

/-- A port sends 16 more IDLE frames and stops its clock. -/
def State.portStop (s : State) (b : Fin 48) : State :=
  if (s.chan b).running then (s.setF (mtStatus b) 0 2 0).onChan b fun c => { c with idleLeft := 16, jog := none, startAt := none } else s

/-- The lags in the registers are taken into force (R129). -/
def State.takeLags (s : State) (b : Fin 48) : State :=
  s.onChan b fun c => { c with scanLag := s.regF (mtConfig b) 8 11, gateLag := s.regF (beamReg b 0x2004) 0 16, pwrLag := s.regF (beamReg b 0x2004) 16 16 }

/-- The BEAM domain starts: every enabled port starts, with the lock time running (R119). Its control frames are counted from the first PWR frame boundary then, as
a control frame is one (R223). DEDUCED (log 87). -/
def State.beamStart (s : State) : State :=
  let s := { s with power := { s.power with beamStart := ceilDiv s.now 500 * 500 } }
  beams.foldl (fun st b => let st := st.takeLags b; if st.beamEnabled b then st.portStart b (some st.now) else st) s

/-- AOUT goes to 0 V, where it carried the power until now (R127). -/
def State.aoutRest (s : State) (b : Fin 48) : State := if 2 ≤ s.regF (beamReg b 0x2000) 0 2 then s.emit (.aout b 0) else s

/-- The BEAM domain stops (R119): every port's last IDLE frames follow; no plan is left, and AOUT rests. -/
def State.beamStop (s : State) : State :=
  beams.foldl (fun st b => (((st.portStop b).gateLow b).aoutRest b).onKerf b fun k =>
    { k with coast := [], planned := [], gates := [], rels := [], past := [] }) s

/-- The clock that a check of the attachment started while BEAM is gated stops again (R24, R120). -/
def State.checkEnds (s : State) (b : Fin 48) : State := if s.mode.mode.beamOn then s else s.portStop b

/-- The beam leaves ABSENT when its link has locked and RDY has been seen active (R42, R120), which completes the check. -/
def State.checkAttach (s : State) (b : Fin 48) : State :=
  let c := s.chan b
  if s.unitState (.beam b) = stAbsent ∧ s.beamEnabled b = true ∧ c.linkSeen = true ∧ c.rdySeen = true then (s.setUnit (.beam b) stOk).checkEnds b else s

/-- One run of the attachment check (R120). While BEAM is gated the port's clock runs for it and stops again after it, also for a beam that is no longer
ABSENT. -/
def State.attachCheck (s : State) (b : Fin 48) (locked rdy alm : Bool) : State :=
  if s.beamEnabled b = false then s
  else if s.unitState (.beam b) ≠ stAbsent then s.checkEnds b
  else
    let s := if s.mode.mode.beamOn then s else (s.portStart b none).portStop b
    let s := ((s.setB (tnStatus b) 0 rdy).setB (tnStatus b) 1 alm).onChan b fun c => { c with linkSeen := c.linkSeen || locked, rdySeen := c.rdySeen || rdy }
    let s := s.checkAttach b
    if alm then s.beamFail b .laserAlarm else s

/-- A beam is enabled (R138): a DISABLED unit is ABSENT until its check completes (log entry 20). -/
def State.enableBeam (s : State) (b : Fin 48) : State :=
  if s.beamEnabled b then s
  else
    let s := (s.setB (mtConfig b) 0 true).onChan b fun c => { c with linkSeen := false, rdySeen := false }
    let s := s.portStart b none
    if s.unitState (.beam b) = stDisabled then s.setUnit (.beam b) stAbsent else s

/-- Whether a beam still has records in the active layer (R139): until its main stream begins it has them all. -/
def State.hasRecords (s : State) (b : Fin 48) : Bool :=
  let k := s.kerf b
  s.layerLive && s.inMask b && !k.failed && (!s.layers.mainBegun || k.engine != .done)

/-- A beam is disabled (R138, R139). -/
def State.disableBeam (s : State) (b : Fin 48) : State :=
  let s : State := if (s.mode.mode = .pause ∨ s.mode.mode = .hold) ∧ s.hasRecords b = true then s.beamFail b .hostDisabled else s
  let s : State := if s.beamEnabled b then ((s.setB (mtConfig b) 0 false).gateLow b).portStop b else s
  let st := s.unitState (.beam b)
  if st = stOk ∨ st = stUnverified ∨ st = stAbsent then s.setUnit (.beam b) stDisabled else s

/-- The return link locks after eight valid frames in a row (R119): the tap is chosen, and the link cause of a failure has ended. DESIGN CHOICE (log entry
84): with the link locked, POS frames begin again although the beam is still in FAULT, holding the actual position; R132 asks for IDLE frames after SCANNER_LINK
and does not say until when. -/
def State.returnLock (s : State) (b : Fin 48) (tap : Nat) : State :=
  let c := s.chan b
  if c.running = false ∨ s.rxLock b = true ∨ c.goodRun < 8 then s
  else
    let s := ((s.setB (mtStatus b) 0 true).setF (mtStatus b) 8 6 tap).onChan b fun c => { c with
      lockedAt := s.now, haveSet := 0, startAt := none, linkSeen := true, trackX := 0, trackY := 0, trackZ := 0 }
    (s.causeEnds b .scannerLink).checkAttach b

/-- An enabled beam that has not locked 1 ms after the domain start fails (R119). -/
def State.lockTimeout (s : State) (b : Fin 48) : State :=
  match (s.chan b).startAt with
  | none => s
  | some t =>
    let s := s.reach (t + milli)
    if s.rxLock b then s else (s.onChan b fun c => { c with startAt := none }).beamFail b .scannerLink

/-- The bed position whose conversion by the nominal map is a field position (log entry 21). -/
def State.bedOf (s : State) (b : Fin 48) (f : Int × Int × Int) : Pt :=
  let a := s.tabS32 b 16
  let c := s.tabS32 b 20
  let d := s.tabS32 b 24
  let e := s.tabS32 b 28
  let det := a * e - c * d
  let kz := s.tabS32 b 32
  let q (n m : Int) : Int := if m = 0 then 0 else if 0 < m then roundHalfAway n m.toNat else roundHalfAway (-n) (-m).toNat
  ⟨s.tabS32 b 8 + q ((e * f.1 - c * f.2.1) * 2 ^ 28) det, s.tabS32 b 12 + q ((a * f.2.1 - d * f.1) * 2 ^ 28) det, q (f.2.2 * 2 ^ 28) kz⟩

/-- POS frames begin at the actual position (R119); an engine that runs no plan stands there. -/
def State.posBegin (s : State) (b : Fin 48) : State :=
  let f := s.actual b
  let s := (s.setB (mtStatus b) 1 true).onChan b fun c => { c with hold := f, targets := [] }
  if (s.kerf b).engine.runs then s else s.onKerf b fun k => { k with coast := [], pos := s.bedOf b f, raw := s.bedOf b f }

/-! ## Return frames (R117, R118, R121-R123) -/

/-- The window of R122: 4,096 ticks. -/
def nackWindow : Nat := 4096 * tickNs

/-- Whether the record under way on the bed is a jump that suspends the tracking check (R123, R157). -/
def State.uncheckedJump (s : State) (b : Fin 48) : Bool :=
  (s.kerf b).rels.any fun r => decide (r.start ≤ s.now) && decide (s.now < r.complete) && r.record.ty == tyJump && r.record.flags.getLsbD 1

/-- The tracking check of one axis sample (R123): the run of samples beyond the limit. -/
def State.trackRun (s : State) (b : Fin 48) (old : Nat) (v t : Int) : Nat :=
  if s.posActive b = false ∨ s.now < (s.chan b).lockedAt + 2 * milli ∨ s.uncheckedJump b = true then 0
  else if (s.regF (beamReg b 0x1004) 0 24 : Int) < (v - t).natAbs then old + 1 else 0

/-- A NACK (R121): one repaired forward frame, its record, and at most one alert a second. -/
def State.nackSeen (s : State) (b : Fin 48) : State :=
  let s := s.count (beamReg b 0x101C)
  let s := s.onChan b fun c => { c with
    nackRun := c.nackRun + 1, repairs := c.repairs + 1, nacks := s.now :: c.nacks.filter fun t => decide (s.now < t + nackWindow) }
  let c := s.chan b
  let pl := leBytes 4 c.repairs ++ leBytes 2 c.nacks.length ++ leBytes 2 0
  let q := s.tallyEvent 0x0400 1 0 [0, b] pl
  let free := match c.repairAt with
    | none => true
    | some t => decide (t + second ≤ s.now)
  if free then (q.1.onChan b fun c => { c with repairs := 0, repairAt := some s.now }).alert 0x0400 1 (tallyLow q.2) (q.1.fullPath [0, b]) pl
  else q.1

/-- A scanner status word (R118). -/
def State.servoStatus (s : State) (b : Fin 48) (v : Nat) : State :=
  let s := ((s.setReg (beamReg b 0x1018) (BitVec.ofNat 32 v)).setB (mtStatus b) 2 (v.testBit 0)).setB (mtStatus b) 3 (v.testBit 2)
  let bad := (!v.testBit 0 && s.posActive b) || v.testBit 1 || v.testBit 4
  let s := if v.testBit 2 then s.degrade b .scannerTemp 8 (leBytes 1 (v / 256 % 256)) else s.degradeEnds b .scannerTemp
  if bad then (if (s.chan b).fails.contains .scannerFault then s else s.beamFail b .scannerFault) else s.causeEnds b .scannerFault

/-- One actual position (R117, R123). -/
def State.actualSeen (s : State) (b : Fin 48) (sel : Nat) (v : Int) : State :=
  let c := s.chan b
  let sent := c.targets.getD c.scanLag c.hold
  let s := s.setReg (actReg b sel) (wordOfInt v)
  let s := s.onChan b fun c => { c with
    haveSet := if c.haveSet < 8 then Nat.lor c.haveSet (2 ^ sel) else c.haveSet
    trackX := if sel = 0 then s.trackRun b c.trackX v sent.1 else c.trackX
    trackY := if sel = 1 then s.trackRun b c.trackY v sent.2.1 else c.trackY
    trackZ := if sel = 2 then s.trackRun b c.trackZ v sent.2.2 else c.trackZ }
  let c := s.chan b
  let s : State := if c.haveSet = 7 ∧ s.rxLock b = true ∧ s.posActive b = false then s.posBegin b else s
  if c.trackX = 0 ∧ c.trackY = 0 ∧ c.trackZ = 0 then s.causeEnds b .scannerTracking else s

/-- A return frame arrives (R117). -/
def State.returnFrame (s : State) (b : Fin 48) (f : BitVec 50) : State :=
  if (s.chan b).running = false then s
  else
    let r := returnFields f
    let sel := r.2.2.2.1
    let want := (s.chan b).selNext
    if r.1 = false ∨ (sel ≠ want ∧ want ≠ 4) then
      (s.count (beamReg b 0x1020)).onChan b fun c => { c with
        goodRun := 0, badRun := c.badRun + 1, nackRun := 0, selNext := if r.1 then (sel + 1) % 4 else if want = 4 then 4 else (want + 1) % 4
        invalids := s.now :: c.invalids.filter fun t => decide (s.now < t + nackWindow) }
    else
      let s := (s.setF (mtStatus b) 16 4 r.2.2.1).onChan b fun c => { c with
        goodRun := c.goodRun + 1, badRun := 0, selNext := (sel + 1) % 4, nackRun := if r.2.1 then c.nackRun else 0 }
      let s := if r.2.1 then s.nackSeen b else s
      if sel = 3 then s.servoStatus b r.2.2.2.2 else s.actualSeen b sel (signed 24 r.2.2.2.2)

/-- Whether link errors have reached the escalation limit (R122). -/
def State.linkBad (s : State) (b : Fin 48) : Bool :=
  let c := s.chan b
  decide (3 ≤ c.nackRun) || decide (8 < c.nacks.length) || decide (16 ≤ c.badRun) || decide (32 < c.invalids.length)

/-- The escalation of link errors (R122). -/
def State.linkEscalation (s : State) (b : Fin 48) : State :=
  if s.linkBad b = true ∧ (s.chan b).running = true then s.beamFail b .scannerLink else s

/-- The escalation of tracking errors (R123). -/
def State.trackFail (s : State) (b : Fin 48) : State :=
  let c := s.chan b
  let n := s.regF (beamReg b 0x1004) 24 8
  if n ≤ max c.trackX (max c.trackY c.trackZ) ∧ n ≠ 0 ∧ s.posActive b = true then s.beamFail b .scannerTracking else s

/-! ## RDY and ALM (R130) -/

/-- The time from which an inactive RDY fails a beam. -/
def State.graceEnd (s : State) (b : Fin 48) : Nat := s.mode.graceFrom + s.regF (beamReg b 0x2000) 16 16 * milli

/-- Whether an inactive RDY is a failure now. -/
def State.rdyFails (s : State) (b : Fin 48) : Bool :=
  s.beamEnabled b && s.mode.mode.isLaser && !s.safety.laserLatch && decide (s.graceEnd b ≤ s.now) && !s.regB (tnStatus b) 0

def State.almActive (s : State) (b : Fin 48) : State :=
  let s := s.setB (tnStatus b) 1 true
  if s.beamEnabled b then s.beamFail b .laserAlarm else s
def State.almInactive (s : State) (b : Fin 48) : State := (s.setB (tnStatus b) 1 false).causeEnds b .laserAlarm
def State.rdyInactive (s : State) (b : Fin 48) : State :=
  let s := s.setB (tnStatus b) 0 false
  if s.rdyFails b then s.beamFail b .laserNotReady else s
def State.rdyActive (s : State) (b : Fin 48) : State :=
  (((s.setB (tnStatus b) 0 true).onChan b fun c => { c with rdySeen := true }).causeEnds b .laserNotReady).checkAttach b
def State.rdyGraceEnd (s : State) (b : Fin 48) : State :=
  let s := s.reach (s.graceEnd b)
  if s.rdyFails b && !(s.chan b).fails.contains .laserNotReady then s.beamFail b .laserNotReady else s

/-! ## The scanner tick (R114-R116, R124-R129) -/

/-- One step of a jog along one axis (log entry 22). -/
def jogStep (p q : Int) (step : Nat) : Int := if q < p then max q (p - step) else min q (p + step)

/-- The field target of a tick, and the channel with it (R119, R140, R284). -/
def State.tickTarget (s : State) (b : Fin 48) (n : Nat) : (Int × Int × Int) × State :=
  let c := s.chan b
  if c.haveSet = 7 then (c.hold, s.onChan b fun c => { c with haveSet := 8 })
  else match c.jog with
    | some j =>
      let h := (jogStep c.hold.1 j.1 j.2.2.2, jogStep c.hold.2.1 j.2.1 j.2.2.2, jogStep c.hold.2.2 j.2.2.1 j.2.2.2)
      (h, s.onChan b fun c => { c with hold := h })
    | none =>
      let k := s.kerf b
      if (s.scribe b).table ≠ .loaded then (s.actual b, s.onChan b fun c => { c with hold := s.actual b })
      else if k.allSegs.isEmpty then (c.hold, s)
      else
        let q := s.toField b (k.target (n + c.scanLag))
        (q.1, q.2.onChan b fun c => { c with hold := q.1 })

/-- A tick of one mortise port: its forward frame, and the end of a stopping port. -/
def State.mortiseTick (s : State) (b : Fin 48) (n : Nat) : State :=
  let c := s.chan b
  if c.running = false then s
  else if 0 < c.idleLeft ∨ s.posActive b = false then
    let s := (s.onChan b fun c => { c with seq := c.seq + 1, idleLeft := c.idleLeft - 1, running := c.idleLeft != 1 }).emit (.mortise b (forwardFrame (c.seq + 1).toNat 0 0 0 0))
    s
  else
    let q := s.tickTarget b n
    let x := q.1
    let travel := match c.targets.head? with
      | some p => isqrt ((x.1 - p.1) * (x.1 - p.1) + (x.2.1 - p.2.1) * (x.2.1 - p.2.1)).toNat
      | none => 0
    let s := q.2.rings fun r => { r with travel := updAt r.travel b fun v => v + travel }
    (s.onChan b fun c => { c with seq := c.seq + 1, targets := (x :: c.targets).take (c.scanLag + 2) }).emit
      (.mortise b (forwardFrame (c.seq + 1).toNat 1 x.1 x.2.1 x.2.2))

/-- The power word of a frame (R125, R126) and whether a ceiling limited it. -/
def State.powerWord (s : State) (b : Fin 48) (power : Nat) : Nat × Bool :=
  let raw := min (power * (s.plumb b).m / 16384) 0xFFFF
  match s.modeCeiling b with
  | none => (0, false)
  | some c => if s.gateForced b then (0, decide (c < raw)) else (min raw c, decide (c < raw))

/-- The gate interval that a PWR frame's bed interval meets, or the next one (R126, R129). -/
def Kerf.gateFor (k : Kerf) (t : Nat) : Option GateIv := k.gates.find? fun g => decide (t < g.stop)

/-- Whether a beam's plan has the gate open at a bed time. -/
def Kerf.openAt (k : Kerf) (t : Nat) : Bool := k.gates.any fun g => decide (g.start ≤ t) && decide (t < g.stop)

/-- GATE at a time from which its edges are not yet emitted: what the plan says GATE_LAG later (R129), or low. -/
def State.gateLevel (s : State) (b : Fin 48) (t : Nat) : Bool := !s.gateForced b && (s.kerf b).openAt (t + (s.chan b).gateLag * cyc)

/-- A PWR frame on an even tick (R124-R127, R129); EMIT is GATE at its start. -/
def State.tenonFrame (s : State) (b : Fin 48) : State :=
  let t := s.now / tickNs * tickNs
  let c := s.chan b
  let bed := t + c.pwrLag * cyc
  let gate := (s.kerf b).gateFor bed
  let inForce := match gate with
    | some g => decide (g.start < bed + 500)
    | none => false
  let n := ceilDiv bed tickNs
  let s : State := if s.beamEnabled b && s.mode.mode.beamOn then
      s.formM b (match gate with | some g => g.profile | none => (s.plumb b).profile) (s.gFrame b n) (match gate with | some g => g.noFF | none => false)
    else s
  let power := match gate with
    | some g => if inForce || s.regB (beamReg b 0x2000) 4 then g.power else 0
    | none => 0
  let w := s.powerWord b power
  let s := if w.2 then s.count (beamReg b 0x2018) else s
  let s := (s.setF (tnStatus b) 16 16 w.1).onChan b fun c => { c with words := ((t, w.1) :: c.words).take 300 }
  let out := s.regF (beamReg b 0x2000) 0 2
  let s := if out % 2 = 1 then s.emit (.pwr b (pwrFrame w.1 (s.gateLevel b t))) else s
  if 2 ≤ out then s.emit (.aout b (BitVec.ofNat 16 w.1)) else s

/-- The gate edges of one tick, the time for which the gate is open in it, and what R128 drops and merges in it (R128, R129). -/
def State.gateTick (s : State) (b : Fin 48) : State :=
  let t := s.now / tickNs * tickNs
  let lag := (s.chan b).gateLag * cyc
  let k := s.kerf b
  if s.gateForced b then s.gateLow b
  else
    let now (l : List Nat) : Nat := (l.filter fun x => decide (t + lag ≤ x) && decide (x < t + lag + tickNs)).length
    let dropped := now (droppedPulses (s.gateMin b) k.planned)
    let merged := now (mergedGaps (s.gateMin b) k.planned)
    let s := if dropped = 0 then s else s.count (beamReg b 0x2010) dropped
    let s := if merged = 0 then s else s.count (beamReg b 0x2014) merged
    let times := sortBy (fun (x : Nat) => x) ((k.gates.flatMap fun g => [g.start, g.stop]).filter fun x => decide (t + lag ≤ x) && decide (x < t + lag + tickNs)).dedup
    let s := times.foldl (fun st x =>
      let lv := k.openAt x
      if st.regB (tnStatus b) 2 = lv then st
      else
        let st := (st.setB (tnStatus b) 2 lv).emit (.gateEdge b (x - lag) lv)
        match lv, k.gateAt x with
        | true, some g => st.plumbGateOpen b g.profile
        | _, _ => st) s
    let on := (k.gates.map fun g => g.openIn (t + lag)).sum
    if on = 0 then s
    else (s.onKerf b fun k => { k with onNs := k.onNs + on }).rings fun r => { r with gateOn := updAt r.gateOn b fun v => v + on }

/-- An engine whose next record is not in its FIFO when the commit point reaches its frontier starves (R168). -/
def State.starveCheck (s : State) (b : Fin 48) : State :=
  let k := s.kerf b
  let left := match k.stick with
    | some (n, i) => decide (i < (s.layers.stick n).count)
    | none => k.engine == .running && decide (k.next < (s.streamOf b k.preheat).2)
  if (s.mode.mode = .expose ∨ s.mode.mode = .preheat) ∧ k.engine.runs = true ∧ k.starved = false ∧ left = true
      ∧ s.followed b = false ∧ k.frontier ≤ s.commitPoint then
    ((s.onKerf b fun k => { k with starved := true }).count (kfStarved b)).note 0x0380 0 0 [0, b] (leBytes 4 s.layerNo)
  else s

/-- How long a plan keeps a gate that is past: for CAM_TIMEOUT the camera's frame periods that it covers (R241). -/
def State.gatesKept (s : State) (b : Fin 48) : Nat := max milli ((s.regF (beamReg b 0x3100) 8 8 + 2) * (s.plumb b).cam.period)

/-- What a plan keeps that is past: gates and segments of the last millisecond, and the gates that the camera's timeout asks about. -/
def State.prunePlan (s : State) (b : Fin 48) : State :=
  s.onKerf b fun k => { k with
    gates := k.gates.filter fun g => decide (s.now < g.stop + s.gatesKept b)
    planned := k.planned.filter fun g => decide (s.now < g.stop + milli)
    coast := let l := k.coast.filter fun g => decide (s.now < g.last * tickNs + milli)
             if l.isEmpty then k.coast.drop (k.coast.length - 1) else l }

/-- One scanner tick of the device (R114). -/
def State.scannerTick (s : State) : State :=
  let n := s.now / tickNs
  let even := n % 2 == 0
  beams.foldl (fun st b =>
    if st.mode.mode.beamOn then
      let st := (st.starveCheck b).commitTick b (st.commitPoint / tickNs)
      let st := st.mortiseTick b n
      let st := if even then st.tenonFrame b else st
      ((st.gateTick b).deposit b (n - 1)).prunePlan b
    else st.mortiseTick b n) s

/-- A jog's target is reached (R141). -/
def State.jogDone (s : State) (b : Fin 48) : State :=
  match (s.chan b).jog with
  | none => s
  | some j =>
    if (s.chan b).hold ≠ (j.1, j.2.1, j.2.2.1) then s
    else
      let a (k : Nat) : List Byte := leBytes 4 (s.reg (actReg b k)).toNat
      (s.onChan b fun c => { c with jog := none }).raise 0x0401 0 0 [0, b] (a 0 ++ a 1 ++ a 2)

/-! ## Raster sync (R135-R137) -/

/-- A raster beam's sync, and a change of it; none outside beams 00-07. -/
def State.raster (s : State) (b : Fin 48) : Option Raster := if h : b.val < 8 then some (s.rasters[b.val]'h) else none
def State.onRaster (s : State) (b : Fin 48) (f : Raster → Raster) : State :=
  if h : b.val < 8 then { s with rasters := vmod s.rasters ⟨b.val, h⟩ f } else s

/-- Whether a beam is a raster beam. -/
def State.isRaster (s : State) (b : Fin 48) : Bool := decide (b.val < 8) && s.regB (beamReg b 0x6000) 0

/-- LOCKED and lines suppressed follow the sync (R151): a raster beam's lines are held back while it is not locked, and after a loss until facet 0. -/
def State.rasterBits (s : State) (b : Fin 48) : State :=
  match s.raster b with
  | none => s
  | some r => s.setF (beamReg b 0x600C) 0 2 (if s.isRaster b then bit r.locked + 2 * bit (!r.locked || r.waitZero) else 0)

/-- RST_CONFIG is written (R135, R150): a beam that becomes a raster beam, or stops being one, begins without a lock. -/
def State.rasterConfig (s : State) (b : Fin 48) (w : Word) : State :=
  let was := s.isRaster b
  let s := s.setReg (beamReg b 0x6000) w
  let s := if s.isRaster b = was then s else s.onRaster b fun _ => initRaster
  s.rasterBits b

/-- Whether a raster beam's motor port is BLDC and its feedback input of the reference class (R135, R419, R431), as a value of RST_CONFIG names them. -/
def State.rasterPorts (s : State) (w : Word) : Bool :=
  s.regF (0x07000004 + 0x1000 * field w 1 3) 0 2 == 2 && s.regF (0x07080000 + 0x100 * field w 4 3) 0 2 == 1

/-- A beam whose polygon's port or input has been reconfigured fails at the next entry to a laser mode (R135). The cause lasts until the sync locks, and has passed
at once where it is locked. -/
def State.rasterEntry (s : State) (b : Fin 48) : State :=
  if s.isRaster b && !s.rasterPorts (s.reg (beamReg b 0x6000)) then
    let s := s.beamFail b .rasterSync
    if ((s.raster b).map (·.locked)).getD false then s.onChan b fun c => { c with fails := c.fails.filter (· ≠ .rasterSync) } else s
  else s

/-- The average of a facet's periods in ns. -/
def avgPeriod (l : List Nat) : Nat := if l.isEmpty then 0 else l.sum / l.length

/-- A facet edge is stamped (R136, log entry 23): an interval of more than one and a half average periods is the missing tooth, whose facet 0
starts at its middle. -/
def State.facetEdge (s : State) (b : Fin 48) (stamp : Nat) : State :=
  match s.raster b with
  | none => s
  | some r =>
    if s.isRaster b = false ∨ stamp ≤ r.lastStamp then s
    else
      let n := max 2 (s.regF (beamReg b 0x6000) 8 6)
      let tol := s.regF (beamReg b 0x6000) 16 16
      let avg := avgPeriod (r.periods.map avgPeriod |>.filter (· ≠ 0))
      let dt := stamp - r.lastStamp
      let gap := avg != 0 && decide (3 * avg < 2 * dt)
      let per := if gap then dt / 2 else dt
      let facet := if gap then 1 else r.facet + 1
      let wrong := (gap && r.facet + 1 != n) || (!gap && decide (n ≤ facet))
      let pred := avgPeriod (r.periods.getD (facet % n) [])
      let off := (if pred ≤ per then per - pred else pred - per) / cyc
      let good := pred != 0 && decide (off ≤ tol) && !wrong
      let add (l : List Nat) : List Nat := (per :: l).take 8
      let base := if r.periods.length = 32 then r.periods else List.replicate 32 []
      let ps := updAt (if gap then updAt base 0 add else base) (facet % n) add
      let s := if good || pred = 0 then s else s.setF (beamReg b 0x600C) 16 16 (min 0xFFFF (s.regF (beamReg b 0x600C) 16 16 + 1))
      let all := (ps.map avgPeriod).filter (· ≠ 0)
      let s := s.setReg (beamReg b 0x6010) (BitVec.ofNat 32 (avgPeriod all / cyc % 2 ^ 24))
      let s := s.setF (beamReg b 0x600C) 8 6 (facet % n)
      (s.onRaster b fun r => { r with
        facet := facet % n, lastStamp := stamp, periods := ps, goodRun := if good then r.goodRun + 1 else 0
        badRun := if good || pred = 0 then 0 else r.badRun + 1, misplaced := wrong, waitZero := r.waitZero && !gap }).rasterBits b

/-- A RASTER_SYNC alert (R141). -/
def State.rasterAlert (s : State) (b : Fin 48) (regained : Bool) : State :=
  s.raise 0x0402 1 6 [0, b] (leBytes 1 (bit regained) ++ leBytes 1 (s.regF (beamReg b 0x600C) 8 6) ++ leBytes 2 0 ++ leBytes 4 (s.regF (beamReg b 0x6010) 0 24))

/-- 64 good facets lock the sync (R137); after a loss, lines resume at the next facet 0. -/
def State.rasterLock (s : State) (b : Fin 48) : State :=
  match s.raster b with
  | none => s
  | some r =>
    if s.isRaster b = false ∨ r.locked = true ∨ r.goodRun < 64 then s
    else
      let again := r.lostAt.isSome
      let s := (s.onRaster b fun r => { r with locked := true, badRun := 0, lostAt := none, waitZero := again }).rasterBits b
      let s := if again then s.rasterAlert b true else s
      s.causeEnds b .rasterSync

/-- The sync is lost (R137): a released raster record whose line has not begun waits, so that it and all after it are withdrawn (R196), while the scanner keeps
the targets that it has been sent; the gate stays closed. -/
def State.rasterLoss (s : State) (b : Fin 48) : State :=
  match s.raster b with
  | none => s
  | some r =>
    if s.isRaster b = false ∨ r.locked = false ∨ (r.badRun < 4 ∧ r.misplaced = false) then s
    else
      let s := (s.onRaster b fun r => { r with locked := false, goodRun := 0, lostAt := some s.now }).rasterBits b
      let keep (rel : Rel) : Bool := rel.record.ty != tyRaster || decide (rel.begins ≤ s.now)
      let first := ((s.kerf b).rels.dropWhile keep).head?
      let s := s.withdraw b keep
      let s := match first with
        | some rel => if rel.start ≤ s.commitPoint then s.onKerf b fun k => { k with coast := k.coast ++ rel.segs, pos := rel.endPt, raw := rel.rawEnd } else s
        | none => s
      let lines := ((s.kerf b).rels.filter fun rel => rel.record.ty == tyRaster).map (·.place)
      let s := (s.onKerf b fun k => { k with
        planned := k.planned.filter fun g => !lines.contains g.place, gates := k.gates.filter fun g => !lines.contains g.place }).gateLow b
      s.rasterAlert b false

/-- Whether a beam has raster records of the active layer left. -/
def State.rasterLeft (s : State) (b : Fin 48) : Bool :=
  let k := s.kerf b
  s.hasRecords b && (match s.layers.activePkg with | some p => (p.beam b.val).raster | none => false)
    && !(s.layers.mainBegun && k.engine == .draining && k.rels.all fun r => r.record.ty != tyRaster)

/-- A loss longer than LOSS_LIMIT in a laser mode, with raster records left, fails the beam (R137). -/
def State.rasterLimit (s : State) (b : Fin 48) : State :=
  match (s.raster b).bind (·.lostAt) with
  | none => s
  | some t =>
    let s := s.reach (t + s.regF (beamReg b 0x6004) 24 8 * milli)
    if s.isRaster b && s.mode.mode.isLaser && s.rasterLeft b then s.beamFail b .rasterSync else s

end Sys2Proof.Machine
end

