-- ==== Sys2Proof/Machine/Gated.lean ====
section
/-! DEFINITION. Register writes to a block whose clock is gated (01_architecture.md R24, R25; 17_crossings_resets.md R493, R496): they wait in their hold
registers, and are applied when the clock next starts. With them the registers of the BEAM and SENSE domains, whose writes do more than store. -/

namespace Sys2Proof.Machine

open Sys2Proof

/-! ## Addresses -/

/-- Whether an address lies in a range of bytes. -/
def within (a lo len : Nat) : Bool := decide (lo ≤ a) && decide (a < lo + len)

/-- The beam and the offset of an address in the beam pages (R32). -/
def beamOf (a : Nat) : Fin 48 := Fin.ofNat 48 ((a - 0x01000000) / 0x10000)
def isBeamPage (a : Nat) : Bool := decide (0x01000000 ≤ a) && decide (a < 0x01300000)

/-- Whether a field differs between two words. -/
def fieldDiffers (old new : Word) (lo len : Nat) : Bool := field old lo len != field new lo len

/-- The registers of the BEAM and SENSE domains (R22, R32): the ports, sensing, Kerf, Plumb, raster and parameter sets of every beam, Truss and
Grain. A beam's unit status and identity are held in HUB (R495). -/
def inBeamDomain (a : Nat) : Bool := (isBeamPage a && decide (0x100 ≤ a % 0x10000)) || within a 0x04000000 0x1000000

/-- The registers of the DRIVE domain (R22): motor ports, feedback inputs and illumination, apart from the units' status. -/
def inDriveDomain (a : Nat) : Bool := within a 0x07000000 0x1000000 && !(within a 0x07000000 0x8000 && a % 0x1000 == 0) && !(within a 0x07800000 0x1000 && a % 0x100 == 0)

/-- The registers of the PIXEL domain (R22, R24), whose clock runs while Veneer has a frame pending. -/
def inVeneer (a : Nat) : Bool := within a 0x06000000 0x1000000

/-! ## Effects of a write in the BEAM and SENSE domains -/

/-- GR_CONFIG (R271, R276): G_SHIFT waits with the material values while a layer runs, the other fields are in force at once. -/
def State.grainConfig (s : State) (w : Word) : State :=
  if s.materialWaits then
    let s' := s.setReg grConfig (putField w 8 4 (s.regF grConfig 8 4))
    if field w 8 4 = field (s.materialReg grConfig (s.reg grConfig)) 8 4 then s' else s'.setMaterial grConfig w
  else s.setReg grConfig w

/-- A register of the Grain range (R271, R274, R277). -/
def State.grainSet (s : State) (a : Nat) (w : Word) : State :=
  if a = grConfig then s.grainConfig w
  else if within a 0x04800004 0x14 ∨ within a 0x04800200 0x44 then s.setMaterial a w
  else if a = 0x04800018 then
    let moves := fieldDiffers (s.reg a) w 0 16
    let s := s.setReg a w
    if moves then s.grainClear 15 else s
  else if within a 0x0480001C 12 then
    let moves := s.reg a != w
    let s := s.setReg a w
    if moves then s.grainClear 15 else s
  else s.setReg a w

/-- MT_CONFIG (R138, R142). -/
def State.mtWrite (s : State) (b : Fin 48) (w : Word) : State :=
  let on := flag w 0
  let s := s.setReg (mtConfig b) (putFlag w 0 (s.beamEnabled b))
  if on then s.enableBeam b else if s.beamEnabled b then s.disableBeam b else s

/-- A register of a beam page. -/
def State.beamSet (s : State) (b : Fin 48) (off : Nat) (w : Word) : State :=
  if off = 0x1000 then s.mtWrite b w
  else if off = 0x2000 then
    (let s := if field w 0 2 < 2 then s.aoutRest b else s
     s.setReg (beamReg b off) w)
  else if off = 0x6000 then s.rasterConfig b w
  else if off = 0x5030 then
    (if flag w 0 then s.traceArm b (field w 1 3) else (s.setReg (beamReg b off) w).onPlumb b fun c => { c with tracing := false })
  else if off = 0x5004 then s.ceilingWrite b w
  else if within off 0x5100 0x100 then s.plumbProfileWrite b ((off - 0x5100) / 0x20) off w
  else if off = 0x3100 then s.camConfig b w
  else s.setReg (beamReg b off) w

/-- A register of the BEAM or SENSE domain takes a new value. -/
def State.beamDomainSet (s : State) (a : Nat) (w : Word) : State :=
  if isBeamPage a then s.beamSet (beamOf a) (a % 0x10000) w
  else if within a 0x04800000 0x800000 then s.grainSet a w
  else s.setReg a w

/-! ## Hold registers -/

/-- The clock of a register's block is stopped in the mode in force (R24), and no command to the block is being carried out (R25): the write waits. -/
def State.gatedReg (s : State) (a : Nat) : Bool :=
  (inBeamDomain a && !s.mode.mode.beamOn && !s.blockOn) || (inDriveDomain a && !s.mode.mode.driveOn)
    || (inVeneer a && s.veneer.compose.isNone && s.veneer.swapWait.isNone && !s.blockOn)

/-- The value that waits for a register, else the one that it holds. -/
def State.heldReg (s : State) (a : Nat) : Word := ((s.held.find? fun x => x.1 == a).map (·.2)).getD (s.reg a)

/-- A value enters a register's hold register; a later one replaces it (R493). -/
def State.holdWrite (s : State) (a : Nat) (w : Word) : State := { s with held := (s.held.filter fun x => x.1 != a) ++ [(a, w)] }

/-- Every waiting value in its register, as the checks of a further write see them. -/
def State.withHeld (s : State) : State := s.held.foldl (fun st x => st.setReg x.1 x.2) s

/-- The clock of the BEAM and SENSE domains starts: the waiting values cross, in the order in which they were written (R25, R496). -/
def State.beamClock (s : State) : State :=
  let go := s.held.filter fun x => inBeamDomain x.1
  go.foldl (fun st x => st.beamDomainSet x.1 x.2) { s with held := s.held.filter fun x => !inBeamDomain x.1 }

end Sys2Proof.Machine
end

