-- ==== Sys2Proof/Machine/Veneer.lean ====
section
/-! DEFINITION. The bed image compositor (10_veneer_compositor.md): surfaces and their tiled format, fences and producers, layer
configurations, flips, scaling, blending and composition. -/

namespace Sys2Proof.Machine

open Sys2Proof

def vnConfig : Nat := 0x06000000
def vnStatus : Nat := 0x06000020
def vnFrame : Nat := 0x06000024
def vnSkipped : Nat := 0x06000030
def vnDecodeErr : Nat := 0x06000034
def vnProdSkipped : Nat := 0x06000038

/-- The compositor changed. -/
def State.onVeneer (s : State) (f : Veneer → Veneer) : State := { s with veneer := f s.veneer }

/-- The output window (R307). -/
def State.outW (s : State) : Nat := s.regF 0x06000010 0 16
def State.outH (s : State) : Nat := s.regF 0x06000010 16 16

/-! ## Surfaces (R309, R310) -/

/-- A surface descriptor. -/
structure Surface where
  addr  : Nat
  w     : Nat
  h     : Nat
  fmt   : Nat
  tiled : Bool
  pitch : Nat
  size  : Nat
deriving DecidableEq, Repr

/-- Descriptor `i` as its registers hold it. -/
def State.surface (s : State) (i : Nat) : Surface :=
  let r (k : Nat) : Word := s.reg (0x06001000 + 0x20 * i + 4 * k)
  { addr := (r 0).toNat + (r 1).toNat * 2 ^ 32, w := field (r 2) 0 16, h := field (r 2) 16 16, fmt := field (r 3) 0 8,
    tiled := field (r 3) 8 8 == 1, pitch := (r 4).toNat, size := (r 5).toNat }

/-- Bytes of a pixel; 0 for A1. -/
def fmtBytes (f : Nat) : Nat := if f = 2 ∨ f = 4 then 1 else if f = 3 then 2 else if f = 5 then 4 else 0

/-- The columns and rows of tiles. -/
def Surface.tw (f : Surface) : Nat := ceilDiv f.w 64
def Surface.th (f : Surface) : Nat := ceilDiv f.h 64

/-- Whether a descriptor's rules hold (R309). -/
def State.surfaceOk (s : State) (i : Nat) : Bool :=
  let f := s.surface i
  let r (k : Nat) : Word := s.reg (0x06001000 + 0x20 * i + 4 * k)
  let z := f.addr + f.size
  let inside (a b : Nat) : Bool := decide (a ≤ f.addr) && decide (z ≤ b)
  let row := if f.fmt = 1 then ceilDiv f.w 8 else f.w * fmtBytes f.fmt
  f.addr % 4096 == 0 && decide (1 ≤ f.w) && decide (f.w ≤ 32768) && decide (1 ≤ f.h) && decide (f.h ≤ 32768) && decide (1 ≤ f.fmt)
    && decide (f.fmt ≤ 5) && decide (field (r 3) 8 8 ≤ 1) && field (r 3) 16 16 == 0 && r 6 == 0 && r 7 == 0
    && (if f.tiled then f.pitch == 0 && f.fmt != 1 && inside 0x280000000 0x380000000
        else f.pitch % 64 == 0 && decide (row ≤ f.pitch) && (inside 0x280000000 0x380000000 || inside 0x380000000 0x480000000)
          && decide (f.pitch * f.h ≤ f.size))

/-! ## The tiled format (R311, R312) -/

/-- The bits of bytes, least significant first. -/
def bitsOf (bs : List Byte) : List Bool := bs.flatMap fun b => tabulate 8 fun i => b.getLsbD i

/-- The next `m` bits as a number; none past the end. -/
def takeBits : Nat → List Bool → Option (Nat × List Bool)
  | 0, bs => some (0, bs)
  | _ + 1, [] => none
  | m + 1, b :: bs => match takeBits m bs with
    | none => none
    | some (v, r) => some (bit b + 2 * v, r)

/-- The 1 bits before a 0 bit, at most `fuel` of them; the 0 bit is consumed when one ends the run. -/
def takeOnes : Nat → List Bool → Option (Nat × List Bool)
  | 0, bs => some (0, bs)
  | _ + 1, [] => none
  | _ + 1, false :: bs => some (0, bs)
  | f + 1, true :: bs => match takeOnes f bs with
    | none => none
    | some (q, r) => some (q + 1, r)

/-- The prediction of a value from its left, upper and upper left neighbours. -/
def predict (x y a b d : Nat) : Int :=
  if x = 0 ∧ y = 0 then 0 else if y = 0 then a else if x = 0 then b
  else if max a b ≤ d then (min a b : Nat) else if d ≤ min a b then (max a b : Nat) else (a : Int) + b - d

/-- The rest of a row of a DELTA channel: `up` is the row above, `cur` the values so far. -/
def decodeRow (n k y : Nat) (up : List Nat) : Nat → Nat → List Nat → List Bool → Option (List Nat × List Bool)
  | 0, _, cur, bs => some (cur, bs)
  | fuel + 1, x, cur, bs =>
    let p := predict x y (cur.getLastD 0) (up.getD x 0) (up.getD (x - 1) 0)
    match takeOnes 24 bs with
    | none => none
    | some (q, r) =>
      let u := if q < 24 then (takeBits k r).map fun e => (q * 2 ^ k + e.1, e.2) else takeBits n r
      match u with
      | none => none
      | some (u, r2) =>
        let d : Int := if u % 2 = 0 then (u / 2 : Nat) else -((u + 1) / 2 : Nat)
        decodeRow n k y up fuel (x + 1) (cur ++ [unsignedOf n (p + d)]) r2

/-- The rows of a DELTA channel from `y` on. -/
def decodeRows (n : Nat) : Nat → Nat → List Nat → List Bool → Option (List Nat × List Bool)
  | 0, _, _, bs => some ([], bs)
  | fuel + 1, y, up, bs =>
    match takeBits 5 bs with
    | none => none
    | some (k, r) =>
      if n < k then none
      else match decodeRow n k y up 64 0 [] r with
        | none => none
        | some (row, r2) => (decodeRows n fuel (y + 1) row r2).map fun e => (row ++ e.1, e.2)

/-- The channels of a DELTA tile, each of 4,096 values. -/
def decodeChannels (n : Nat) : Nat → List Bool → Option (List (List Nat))
  | 0, _ => some []
  | c + 1, bs => match decodeRows n 64 0 [] bs with
    | none => none
    | some (v, r) => (decodeChannels n c r).map fun l => v :: l

/-- What reading a tile gives: its 4,096 raw pixels, a decode error, or an uncorrectable memory error. -/
inductive TileRes where
  | pixels (l : List Nat)
  | bad
  | lost
deriving DecidableEq, Repr

/-- A tile of a surface read (R311-R313). -/
def State.readTile (s : State) (f : Surface) (t : Nat) : TileRes :=
  let ent := s.readMem (f.addr + 8 * t) 8
  let off := leAt ent 0 4
  let len := leAt ent 4 2 % 32768
  let kind := byteAt ent 6
  let bpp := fmtBytes f.fmt
  if !(s.ueIn (f.addr + 8 * t) 8).isEmpty || !(s.ueIn (f.addr + off) len).isEmpty then .lost
  else if 2 < kind ∨ f.size < off + len then .bad
  else
    let bs := s.readMem (f.addr + off) len
    if kind = 0 then .pixels (List.replicate 4096 (leAt bs 0 bpp))
    else if kind = 1 then (if len < 4096 * bpp then .bad else .pixels (tabulate 4096 fun i => leAt bs (i * bpp) bpp))
    else
      let n := if f.fmt = 3 then 16 else 8
      let chans := if f.fmt = 5 then 4 else 1
      match decodeChannels n chans (bitsOf bs) with
      | none => .bad
      | some cs => .pixels (tabulate 4096 fun i => (cs.zipIdx.map fun e => e.1.getD i 0 * 256 ^ e.2).sum)

/-- The bits of a number, least significant first. -/
def numBits (n v : Nat) : List Bool := tabulate n fun i => v.testBit i

/-- The bits of one value coded with `k` (R312). -/
def encodeVal (n k u : Nat) : List Bool :=
  let q := u / 2 ^ k
  if q < 24 then List.replicate q true ++ [false] ++ numBits k u else List.replicate 24 true ++ numBits n u

/-- The u of a residual (R312). -/
def residual (n : Nat) (v : Nat) (p : Int) : Nat :=
  let r := signed n (unsignedOf n ((v : Int) - p))
  if 0 ≤ r then (2 * r).toNat else (-2 * r - 1).toNat

/-- The bits of one row, with the k that makes it shortest (log entry 24). -/
def encodeRow (n y : Nat) (up row : List Nat) : List Bool :=
  let us := row.zipIdx.map fun e => residual n e.1 (predict e.2 y (row.getD (e.2 - 1) 0) (up.getD e.2 0) (up.getD (e.2 - 1) 0))
  let code (k : Nat) : List Bool := numBits 5 k ++ us.flatMap (encodeVal n k)
  let best := (sortBy (fun k => (code k).length) (List.range (n + 1))).headD 0
  code best

/-- The bytes of bits, padded with zeros to a multiple of 4 bytes. -/
def packBits (bs : List Bool) : List Byte :=
  let n := ceilDiv bs.length 32 * 4
  tabulate n fun i => BitVec.ofNat 8 (((List.range 8).map fun k => bit (bs.getD (8 * i + k) false) * 2 ^ k).sum)

/-- A tile's kind and payload as Veneer writes it (R312): SOLID when uniform, else the shorter of DELTA and RAW. The pixels have
`chans` channels of 8 bits. -/
def encodeTile (chans : Nat) (px : List Nat) : Nat × List Byte :=
  let first := px.headD 0
  if px.all (· == first) then (0, leBytes 4 first)
  else
    let raw := px.flatMap (leBytes chans)
    let chan (c : Nat) : List Nat := px.map fun v => v / 256 ^ c % 256
    let rows (c : Nat) : List Bool := (List.range 64).flatMap fun y =>
      encodeRow 8 y (if y = 0 then [] else ((chan c).drop (64 * (y - 1))).take 64) (((chan c).drop (64 * y)).take 64)
    let delta := packBits ((List.range chans).flatMap rows)
    if delta.length < raw.length then (2, delta) else (1, raw)

/-- A whole tiled surface written: `px` gives the pixels, `invalid` the tiles to be marked; payloads follow the directory in tile order
(log entry 24). -/
def State.writeTiled (s : State) (f : Surface) (chans : Nat) (px : Nat → Nat → Nat) (invalid : Nat → Bool) : State :=
  let n := f.tw * f.th
  let tile (t : Nat) : List Nat := tabulate 4096 fun i => px (min (f.w - 1) (t % f.tw * 64 + i % 64)) (min (f.h - 1) (t / f.tw * 64 + i / 64))
  let done := (List.range n).foldl (fun (acc : (State × List Byte) × Nat) t =>
    let e := encodeTile chans (tile t)
    ((acc.1.1.writeMem (f.addr + acc.2) e.2, acc.1.2 ++ leBytes 4 acc.2 ++ leBytes 2 e.2.length ++ leBytes 1 e.1 ++ leBytes 1 (bit (invalid t)))
    , ceilDiv (acc.2 + e.2.length) 16 * 16)) ((s, []), ceilDiv (8 * n) 16 * 16)
  done.1.1.writeMem f.addr done.1.2

/-! ## Fences and rings (R314, R315) -/

/-- A fence's value. -/
def State.fence (s : State) (f : Nat) : Word := s.reg (0x06000100 + 4 * f)

/-- A fence given a value; its earlier value counts at a boundary of the same instant. -/
def State.setFence (s : State) (f : Nat) (v : Word) : State :=
  let old := s.fence f
  (s.setReg (0x06000100 + 4 * f) v).onVeneer fun n => { n with
    fencePrev := updAt n.fencePrev f fun p => if p.2 = s.now ∧ p.2 ≠ 0 then p else (old, s.now) }

/-- A fence advances by 1. -/
def State.advance (s : State) (f : Nat) : State := s.setFence f (s.fence f + 1)

/-- The value of a fence that counts at a boundary now (R314). -/
def State.fenceSeen (s : State) (f : Nat) : Word :=
  let p := s.veneer.fencePrev.getD f (0, 0)
  if p.2 = s.now ∧ p.2 ≠ 0 then p.1 else s.fence f

/-- Whether a fence value has reached a target (R314). -/
def reached (v t : Word) : Bool := decide ((v - t).toNat < 2 ^ 31)

/-- The three surfaces of a producer's ring, and whether it is enabled (R337). -/
def ringReg (f : Nat) : Nat := 0x06000040 + 4 * f
def State.ringSurfaces (s : State) (f : Nat) : List Nat := [s.regF (ringReg f) 0 6, s.regF (ringReg f) 8 6, s.regF (ringReg f) 16 6]
def State.ringOn (s : State) (f : Nat) : Bool := s.regB (ringReg f) 24
def State.ring (s : State) (f : Nat) : Ring := s.veneer.rings.getD f ⟨none, none, none⟩
def State.onRing (s : State) (f : Nat) (g : Ring → Ring) : State := s.onVeneer fun n => { n with rings := updAt n.rings f g }

/-- A layer configuration's fields (R319). -/
structure LayerCfg where
  enable : Bool
  premul : Bool
  stream : Bool
  flipX  : Bool
  flipY  : Bool
  surf   : Nat
  fence  : Nat
  target : Word
  sx     : Nat
  sy     : Nat
  sw     : Nat
  sh     : Nat
  dx     : Int
  dy     : Int
  dw     : Nat
  dh     : Nat
  scaler : Nat
  group  : Nat
  palette : Nat
  alpha  : Nat
  colour : Nat × Nat × Nat
deriving DecidableEq, Repr

/-- The fields of 64 configuration bytes. -/
def layerOf (bs : List Byte) : LayerCfg :=
  let fl := bs.getD 1 0
  { enable := fl.getLsbD 0, premul := fl.getLsbD 1, stream := fl.getLsbD 2, flipX := fl.getLsbD 3, flipY := fl.getLsbD 4, surf := byteAt bs 2,
    fence := byteAt bs 3, target := leWord bs 4, sx := leAt bs 8 2, sy := leAt bs 10 2, sw := leAt bs 12 2, sh := leAt bs 14 2,
    dx := leS32 bs 16, dy := leS32 bs 20, dw := leAt bs 24 2, dh := leAt bs 26 2, scaler := byteAt bs 28, group := byteAt bs 29,
    palette := byteAt bs 30, alpha := byteAt bs 31, colour := (byteAt bs 32, byteAt bs 33, byteAt bs 34) }

/-- The current configuration of a layer. -/
def State.layer (s : State) (l : Nat) : LayerCfg := layerOf (s.veneer.current.getD l [])

/-- The surface that a current layer shows. -/
def State.shownBy (s : State) (l : Nat) : Option Nat :=
  let c := s.layer l
  if c.enable = false then none else if c.stream then s.veneer.shown.getD l none else some (c.surf % 64)

/-- Whether a current layer shows a surface; the composition in progress reads no other (R315, R328). -/
def State.isShown (s : State) (i : Nat) : Bool := (List.range 16).any fun l => s.shownBy l == some i

/-- The surface that a producer chooses to write next (R315): the first of its ring that qualifies. The Kerf renderer's is one of the size of the output (R316). -/
def State.ringPick (s : State) (f : Nat) : Option Nat :=
  let fits (i : Nat) : Bool := f != 16 || ((s.surface i).fmt == 1 && (s.surface i).w == s.outW && (s.surface i).h == s.outH)
  if s.ringOn f then (s.ringSurfaces f).find? fun i => (s.ring f).last != some i && !s.isShown i && fits i else none

/-- A producer drops a frame (R315). -/
def State.prodSkip (s : State) : State := s.count vnProdSkipped

/-- A producer starts to write a surface, or drops the frame. Answers the surface. -/
def State.ringStart (s : State) (f : Nat) : State × Option Nat :=
  match s.ringPick f with
  | some i => (s.onRing f fun r => { r with writing := some i }, some i)
  | none => (if s.ringOn f then s.prodSkip else s, none)

/-- A producer has completed the surface that it was writing: its fence advances. -/
def State.ringDone (s : State) (f : Nat) : State :=
  match (s.ring f).writing with
  | some i =>
    let again := decide ((s.veneer.fencePrev.getD f (0, 0)).2 = s.now)
    (s.onRing f fun r => ⟨some i, none, if again then r.before else r.last⟩).advance f
  | none => s

/-- The surface of a ring that counts at a boundary now: that of the last advance before this instant (R314, R332). -/
def State.ringSeen (s : State) (f : Nat) : Option Nat := if s.fenceSeen f = s.fence f then (s.ring f).last else (s.ring f).before

/-! ## Footprint and heat (R316, R317) -/

/-- Whether a pixel's centre lies within a radius of a piece's path (R316). -/
def nearPiece (q : Piece) (r : Nat) (x y : Int) : Bool :=
  let vx := q.qx - q.px
  let vy := q.qy - q.py
  let wx := x - q.px
  let wy := y - q.py
  let len2 := vx * vx + vy * vy
  let t := wx * vx + wy * vy
  let rr : Int := (r * r : Nat)
  if t ≤ 0 ∨ len2 = 0 then decide (wx * wx + wy * wy ≤ rr)
  else if len2 ≤ t then decide ((x - q.qx) * (x - q.qx) + (y - q.qy) * (y - q.qy) ≤ rr)
  else decide ((wx * vy - wy * vx) * (wx * vy - wy * vx) ≤ rr * len2)

/-- The bed position of an output pixel's centre (R307). -/
def State.pixelCentre (s : State) (px py : Nat) : Int × Int :=
  (s32 (s.reg 0x06000008) + px * 10000 + 5000, s32 (s.reg 0x0600000C) + py * 10000 + 5000)

/-- The footprint of a layer is drawn whole into its surface, and fence 16 advances (R316). -/
def State.footprintDraw (s : State) : State :=
  match (s.ring 16).writing with
  | none => s
  | some i =>
    let f := s.surface i
    let rad := s.regF 0x0600001C 0 24
    let pts := (List.range f.h).flatMap fun y => (List.range f.w).map fun x => (x, y)
    let lit := pts.filter fun e => let c := s.pixelCentre e.1 e.2; s.veneer.footprint.any fun q => nearPiece q rad c.1 c.2
    let s := lit.foldl (fun (st : State) e =>
      let a := f.addr + e.2 * f.pitch + e.1 / 8
      st.writeMem a [Memory.read st.mem a ||| BitVec.ofNat 8 (2 ^ (e.1 % 8))]) s
    (s.onVeneer fun n => { n with footprint := [] }).ringDone 16

/-- The footprint of the layer is complete. -/
def State.footprintDone (s : State) : State := if s.layers.active = .complete ∨ s.layers.active = .abandoned then s.footprintDraw else s

/-- At a layer start the Kerf renderer completes what it still draws, takes a free A1 surface and clears it. -/
def State.footprintStart (s : State) : State :=
  let s := s.footprintDraw.onVeneer fun n => { n with footprint := [] }
  let q := s.ringStart 16
  match q.2 with
  | some i => let f := s.surface i; q.1.writeMem f.addr (List.replicate (f.pitch * f.h) memDefault)
  | none => q.1

/-- A heat rendering starts (R317): dropped while one runs, with no free surface, or with a window of another size. -/
def State.heatStart (s : State) : State :=
  if s.ringOn 17 = false then s
  else if (s.ring 17).writing.isSome then s.prodSkip
  else
    let bad := (s.ringSurfaces 17).any fun i => (s.surface i).w != s.sizeX || (s.surface i).h != s.sizeY
    let s := s.setB vnStatus 3 bad
    if bad then s.prodSkip
    else ((s.ringStart 17).1).onVeneer fun n => { n with heatStart := s.now }

/-- The value of a heat pixel (R317), of a rendering that started at `t`. -/
def State.heatPixel (s : State) (t cx cy : Nat) : Nat :=
  let sum := ((List.range 4).map fun k =>
    if (s.regF 0x0600002C 0 4).testBit k then
      let slot := s.slotOf k
      let d := s.dir slot (tileOf cx cy)
      if d.occupied then roleValue k (leNat (s.readMem (tileAddr slot (tileOf cx cy) + 2 * cellIn cx cy) 2)) * decay (t - d.tRef) (s.roleHalf k) else 0
    else 0).sum / 2 ^ 60
  min 255 (sum / 2 ^ s.regF 0x0600002C 4 5)

/-- A heat rendering completes: fence 17 advances. -/
def State.heatDone (s : State) : State :=
  match (s.ring 17).writing with
  | none => s
  | some i =>
    let f := s.surface i
    let t := s.veneer.heatStart
    let px (x y : Nat) : Nat := s.heatPixel t x y
    let s2 := if f.tiled then s.writeTiled f 1 px fun _ => false
      else (List.range f.h).foldl (fun st y => st.writeMem (f.addr + y * f.pitch) (tabulate f.w fun x => BitVec.ofNat 8 (px x y))) s
    s2.ringDone 17

/-! ## Commit (R320, R321, R326) -/

/-- What a configuration fails of R320 in itself; true when it is bad. -/
def State.layerBad (s : State) (l : Nat) (bs : List Byte) : Bool :=
  let c := layerOf bs
  let inside (i : Nat) : Bool := decide (c.sx + c.sw ≤ (s.surface i).w) && decide (c.sy + c.sh ≤ (s.surface i).h)
  byteAt bs 0 != l || decide (31 < byteAt bs 1) || (!c.stream && decide (63 < c.surf))
    || (if c.stream then decide (17 < c.fence) else decide (31 < c.fence) && c.fence != 255)
    || c.sw == 0 || decide (32768 < c.sw) || c.sh == 0 || decide (32768 < c.sh) || c.dw == 0 || c.dh == 0
    || (decide (3 < c.scaler) && c.scaler != 255) || decide (15 < c.group) || decide (3 < c.palette) || !zeroAt bs 35 29
    || (if c.stream then !(s.ringSurfaces c.fence).all inside else !inside c.surf)
    || decide (8 * c.dw < c.sw) || decide (64 * c.sw < c.dw) || decide (8 * c.dh < c.sh) || decide (64 * c.sh < c.dh)
    || ((c.dw != c.sw || c.dh != c.sh) && c.scaler == 255)

/-- Line buffer that a layer needs is more than its scaler has (R321). -/
def bufShort (c : LayerCfg) : Bool := c.scaler != 255 && decide (49152 < c.sw * (if c.dh != c.sh then 6 else 1))

/-- The configuration that a commit of a mask would result in (R320). -/
def State.resulting (s : State) (mask : Nat) : List (List Byte) :=
  tabulate 16 fun l =>
    match (if mask.testBit l then s.veneer.staged.getD l none else none) with
    | some bs => bs
    | none => match s.veneer.pend.getD l none with
      | some bs => bs
      | none => s.veneer.current.getD l []

/-- The outcome of a commit's checks: the layer that fails R320, or the one that fails R321. -/
def State.commitCheck (s : State) (mask : Nat) : Option (Bool × Nat) :=
  let all := (s.resulting mask).zipIdx.filter fun e => (layerOf e.1).enable
  let twice (e : List Byte × Nat) : Bool := (layerOf e.1).scaler != 255 && all.any fun o => decide (o.2 < e.2) && (layerOf o.1).scaler == (layerOf e.1).scaler
  match all.find? fun e => s.layerBad e.2 e.1 || twice e with
  | some e => some (false, e.2)
  | none => (all.find? fun e => bufShort (layerOf e.1)).map fun e => (true, e.2)

/-- The staged layers of a mask become pending (R326). -/
def State.commitLayers (s : State) (mask : Nat) : State :=
  s.onVeneer fun n => { n with
    pend := n.pend.zipIdx.map fun e => if mask.testBit e.2 then n.staged.getD e.2 none else e.1
    staged := n.staged.zipIdx.map fun e => if mask.testBit e.2 then none else e.1 }

/-! ## Flips (R328, R331) -/

/-- A layer has something to flip, and whether it is ready (R328). -/
def State.flipState (s : State) (l : Nat) : Option Bool :=
  match s.veneer.pend.getD l none with
  | some bs =>
    let c := layerOf bs
    some (c.fence == 255 || reached (s.fenceSeen c.fence) c.target)
  | none =>
    let c := s.layer l
    if c.enable && c.stream then some (s.fenceSeen c.fence != s.veneer.flipFence.getD l 0) else none

/-- The group that a layer flips in: that of its pending configuration, else of the current one. -/
def State.flipGroup (s : State) (l : Nat) : Nat :=
  match s.veneer.pend.getD l none with
  | some bs => (layerOf bs).group
  | none => (s.layer l).group

/-- Whether a layer flips at this boundary. -/
def State.flips (s : State) (l : Nat) : Bool :=
  match s.flipState l with
  | none => false
  | some r =>
    let g := s.flipGroup l
    if g = 0 then r else (List.range 16).all fun o => s.flipGroup o != g || s.flipState o != some false

/-- A layer flips: its pending configuration becomes current, and a STREAM layer shows what its producer completed last before this instant (R332). -/
def State.flipLayer (s : State) (l : Nat) : State :=
  let bs := match s.veneer.pend.getD l none with
    | some b => b
    | none => s.veneer.current.getD l []
  let c := layerOf bs
  let seen := s.fenceSeen c.fence
  let front := if c.stream then s.ringSeen c.fence else none
  s.onVeneer fun n => { n with
    current := updAt n.current l fun _ => bs, pend := updAt n.pend l fun _ => none
    flipFence := updAt n.flipFence l fun _ => seen
    shown := updAt n.shown l fun _ => front }

/-- The flips of one boundary: answers the layers that held (R328), with group stale alerts (R331). A STREAM layer of group 0 whose fence has not advanced has nothing
to flip and does not count as held, as the worked example has it (1,500,000,000). -/
def State.flipAll (s : State) : State × Nat :=
  let go := (List.range 16).filter s.flips
  let held := (List.range 16).filter fun l => (s.flipState l).isSome && !s.flips l && ((s.veneer.pend.getD l none).isSome || s.flipGroup l != 0)
  let heldGroups := (held.map s.flipGroup).dedup.filter (· ≠ 0)
  let s := s.onVeneer fun n => { n with
    coeffs := n.coeffs.zipIdx.map fun e => match n.pendCoeff.getD e.2 none with | some c => c | none => e.1
    pendCoeff := List.replicate 4 none
    groupHeld := n.groupHeld.zipIdx.map fun e => if heldGroups.contains e.2 then e.1 + 1 else 0 }
  let s := go.foldl (fun st l => st.flipLayer l) s
  let mask := (held.map fun l => 2 ^ l).sum
  let s := s.setF vnStatus 16 16 mask
  let lim := s.regF vnConfig 8 8
  (heldGroups.foldl (fun st g => if st.veneer.groupHeld.getD g 0 = lim then st.raise 0x0801 1 0 [] (leBytes 1 g ++ leBytes 3 0 ++ leBytes 4 lim) else st) s, mask)

/-! ## Sampling and blending (R310, R322-R325) -/

/-- A pre-multiplied RGBA8 pixel. -/
structure Px where
  r : Nat
  g : Nat
  b : Nat
  a : Nat
deriving DecidableEq, Repr

/-- mul of R325. -/
def mul8 (x y : Nat) : Nat := let t := x * y + 128; (t + t / 256) / 256

/-- A straight colour made pre-multiplied. -/
def premul (p : Px) : Px := ⟨mul8 p.r p.a, mul8 p.g p.a, mul8 p.b p.a, p.a⟩

/-- The raw value of a surface's pixel: none where it is transparent, with whether a memory error lost it. -/
def State.rawPixel (s : State) (f : Surface) (x y : Nat) : Option Nat × Bool :=
  if f.tiled then
    match s.readTile f (y / 64 * f.tw + x / 64) with
    | .pixels l => (some (l.getD (y % 64 * 64 + x % 64) 0), false)
    | .bad => (none, false)
    | .lost => (none, true)
  else
    let n := max 1 (fmtBytes f.fmt)
    let a := f.addr + y * f.pitch + (if f.fmt = 1 then x / 8 else x * n)
    if !(s.ueIn a n).isEmpty then (none, true)
    else if f.fmt = 1 then (some (bit ((Memory.read s.mem a).getLsbD (x % 8))), false)
    else (some (leNat (s.readMem a n)), false)

/-- A source pixel as pre-multiplied RGBA8 (R310). -/
def State.sourcePixel (s : State) (c : LayerCfg) (f : Surface) (x y : Nat) : Px × Bool :=
  let q := s.rawPixel f x y
  match q.1 with
  | none => (⟨0, 0, 0, 0⟩, q.2)
  | some v =>
    let p : Px :=
      if f.fmt = 1 then premul ⟨c.colour.1, c.colour.2.1, c.colour.2.2, 255 * v⟩
      else if f.fmt = 2 then ⟨v, v, v, 255⟩
      else if f.fmt = 3 then ⟨v / 256, v / 256, v / 256, 255⟩
      else if f.fmt = 4 then
        let w := (s.reg (0x06002000 + 0x400 * c.palette + 4 * v)).toNat
        premul ⟨w % 256, w / 256 % 256, w / 65536 % 256, w / 2 ^ 24⟩
      else
        let p : Px := ⟨v % 256, v / 256 % 256, v / 65536 % 256, v / 2 ^ 24⟩
        if c.premul then p else premul p
    (p, false)

/-- The step, source position and phase of an output column or row (R323). -/
def scalePos (src dst i : Nat) : Int × Nat :=
  let step := (2 * src * 65536 + dst) / (2 * dst)
  let pos : Int := ((2 * i + 1) * step / 2 : Nat) - 32768
  (pos / 65536, (pos / 1024 % 64).toNat)

/-- A coefficient of a scaler: tap t of phase p, horizontal or vertical (R324). -/
def State.coeff (s : State) (sc : Nat) (vert : Bool) (p t : Nat) : Int :=
  let off := if vert then 1024 + 2 * (6 * p + t) else 2 * (8 * p + t)
  signed 16 (leAt (s.veneer.coeffs.getD sc []) off 2)

/-- One filtered channel value. -/
def filt8 (l : List (Int × Nat)) : Nat := (clampInt 0 255 (((l.map fun e => e.1 * (e.2 : Int)).sum + 8192) / 16384)).toNat

/-- A filtered pixel of weighted pixels. -/
def filtPx (l : List (Int × Px)) : Px :=
  ⟨filt8 (l.map fun e => (e.1, e.2.r)), filt8 (l.map fun e => (e.1, e.2.g)), filt8 (l.map fun e => (e.1, e.2.b)), filt8 (l.map fun e => (e.1, e.2.a))⟩

/-- A layer's sample at an output pixel (R322, R323): none outside its destination. -/
def State.sample (s : State) (l px py : Nat) : Option (Px × Bool) :=
  let c := s.layer l
  match s.shownBy l with
  | none => none
  | some si =>
    let f := s.surface si
    let i := (px : Int) - c.dx
    let j := (py : Int) - c.dy
    if i < 0 ∨ j < 0 ∨ (c.dw : Int) ≤ i ∨ (c.dh : Int) ≤ j then none
    else
      let col (k : Nat) : Nat := c.sx + (if c.flipX then c.sw - 1 - k else k)
      let row (k : Nat) : Nat := c.sy + (if c.flipY then c.sh - 1 - k else k)
      if c.scaler = 255 then some (s.sourcePixel c f (col i.toNat) (row j.toNat))
      else
        let h := scalePos c.sw c.dw i.toNat
        let v := scalePos c.sh c.dh j.toNat
        let cx (t : Nat) : Nat := (clampInt 0 ((c.sw : Int) - 1) (h.1 - 3 + t)).toNat
        let cy (t : Nat) : Nat := (clampInt 0 ((c.sh : Int) - 1) (v.1 - 2 + t)).toNat
        let line (k : Nat) : Px × Bool :=
          let ps := tabulate 8 fun t => (s.coeff c.scaler false h.2 t, s.sourcePixel c f (col (cx t)) (row k))
          (filtPx (ps.map fun e => (e.1, e.2.1)), ps.any fun e => e.2.2)
        let under (p : Px) : Px := ⟨min p.r p.a, min p.g p.a, min p.b p.a, p.a⟩
        -- one line of line buffer holds no rows to filter (R321, log entry 24)
        if c.dh = c.sh then (let q := line j.toNat; some (under q.1, q.2))
        else
          let ls := tabulate 6 fun t => (s.coeff c.scaler true v.2 t, line (cy t))
          some (under (filtPx (ls.map fun e => (e.1, e.2.1))), ls.any fun e => e.2.2)

/-- A blended channel. A source whose colour exceeds its alpha can pass the 8 bits, of which the spec states no result: the value is then free (log entry 88). -/
def chan8 (v : Nat) : Nat := if v < 256 then v else (Config.blendOver v).toNat

/-- One layer blended over a pixel (R325). -/
def blend (p : Px) (alpha : Nat) (out : Px) : Px :=
  let a := mul8 p.a alpha
  ⟨chan8 (mul8 p.r alpha + mul8 out.r (255 - a)), chan8 (mul8 p.g alpha + mul8 out.g (255 - a)), chan8 (mul8 p.b alpha + mul8 out.b (255 - a)), 255⟩

/-- An output pixel (R307), and whether a source of it was lost. -/
def State.outPixel (s : State) (px py : Nat) : Px × Bool :=
  let w := (s.reg 0x06000018).toNat
  (List.range 16).foldl (fun (acc : Px × Bool) l => match s.sample l px py with
    | none => acc
    | some (p, bad) => (blend p (s.layer l).alpha acc.1, acc.2 || bad)) (⟨w % 256, w / 256 % 256, w / 65536 % 256, 255⟩, false)

/-! ## Composition (R308, R327-R330) -/

/-- The surfaces OUT_A and OUT_B. -/
def State.outSurf (s : State) (b : Bool) : Nat := if b then s.regF 0x06000014 8 6 else s.regF 0x06000014 0 6

/-- Whether a surface may take the output (R308). -/
def State.outOk (s : State) (i : Nat) : Bool :=
  let f := s.surface i
  s.surfaceOk i && f.tiled && f.fmt == 5 && f.w == s.outW && f.h == s.outH && decide (16 * f.tw * f.th * 1025 ≤ f.size)

/-- The ECC words in error that a layer's source rectangle meets in a LINEAR surface. -/
def State.linearLost (s : State) (c : LayerCfg) (f : Surface) : List Nat :=
  let per (x : Nat) : Nat := if f.fmt = 1 then x / 8 else x * fmtBytes f.fmt
  if s.ue.isEmpty then []
  else ((List.range c.sh).flatMap fun j => s.ueIn (f.addr + (c.sy + j) * f.pitch + per c.sx) (per (c.sx + c.sw - 1) + max 1 (fmtBytes f.fmt) - per c.sx)).dedup

/-- What the enabled layers' source rectangles meet that cannot be decoded or read (R313): tiles, or in a LINEAR surface words in error (log entry 24). -/
def State.badTiles (s : State) : Nat :=
  ((List.range 16).map fun l => match s.shownBy l with
    | none => 0
    | some si =>
      let f := s.surface si
      let c := s.layer l
      if f.tiled then
        ((List.range (f.tw * f.th)).filter fun t =>
          let tx := t % f.tw
          let ty := t / f.tw
          decide (tx * 64 < c.sx + c.sw) && decide (c.sx < tx * 64 + 64) && decide (ty * 64 < c.sy + c.sh) && decide (c.sy < ty * 64 + 64)
            && (match s.readTile f t with | .pixels _ => false | _ => true)).length
      else (s.linearLost c f).length).sum

/-- The composed frame is written to the back surface. Answers the output tiles with INVALID set. -/
def State.writeFrame (s : State) : State × Nat :=
  let back := s.outSurf !(s.regB vnStatus 1)
  let f := s.surface back
  if s.outOk back = false then (s, 0)
  else
    let px (x y : Nat) : Nat := let p := (s.outPixel x y).1; p.r + 256 * p.g + 65536 * p.b + 2 ^ 24 * p.a
    let lost (t : Nat) : Bool := (List.range 64).any fun j => (List.range 64).any fun i =>
      let x := t % f.tw * 64 + i
      let y := t / f.tw * 64 + j
      decide (x < f.w) && decide (y < f.h) && (s.outPixel x y).2
    (s.writeTiled f 4 px lost, ((List.range (f.tw * f.th)).filter lost).length)

/-- A composition starts at a boundary, after its flips (R329). -/
def State.boundary (s : State) (kind : Nat) : State :=
  let q := s.flipAll
  q.1.onVeneer fun n => { n with compose := some ⟨kind, s.now, BitVec.ofNat 16 q.2, 0, 0⟩ }

/-- A composition runs, or its swap waits: live boundaries are skipped, and layer-end boundaries wait (R329, R330). -/
def State.composing (s : State) : Bool := s.veneer.compose.isSome || s.veneer.swapWait.isSome

/-- The back surface becomes the front one (R329). -/
def State.swap (s : State) (c : Compose) : State :=
  let s := (s.setB vnStatus 1 !(s.regB vnStatus 1)).count vnFrame
  s.raise 0x0800 0 0 [] (leBytes 4 (s.reg vnFrame).toNat ++ leBytes 1 c.kind ++ leBytes 1 0 ++ leBytes 2 c.held.toNat ++ leBytes 4 c.took ++ leBytes 4 c.bad)

/-- The PIXEL clock starts with a boundary (R24): register writes that waited for it cross (R25). -/
def State.pixelClock (s : State) : State :=
  let go := s.held.filter fun x => inVeneer x.1
  go.foldl (fun st x => st.setReg x.1 x.2) { s with held := s.held.filter fun x => !inVeneer x.1 }

/-- A layer-end boundary that waited is taken in full (R329); with ENABLE 0 it passes (R335). -/
def State.waitingEnd (s : State) : State :=
  if s.veneer.endWaits ≠ 0 ∧ s.composing = false then
    if s.regB vnConfig 0 = false then s.onVeneer fun n => { n with endWaits := 0 }
    else (s.onVeneer fun n => { n with endWaits := n.endWaits - 1, endAt := some s.now }).boundary 1
  else s

/-- A composition ends (R329, R330). -/
def State.composeDone (s : State) : State :=
  match s.veneer.compose with
  | none => s
  | some c =>
    let bad := s.badTiles
    let s := if bad = 0 then s else s.count vnDecodeErr bad
    let w := s.writeFrame
    let c := { c with took := (s.now - c.started) / 1000, bad := w.2 }
    let s := w.1.onVeneer fun n => { n with compose := none }
    if s.veneer.lockUntil.isSome then s.onVeneer fun n => { n with swapWait := some c }
    else (s.swap c).waitingEnd

/-- The lock on the front surface ends, and a swap that waited happens (R330). -/
def State.unlock (s : State) : State :=
  let s := s.onVeneer fun n => { n with lockUntil := none }
  match s.veneer.swapWait with
  | none => s
  | some c => ((s.onVeneer fun n => { n with swapWait := none }).swap c).waitingEnd

/-- A live boundary (R327, R329): skipped while a composition runs or a swap waits; one with a layer-end boundary within 1 ms. With ENABLE 0 its time
passes with no boundary (R335). -/
def State.liveBoundary (s : State) : State :=
  let p := s.regF 0x06000028 0 16
  let s : State := if p = 0 then s else (s.reach s.veneer.nextLive).onVeneer fun n => { n with nextLive := n.nextLive + p * milli }
  let s := if p = 0 ∨ s.regB vnConfig 0 = false then s else s.pixelClock
  if p = 0 ∨ s.regB vnConfig 0 = false then s
  else
    let s := if s.regB vnConfig 2 then s.heatStart else s
    let near := match s.veneer.endAt with
      | some t => decide (s.now < t + milli)
      | none => false
    if near then s
    else if s.composing then s.count vnSkipped
    else (s.onVeneer fun n => { n with liveAt := some s.now }).boundary 2

/-- A layer ends (R327): the fences are noted, and its boundary is due. -/
def State.veneerEnd (s : State) : State :=
  s.onVeneer fun n => { n with endSince := n.endSince ++ [(s.now, tabulate 32 s.fence)] }

/-- The earliest layer-end boundary that is due (R327): when the awaited fences have advanced, or END_WAIT_MS after the end; one with a live boundary within 1 ms, even
where that boundary's composition has ended. -/
def State.endBoundary (s : State) : State :=
  match s.veneer.endSince with
  | [] => s
  | (t, fs) :: due =>
    if s.regB vnConfig 0 = false ∨ s.regB vnConfig 1 = false then s
    else
      let wait := s.reg 0x06000004
      let all := (List.range 32).all fun f => !flag wait f || s.fenceSeen f != fs.getD f 0
      let s := if all then s else s.reach (t + s.regF vnConfig 16 16 * milli)
      let s := s.onVeneer fun n => { n with endSince := due }
      let one := match s.veneer.liveAt with
        | some t => decide (s.now < t + milli)
        | none => false
      let asEnd (c : Compose) : Compose := if c.kind = 2 then { c with kind := 1 } else c
      if one then s.onVeneer fun n => { n with compose := n.compose.map asEnd, swapWait := n.swapWait.map asEnd, endAt := some s.now }
      else if s.composing then s.onVeneer fun n => { n with endWaits := n.endWaits + 1 }
      else
        let s := s.pixelClock
        if s.regB vnConfig 0 = false then s else (s.onVeneer fun n => { n with endAt := some s.now }).boundary 1

end Sys2Proof.Machine
end

