-- ==== Sys2Proof/Machine/Layer.lean ====
section
/-! DEFINITION. Layers from job to end (05_kerf_exposure.md R152, R162-R166, R177-R183, 02 R65-R67): declaring, activating, starting,
pausing, completing and abandoning, and the completion of a record. -/

namespace Sys2Proof.Machine

open Sys2Proof

/-! ## The resume block (R65, R66) -/

/-- The resume block changed. -/
def State.onResume (s : State) (f : Resume → Resume) : State := { s with resume := f s.resume }

/-- VALID and STICKS_VALID cleared. -/
def State.clearResume (s : State) : State := s.onResume fun r => { r with valid := false, sticksValid := false }

/-! ## The end of a layer (R181, R183) -/

/-- Whether the active half is COMPLETE or ABANDONED. -/
def ActState.ended : ActState → Bool
  | .complete => true
  | .abandoned => true
  | _ => false

/-- What the blocks do when the layer has ended: open excursions close and are summed up (R239), the Grain roll is due (R265), and the
bed image has its layer-end boundary (R327). -/
def State.layerEnded (s : State) : State :=
  let s := beams.foldl (fun st b => if st.inMask b then st.excSummary b else st) s.excCloseDevice
  s.grainLayerEnd.veneerEnd

/-- A step that may end the layer, with what follows when it does. -/
def State.endsLayer (s : State) (f : State → State) : State :=
  let s' := f s
  if !s.layers.active.ended && s'.layers.active.ended then s'.layerEnded else s'

/-- A layer that is not COMPLETE is abandoned (R47, R183): its engines stop, and RESUME_INFO.VALID is cleared. -/
def State.abandon (s : State) : State :=
  let s := s.clearResume
  if s.layerLive then
    (beams.foldl (fun st b => st.stopEngine b) s.freeToken).endsLayer fun st => st.onLayers fun l => { l with active := .abandoned }
  else s

/-! ## Starts (R164, R166, R182) -/

/-- A beam in the mask that cannot work at a start: not enabled, or in FAULT (R131, R201). -/
def State.cannotWork (s : State) (b : Fin 48) : Bool := !s.beamEnabled b || !(s.chan b).fails.isEmpty

/-- An engine starts a stream at record `i` (R67, R166, R182). What it has committed is still sent; a beam that has failed in the layer starts nothing (R134).
Its first record starts after the commit point, so no earlier than the layer start + COMMIT_LEAD (R166 does not say which: DESIGN CHOICE, log entry 79). -/
def State.startEngine (s : State) (b : Fin 48) (pre : Bool) (i : Nat) : State :=
  let s := s.withdraw b fun r => decide (r.start ≤ s.commitPoint)
  if (s.kerf b).failed then s
  else
    let bad := s.cannotWork b
    let s := s.onKerf b fun k => { k with
      engine := if bad then .failed else .running, failed := bad, notice := bad, failAt := s.now, failIndex := 0xFFFFFFFF, preheat := pre
      fifo := [], queue := [], next := i, stick := none, stickDone := 0, held := false, starved := false, starveSet := false, wantStick := false
      taken := 0, limit := 0, waitSince := none, chain := false, preDone := false, frontier := max k.frontier s.commitPoint
      refusals := if pre then k.refusals else 0, sticks := if pre then k.sticks else 0, lastRule := none, blocker := 0 }
    if bad then s else s.fill b fifoSize

/-- COMMIT_LEAD computed anew over the enabled beams with records (R166). -/
def State.setLead (s : State) : State :=
  let s := beams.foldl (fun st b => st.takeLags b) s
  let mask := match s.layers.activePkg with
    | some p => p.beamMask
    | none => 0
  s.setF 0x2010 0 24 (s.computeLead mask)

/-- The counters that cover a layer are cleared (R189, R218). -/
def State.clearLayerCounters (s : State) : State :=
  let s := ([0x04000100, 0x04000104, 0x04000108, 0x0400010C, 0x04000110, 0x04000114, 0x04000118, 0x0400011C]).foldl (fun st a => st.setReg a 0) s
  beams.foldl (fun st b => (([kfRecords b, kfStarved b, kfHeldTicks b, kfBreaks b, kfClamped b]).foldl (fun st a => st.setReg a 0) st).onKerf b fun k =>
    { k with onNs := 0 }) s

/-- The layer start (R166): the main streams start afresh at a move into EXPOSE. -/
def State.startMain (s : State) : State :=
  match s.layers.activePkg with
  | none => s
  | some p =>
    let s := s.onLayers fun l => { l with
      active := .running, layerStart := s.now, mainBegun := true, resumed := false, sentDone := false, starts := l.starts + 1 }
    let s := s.clearLayerCounters.onResume fun r => { r with
      layer := p.layer, jobGen := p.jobGen, valid := false, sticksValid := false, index := List.replicate 48 0xFFFFFFFF, sticks := 0 }
    let s := beams.foldl (fun st b => (st.setReg (kfLastDone b) 0xFFFFFFFF).plumbLayer b) s
    let s := s.setLead
    let s := (maskBeams p.beamMask).foldl (fun st b => st.startEngine b false 0) s
    s.grainLayer.scribeLayer.footprintStart

/-- The resume block turns to the active layer, of which no record has completed (R65), unless it holds the layer's own interrupted point (R66). -/
def State.trackLayer (s : State) (p : Pkg) : State :=
  if s.resume.valid ∧ s.resume.layer = p.layer ∧ s.resume.jobGen = p.jobGen then s
  else s.onResume fun r => { r with layer := p.layer, jobGen := p.jobGen, index := List.replicate 48 0xFFFFFFFF, sticks := 0 }

/-- The preheat streams start (R166, R182). -/
def State.startPreheat (s : State) : State :=
  match s.layers.activePkg with
  | none => s
  | some p =>
    let s := s.trackLayer p
    let s := ((s.onLayers fun l => { l with active := .preheating, preDone := false }).setLead).setReg 0x04800038 (BitVec.ofNat 32 s.layerNo)
    (maskBeams p.beamMask).foldl (fun st b => if (p.beam b.val).preCount = 0 then st else st.startEngine b true 0) s

/-- The preheat streams are left (R182): each ends at its next record boundary, so what is committed completes (R166) and the rest is withdrawn. An
interrupted stream starts again from index 0. -/
def State.leavePreheat (s : State) : State :=
  let c := s.commitPoint
  let s := beams.foldl (fun st b =>
    if (st.kerf b).preheat then ((st.endWait b c).withdraw b fun r => decide (r.start ≤ c)).onKerf b fun k => { k with
      engine := if k.failed then .failed else .ready, preheat := false, fifo := [], next := 0, starved := false }
    else st) s.freeToken
  if s.layers.active = .preheating then s.onLayers fun l => { l with active := .ready } else s

/-! ## PAUSE and HOLD (R50, R51, R180) -/

/-- The move into PAUSE begins (R50, R180): nothing further is committed; records whose start is not committed are withdrawn. -/
def State.pauseBegin (s : State) : State :=
  let c := s.commitPoint
  beams.foldl (fun st b => (st.commitStick b).withdraw b fun r => decide (r.start ≤ c)) s

/-- Whether every engine has finished what it committed. -/
def State.enginesStill (s : State) : Bool := beams.all fun b => (s.kerf b).rels.isEmpty

/-- The engines as PAUSE finds them: stopped at a record boundary. No beam waits any more, and the token is free (R198). -/
def State.pauseEngines (s : State) : State :=
  beams.foldl (fun st b =>
    if (st.kerf b).engine.runs then ((st.endWait b st.commitPoint).dropGrant b).onKerf b fun k => { k with engine := .stopped } else st) s.freeToken

/-- A hold stops every engine at once (R51); the layer in progress is HELD. -/
def State.holdEngines (s : State) : State :=
  let s := beams.foldl (fun st b => st.stopEngine b) s.freeToken
  if s.layerInProgress then s.onLayers fun l => { l with active := .held } else s

/-- From PAUSE to EXPOSE every beam continues with its next record (R50, R67, R180). -/
def State.continueEngines (s : State) : State :=
  let s := s.onLayers fun l => { l with active := .running, layerStart := if l.resumed then s.now else l.layerStart, resumed := false }
  let s := s.setLead.setReg 0x04800038 (BitVec.ofNat 32 s.layerNo)
  beams.foldl (fun st b =>
    let k := st.kerf b
    if k.engine = .stopped ∧ k.failed = false then
      if st.cannotWork b then st.onKerf b fun k => { k with engine := .failed, failed := true, notice := true, failAt := st.now, failIndex := st.reg (kfLastDone b) }
      else
        let n := (st.streamOf b false).2
        let st := st.onKerf b fun k => { k with engine := if n ≤ k.next then .draining else if k.wantStick then .window else .running }
        st.approach b
    else st) s

/-! ## Jobs and packages (R162-R164) -/

/-- A package becomes the active one (R163, R206): no record of it is done, and no beam has failed in it. What a beam has committed for the layer before it
still completes. -/
def State.activate (s : State) : State :=
  match s.layers.inactPkg with
  | none => s
  | some p =>
    let base := halfBase (!s.layers.halfB)
    let sticks := tabulate p.stickCount fun k => let e := s.stickEntry base p k; (⟨.free, none, e.1, e.2.1, e.2.2, 0⟩ : Stick)
    let s := s.onLayers fun l => { l with
      halfB := !l.halfB, active := .ready, inactive := .empty, activePkg := some p, inactPkg := none, mainBegun := false, resumed := false
      preDone := false, sticks := sticks, uncovered := [], mainUncov := false, sentDone := false }
    let s := beams.foldl (fun st b => (st.setReg (kfLastDone b) 0xFFFFFFFF).onKerf b fun k => { initKerf with
      engine := if p.beamMask.getLsbD b.val then .ready else .off, pos := k.pos, raw := k.raw, coast := k.coast, rels := if k.failed then [] else k.rels
      planned := k.planned, gates := k.gates, past := k.past, frontier := k.frontier, tagSentAt := k.tagSentAt, tagMerged := k.tagMerged, onNs := k.onNs }) s
    let s := if p.layer = s.resume.layer ∧ p.jobGen = s.resume.jobGen then s else s.clearResume
    s.coverReport

/-- Why a package cannot be activated, or exposed (R163, R162): a parameter set it uses is not loaded, or a beam's RASTER setting does
not fit its records. -/
def State.pkgFits (s : State) (p : Pkg) : Bool :=
  beams.all fun b =>
    let d := p.beam b.val
    d.psets.all (fun i => s.psetLoaded b i) && (!d.raster || s.isRaster b) && (!d.vector || !s.isRaster b)

/-- Whether closed transfers wrote the first bytes of the inactive half (R106, R108). -/
def State.halfCovers (s : State) (n : Nat) : Bool :=
  let base := halfBase (!s.layers.halfB)
  covers s.front.areaOk base (base + n)

/-- The check of the inactive half ends (R162): VALID or INVALID, with LAYER_CHECKED. DESIGN CHOICE (log entry 93): a package that reaches beyond what closed
transfers wrote has a length beyond the half's valid data, code 0x02. -/
def State.layerChecked (s : State) : State :=
  if s.layers.inactive = .checking then
    let base := halfBase (!s.layers.halfB)
    let p := s.readPkg base
    let res : Option CheckFail := if s.halfCovers p.length = false then some (failAt 2) else match s.headCheck base p with
      | some f => some f
      | none => s.bodyCheck base p
    let f := res.getD (failAt 0)
    let s := s.onLayers fun l => match res with
      | none => { l with inactive := .valid, inactPkg := some (s.pkgFacts base p) }
      | some _ => { l with inactive := .invalid, inactPkg := none }
    let w := f.code + 256 * f.beam + 65536 * f.stick
    let s := (s.setReg 0x2014 (BitVec.ofNat 32 w)).setReg 0x2018 (BitVec.ofNat 32 f.index)
    s.raise 0x0300 (if f.code = 0 then 0 else 1) 0 [] (leBytes 1 f.code ++ leBytes 1 f.beam ++ leBytes 2 f.stick ++ leBytes 4 f.index)
  else s

/-- Whether generation g is newer than h (R164). -/
def newerGen (g h : BitVec 16) : Bool := decide (1 ≤ (g - h).toNat) && decide ((g - h).toNat ≤ 32767)

/-! ## The completion of a record (R177, R178) -/

/-- The first released record of a beam completes at its bed time (R177): its index enters KF_LAST_DONE and the resume block, a stick's
last record sets the stick's bit, and the pieces go to the renderer. After a failure only a record that completes in the same BEAM cycle still does so. -/
def State.recordComplete (s : State) (b : Fin 48) : State :=
  match (s.kerf b).rels with
  | [] => s
  | r :: rest =>
    if (s.kerf b).failed = true ∧ (s.kerf b).failAt / cyc < r.complete / cyc then s
    else
      let s := (s.reach r.complete).commitStick b
      -- a failed beam's pieces are on record since the failure
      let whole := !(s.kerf b).failed
      let s := s.onKerf b fun k => { k with rels := rest, coast := k.coast ++ r.segs, past := if whole then k.past ++ r.pieces else k.past }
      let s := if r.clamped = 0 then s else s.count (kfClamped b) r.clamped
      let s := ((s.pruneQueries b r.place).count (kfRecords b)).plumbBoundary b
      let s := match r.place with
        | .pre _ => s
        | _ => if whole then s.footprintAdd r.pieces else s
      let s := if r.record.ty = tyMarker ∧ r.record.sub = 1 then
          s.tagReached b r.record (match r.place with | .main i => i | .pre i => i | .stick _ i => i | .scan => 0)
        else s
      match r.place with
      | .main i => ((s.setReg (kfLastDone b) (BitVec.ofNat 32 i)).onResume fun q => { q with index := updAt q.index b.val fun _ => BitVec.ofNat 32 i }).onKerf b fun k =>
          { k with failIndex := BitVec.ofNat 32 i }
      | .pre _ => if r.record.ty = tyMarker ∧ r.record.sub = 3 then s.onKerf b fun k => { k with preDone := true, engine := if k.preheat then .done else k.engine } else s
      | .stick n i =>
        let s := s.onKerf b fun k => { k with stickDone := i + 1 }
        if i + 1 = (s.layers.stick n).count then
          ((s.onStick n fun t => { t with state := .done }).markStick n).onKerf b fun k => { k with stick := none, stickDone := 0, queue := [], wantStick := true }
        else s
      | .scan => s

end Sys2Proof.Machine
end

