-- ==== Sys2Proof/Machine/Axis.lean ====
section
/-! DEFINITION. The axes of the motor ports (13_brace_motion.md R401-R403, R407, R421, R425-R427): their registers, positions, safe state
and stops. -/

namespace Sys2Proof.Machine

open Sys2Proof

def mpReg (p : Fin 8) (off : Nat) : Nat := 0x07000000 + 0x1000 * p + off
def fbReg (f : Fin 8) (off : Nat) : Nat := 0x07080000 + 0x100 * f + off
def State.axis (s : State) (p : Fin 8) : Axis := s.axes[p.val]'p.isLt
def State.onAxis (s : State) (p : Fin 8) (f : Axis → Axis) : State := { s with axes := vmod s.axes p f }
def State.feed (s : State) (f : Fin 8) : Feed := s.feeds[f.val]'f.isLt
def State.onFeed (s : State) (f : Fin 8) (g : Feed → Feed) : State := { s with feeds := vmod s.feeds f g }
def ports8 : List (Fin 8) := List.finRange 8

/-- MP_CONFIG's fields (R430). -/
def State.mpKind (s : State) (p : Fin 8) : Nat := s.regF (mpReg p 4) 0 2
def State.fbSel (s : State) (p : Fin 8) : Fin 8 := Fin.ofNat 8 (s.regF (mpReg p 4) 2 3)
def State.fbUse (s : State) (p : Fin 8) : Bool := s.regB (mpReg p 4) 5
def State.noOvershoot (s : State) (p : Fin 8) : Bool := s.regB (mpReg p 4) 6
def State.isBldc (s : State) (p : Fin 8) : Bool := s.mpKind p == 2

/-- The count of a feedback input (R433). -/
def State.fbCount (s : State) (f : Fin 8) : Int := s32 (s.reg (fbReg f 8))

/-- A whole position in the units of the plan (log entry 31). -/
def puUnit : Int := 6000000000000000

/-- An axis's position in PU (R407): its count on a BLDC port, its commanded position on a stepper. -/
def State.axisPos (s : State) (p : Fin 8) : Int := if s.isBldc p then s.fbCount (s.fbSel p) else (s.axis p).pu

/-- MP_POS as the alerts carry it. -/
def State.mpPos (s : State) (p : Fin 8) : List Byte := leBytes 4 (unsignedOf 32 (s.axisPos p))

/-- Whether the plan has come to its end: at rest, and at the target of a position move or a backoff. -/
def Axis.arrived (a : Axis) : Bool :=
  a.v == 0 && a.a == 0 && (match a.motion with
    | .position => a.p == a.target * puUnit
    | .backoff => a.p == a.target * puUnit
    | .stopping => true
    | .velocity => a.target == 0
    | .homing => false
    | .rest => true)

/-- Whether an axis moves. -/
def Axis.moving (a : Axis) : Bool := a.motion != .rest && !a.arrived
def State.anyMoving (s : State) : Bool := ports8.any fun p => (s.axis p).moving

/-- The modes in which bridges are driven or hold (R45). -/
def Mode.bridges : Mode → Bool
  | .idle | .calibrate | .preheat | .recoat | .expose | .pause | .hold | .service => true
  | _ => false

/-- An axis is flagged UNCERTAIN (R421): its unit is DEGRADED with POS_UNCERTAIN until a homing or POSITION_SET. -/
def State.uncertain (s : State) (p : Fin 8) : State :=
  if (s.axis p).uncertain then s
  else (s.onAxis p fun a => { a with uncertain := true, faults := if a.faults.contains 0x28 then a.faults else a.faults ++ [0x28] }).unitFault (.motor p) stDegraded 0x28

/-- UNCERTAIN cleared. -/
def State.certain (s : State) (p : Fin 8) : State :=
  (s.onAxis p fun a => { a with uncertain := false, faults := a.faults.filter (· != 0x28) }).settle (.motor p)

/-- MOVE_DONE (R429): status 0 reached, 1 stopped, 2 latch. -/
def State.moveDoneAlert (s : State) (p : Fin 8) (status : Nat) : State :=
  s.raise 0x0B00 0 0 [1, p] (leBytes 1 status ++ leBytes 3 0 ++ s.mpPos p)

/-- HOME_DONE (R417, R429). -/
def State.homeDoneAlert (s : State) (p : Fin 8) (status : Nat) : State :=
  s.raise 0x0B01 (if status = 0 then 0 else 1) 0 [1, p] (leBytes 1 status ++ leBytes 3 0 ++ s.mpPos p)

/-- A port enters the safe state (R402, R403): its gates go off, a motion under way ends, and a stepper without feedback is uncertain. -/
def State.safePort (s : State) (p : Fin 8) (status : Nat) : State :=
  let a := s.axis p
  if a.gatesOff then s
  else
    let homing := a.motion == .homing || a.motion == .backoff || a.homeWhy.isSome
    let moved := a.moving
    let s := s.onAxis p fun a => { a with v := 0, a := 0, motion := .rest, why := .none, gatesOff := true, holding := false, homeWhy := none, atTarget := false, iInt := 0, iRef := 0, homed := a.homed && !homing }
    let s := if homing then s.homeDoneAlert p 4 else if moved then s.moveDoneAlert p status else s
    if s.mpKind p = 1 ∧ s.fbUse p = false then s.uncertain p else s

/-- Whether a port's bridges may be driven now (R402, R425). -/
def State.mayDrive (s : State) (p : Fin 8) : Bool :=
  let a := s.axis p
  s.mode.mode.bridges && !s.safety.bridgeLatch && s.mpKind p != 0
    && !(a.faults.contains 0x20 || a.faults.contains 0x21 || a.faults.contains 0x27 || (a.faults.contains 0x23 && s.isBldc p))

/-- The gates follow what is permitted (R402). `status` is what a move that this ends reports. -/
def State.bridges (s : State) (status : Nat) : State :=
  ports8.foldl (fun st p =>
    if st.mayDrive p then (if (st.axis p).gatesOff then st.onAxis p fun a => { a with gatesOff := false, restAt := some st.now } else st)
    else st.safePort p status) s

/-- A controlled stop under the limits in force (R425, R426): homing ends in failure with `homeWhy`. -/
def State.stopAxis (s : State) (p : Fin 8) (why : StopWhy) (homeWhy : Nat) : State :=
  let a := s.axis p
  if a.moving then
    let homing := a.motion == .homing || a.motion == .backoff
    s.onAxis p fun a => { a with motion := .stopping, why := why, homeWhy := if homing then some homeWhy else a.homeWhy }
  else s

/-- Every moving axis stops, on entry to PAUSE or HOLD (R426). -/
def State.stopAxes (s : State) : State := ports8.foldl (fun st p => st.stopAxis p .mode 4) s

/-- The DRIVE domain starts again (R419): counts were not kept, so axes that live by them are uncertain. After UPDATE the spec gives a count no value:
it is free. -/
def State.driveStarts (s : State) : State :=
  let s : State := if s.mode.prev = .update then
      ports8.foldl (fun st f => ((st.setReg (fbReg f 8) (Config.measured (fbReg f 8) st.now)).setReg (fbReg f 0xC) 0xFFFFFFFF).onFeed f fun x =>
        { x with lastEdge := none, dir := 0, teeth := [], errs := 0, ref := none, refArmed := false }) s
    else s
  ports8.foldl (fun st p => if st.mpKind p != 0 && (st.isBldc p || st.fbUse p) then st.uncertain p else st) s

/-- The 40 bytes of positions and flags of every port that RESET and SHUTDOWN records carry (R456). -/
def State.axesBytes (s : State) (known : Bool) : List Byte :=
  (ports8.flatMap fun p => s.mpPos p)
    ++ ports8.map fun p => if known then BitVec.ofNat 8 (bit (s.axis p).homed + 2 * bit (s.axis p).uncertain) else 0xFF

end Sys2Proof.Machine
end

