-- ==== Sys2Proof/Machine/Modes.lean ====
section
/-! DEFINITION. The modes and their moves (02_modes_and_startup.md R45-R51), hold causes, the two latches and the LASER_EN inputs
(R59-R61), the supply monitors (R62, R63) and the end of a layer across the chain (R181). -/

namespace Sys2Proof.Machine

open Sys2Proof

/-! ## Which events act -/

/-- A device reset that is held (R54). -/
def State.resetHeld (s : State) : Bool := s.power.heldPin || s.power.heldThermal || s.power.heldRef

/-- Powered and not held in a reset: BOOT of a worker that waits for its index included. -/
def State.awake (s : State) : Bool := s.power.power == .on && !s.resetHeld && s.mode.mode != .sill

/-- The HUB and the firmware run: not in SILL, and start-up is past (R45, R52). -/
def State.runs (s : State) : Bool := s.awake && s.mode.mode != .boot

/-- An event of a block that runs in every mode but SILL and BOOT. -/
def State.act (s : State) (t : Nat) (f : State → State) : State :=
  let s := s.touch t
  if s.runs then s.keep (f s) else s

/-- An event of the chain, which forms while a worker is still in BOOT (R364). -/
def State.chainAct (s : State) (t : Nat) (f : State → State) : State :=
  let s := s.touch t
  if s.awake then s.keep (f s) else s

/-- An event of the Sill domain, which runs whenever the module is powered (R56). -/
def State.sillAct (s : State) (t : Nat) (f : State → State) : State :=
  let s := s.touch t
  if s.power.power = .on then s.keep (f s) else s

/-- An event of the BEAM domain (R24). -/
def State.beamAct (s : State) (t : Nat) (f : State → State) : State := s.act t fun s => if s.mode.mode.beamOn then f s else s

/-- An event of the DRIVE domain (R24). -/
def State.driveAct (s : State) (t : Nat) (f : State → State) : State := s.act t fun s => if s.mode.mode.driveOn then f s else s

/-! ## The latches (R59, R71) -/

def State.onSafety (s : State) (f : Safety → Safety) : State := { s with safety := f s.safety }
def State.onPower (s : State) (f : Power → Power) : State := { s with power := f s.power }
def State.onMode (s : State) (f : ModeCtl → ModeCtl) : State := { s with mode := f s.mode }

/-- The laser-safety latch is set by `cause`: every gate goes low (R59). -/
def State.setLaser (s : State) (cause : Nat) : State := (s.onSafety fun c => { c with laserLatch := true, laserCause := cause }).gatesLow

/-- The bridge latch is set by `cause`: every motor bridge enters the safe state (R59, R402). -/
def State.setBridge (s : State) (cause : Nat) : State := (s.onSafety fun c => { c with bridgeLatch := true, bridgeCause := cause }).bridges 2

/-- Both latches. -/
def State.setLatches (s : State) (cause : Nat) : State := (s.setLaser cause).setBridge cause

/-! ## Scheduled commands that end (R94) -/

/-- Whether the manager holds a session open; a worker leaves that to the manager, through which its alerts go. -/
def State.sessionOpen (s : State) (id : Word) : Bool := !s.chain.manager || s.front.sessions.any fun x => x.id == id

/-- The levels of a path below its device. -/
def levelsOf (path : List Byte) : List Nat := ((path.drop 1).takeWhile (· != 0xFF)).map (·.toNat)

/-- EXEC_RESULT (R94, R99) on a path of this device; the result of a closed session's command goes to the Tally alone (R88). -/
def State.execResult (s : State) (session seq : Word) (levels : List Nat) (st : Status) (late : Nat) : State :=
  let sev := if st.done then 0 else 1
  let pl := leBytes 4 session.toNat ++ leBytes 4 seq.toNat ++ leBytes 2 st.code ++ leBytes 2 0 ++ leBytes 4 (min late 0xFFFFFFFF)
  if s.sessionOpen session then s.raise 0x0005 sev 0 levels pl else s.note 0x0005 sev 0 levels pl

/-- A pending scheduled command is removed with ABORTED; of a move, the workers hear (R46). -/
def State.abortSched (s : State) (e : Sched) : State :=
  let s := if e.opcode = 0x0010 then s.toWorkers ctlPlan (planNotice (byteAt e.packet.params 0) e.due false) else s
  ({ s with front := { s.front with sched := s.front.sched.erase e } }).execResult e.packet.session e.packet.sequence (levelsOf e.packet.path) .aborted 0

/-- The commands that an entry to HOLD cancels: MOVE, HOME and MODE_SET into a laser mode (R94). DESIGN CHOICE (log entry 41): no other opcode
starts emission by itself; SCRIBE_PASS stays, since its marks wait for a mode that permits them. -/
def Sched.holdCancels (e : Sched) : Bool :=
  e.opcode == 0x0B01 || e.opcode == 0x0B03 || (e.opcode == 0x0010 && [4, 5, 6, 7, 10].contains (byteAt e.packet.params 0))

/-- An entry to HOLD cancels them (R94); in a worker, the manager's moves into laser modes too. -/
def State.cancelForHold (s : State) : State :=
  let s : State := { s with front := { s.front with moves := s.front.moves.filter fun m => !([4, 5, 6, 7, 10] : List Nat).contains m.2 } }
  (s.front.sched.filter Sched.holdCancels).foldl (fun st e => st.abortSched e) s

/-! ## Entering a mode (R45, R50, R51) -/

/-- The modes from which R47 permits HOLD. -/
def Mode.holdable : Mode → Bool
  | .calibrate | .preheat | .recoat | .expose | .pause | .service => true
  | _ => false

/-- What leaving a mode ends: a mark scan in RECOAT or CALIBRATE, the preheat streams in PREHEAT (R182, R291), and open excursions in PREHEAT and
EXPOSE (R239). -/
def State.leaveMode (s : State) (dst : Mode) : State :=
  match s.mode.mode with
  | .recoat => s.cutScans
  | .calibrate => s.cutScans
  | .preheat => if dst = .hold then s.excCloseDevice else s.excCloseDevice.leavePreheat
  | .expose => s.excCloseDevice
  | _ => s

/-- The clock domains that start or stop with the mode (R24); a domain that starts takes the register writes that waited for it (R25). -/
def State.moveDomains (s : State) (old new : Mode) : State :=
  let s : State := if old.beamOn = false ∧ new.beamOn = true then s.beamClock.beamStart else if old.beamOn = true ∧ new.beamOn = false then s.beamStop else s
  -- lags that have been written come into force (R129)
  let s : State := if new.beamOn then beams.foldl (fun st b => st.takeLags b) s else s
  if old.driveOn = false ∧ new.driveOn = true then s.driveStarts else s

/-- What the engines and axes do on entry (R50, R51, R166, R182, R426). -/
def State.moveWork (s : State) (old new : Mode) : State :=
  match new with
  | .expose =>
    if old = .pause ∧ (s.layers.mainBegun = true ∨ s.layers.resumed = true) then s.continueEngines
    else (s.onChain fun c => { c with layerDone := [] }).startMain
  | .preheat => s.startPreheat
  | .pause =>
    let s := s.pauseEngines
    let s := if s.layerInProgress then s.onLayers fun l => { l with active := .paused } else s
    s.stopAxes
  | .hold => s.holdEngines.stopAxes
  | .idle => if old = .pause ∨ old = .hold then s.abandon else s
  | .calibrate => s.setLead
  | .recoat => s.setLead
  | .service => s.setLead
  | _ => s

/-- The device moves to a mode: MODE, the domains, the engines, the axes, and MODE_CHANGED with its record (R49, R70). A held OFFSET step and
partners that wait are taken up on entry to CONFIG or IDLE (R365, R389). -/
def State.enterMode (s : State) (m : Mode) (cause : Nat) : State :=
  let old := s.mode.mode
  let s := s.leaveMode m
  let atEnd := decide (old = .expose) && decide (s.layers.active = .complete)
  let s := s.onMode fun c => { c with
    mode := m, prev := old, transition := none, holdCause := if m = .hold then BitVec.ofNat 8 cause else 0
    graceFrom := if m.isLaser then s.now else c.graceFrom, entered := s.now, atLayerEnd := m == .hold && atEnd }
  let s := ((s.moveDomains old m).moveWork old m).gatesLow.bridges 1
  let s : State := if m.isLaser then beams.foldl (fun st b => st.rasterEntry b) s else s
  let s := s.raise 0x0003 0 0 [] (leBytes 1 old.code ++ leBytes 1 m.code ++ leBytes 1 s.mode.holdCause.toNat ++ leBytes 1 0)
  let s := if m = .hold then s.cancelForHold else s
  let s := if m = .config ∨ m = .idle then (s.offsetStep State.applyHeld).admitWaiting else s
  (s.toWorkers ctlMode (s.modeNotice m cause)).report

/-- A hold cause at this device (R51): recorded always; it moves the device to HOLD from every mode that permits it, also out of a move into
PAUSE. -/
def State.takeHold (s : State) (cause : Nat) : State :=
  let became := s.mode.mode.holdable
  let s := s.note 0x0088 (if became then 2 else 0) 0 [] (leBytes 1 cause ++ leBytes 1 s.mode.mode.code ++ leBytes 1 (bit became) ++ leBytes 1 0)
  if became then s.enterMode .hold cause else s

/-- A hold cause (R51), of which the chain hears (R46). -/
def State.holdCause (s : State) (cause : Nat) : State := (s.takeHold cause).toManager ctlHold (leBytes 1 cause ++ leBytes 3 0)

/-! ## The conditions of a move (R47, R48) -/

/-- The moves that a command may make. -/
def moveInTable : Mode → Mode → Bool
  | .config, .idle | .idle, .config | .idle, .calibrate | .idle, .preheat | .idle, .recoat | .idle, .expose => true
  | .recoat, .preheat | .recoat, .expose | .preheat, .expose | .preheat, .recoat | .expose, .recoat | .expose, .idle => true
  | .calibrate, .idle | .recoat, .idle | .expose, .pause | .pause, .expose => true
  | .calibrate, .hold | .preheat, .hold | .recoat, .hold | .expose, .hold | .pause, .hold | .service, .hold => true
  | .hold, .pause | .hold, .recoat | .pause, .idle | .hold, .idle => true
  | .idle, .service | .service, .idle | .config, .update | .idle, .update | .update, .config => true
  | _, _ => false

/-- The moves that take a secure packet. -/
def moveSecure (from_ dst : Mode) : Bool := from_ == .service && dst == .idle || dst == .service || dst == .update || from_ == .update

/-- The beams that have records in a package (R47): in the streams, or as an eligible beam of a shared stick. -/
def State.beamsOf (s : State) (p : Pkg) : List (Fin 48) :=
  (maskBeams p.beamMask).filter fun b => (p.beam b.val).mainCount != 0 || (p.beam b.val).preCount != 0 || s.layers.sticks.any fun t => t.eligible.getLsbD b.val

/-- A beam with records whose Scribe table is not loaded. -/
def State.tableMissing (s : State) : Bool :=
  match s.layers.activePkg with
  | some p => (s.beamsOf p).any fun b => (s.scribe b).table != .loaded
  | none => false

/-- Whether every device of the chain has sent LAYER_DONE; a worker adds 256 to its index when work of its layer is uncovered. -/
def State.chainDone (s : State) : Bool :=
  s.layers.active == .complete && (s.workers.all fun m => s.chain.layerDone.any fun d => d % 256 == m.1)

/-- Whether the active layer is in the state that a move into PREHEAT or EXPOSE needs (R152, R47). -/
def State.layerFor (s : State) (from_ dst : Mode) : Bool :=
  let st := match dst, from_ with
    | .expose, .pause => s.layers.active == .paused || (s.layers.active == .complete && !s.chainDone)
    | .expose, _ => s.layers.active == .ready || s.layers.active == .preheating
    | _, _ => s.layers.active == .ready
  st && (match s.layers.activePkg with
    | some p => s.pkgFits p
    | none => false) && s.chainSameLayer

/-- A slot is being written (R486). -/
def State.slotWriting (s : State) : Bool := s.sec.slotA.st == .writing || s.sec.slotB.st == .writing

/-- The first failing cause of a move, 0 when it may be made. Chain discovery has not finished while the chain forms (R364). -/
def State.moveCause (s : State) (dst : Mode) : Nat :=
  let from_ := s.mode.mode
  let laser := dst.isLaser
  let layer := dst == .expose || dst == .preheat
  if moveInTable from_ dst = false then 1
  else if from_ = .update ∧ s.slotWriting = true then 1
  else if (laser = true ∨ (from_ = .hold ∧ dst = .pause)) ∧ (s.safety.laserLatch || s.safety.bridgeLatch) = true then 2
  else if laser = true ∧ (s.safety.enA && s.safety.enB) = false then 3
  else if laser = true ∧ s.safety.lockout = true then 4
  else if layer = true ∧ s.tableMissing = true then 5
  else if layer = true ∧ s.layerFor from_ dst = false then 6
  else if from_ = .expose ∧ (dst = .recoat ∨ dst = .idle) ∧ s.layers.active ≠ .complete then 6
  else if from_ = .config ∧ dst = .idle ∧ s.power.ref25 = false then 7
  else if from_ = .config ∧ dst = .idle ∧ s.chain.forming = true then 0xA
  else if laser = true ∧ s.regB 0x0B000000 0 = true then 8
  else if laser = true ∧ s.regB 0x0B000000 7 = true then 9
  else if laser = true ∧ (s.chainSameMode && s.chainAwake) = false then 0xA
  else if from_ = .idle ∧ dst = .config ∧ s.anyMoving = true then 0xB
  else if from_ = .hold ∧ dst = .pause ∧ s.unacked = true then 0xC
  else if from_ = .hold ∧ dst = .recoat ∧ s.mode.atLayerEnd = false then 0xD
  else 0

/-- REFUSE_CAUSE (R48). -/
def State.setRefuse (s : State) (cause : Nat) : State := s.onMode fun c => { c with refuseCause := BitVec.ofNat 8 cause }

/-- The move from EXPOSE into PAUSE begins (R50): the chain hears of it, and nothing further is committed. -/
def State.beginPause (s : State) : State :=
  ((s.onMode fun c => { c with transition := some .pause }).pauseBegin).toWorkers ctlMode (s.modeNotice .pause 0)

/-- An accepted move is made: PAUSE begins a transition (R50), HOLD is a host hold cause, the others are made at once. -/
def State.makeMove (s : State) (dst : Mode) : State :=
  match dst with
  | .pause => if s.mode.mode = .expose then s.beginPause else s.enterMode .pause 0
  | .hold => s.holdCause 7
  | m => s.enterMode m 0

/-- The mode of a code. -/
def modeOf (c : Nat) : Option Mode :=
  [Mode.sill, .boot, .config, .idle, .calibrate, .preheat, .recoat, .expose, .pause, .hold, .service, .update][c]?

/-! ## The end of a layer (R181, R50) -/

/-- Uncovered work in any device of the chain. -/
def State.chainUncovered (s : State) : Bool := s.uncoveredWork || s.chain.layerDone.any fun d => decide (256 ≤ d)

/-- The layer-end move (R181): to the mode that the package names, or to HOLD with UNCOVERED_BEAM. -/
def State.layerEndMove (s : State) : State :=
  if s.chain.manager = true ∧ s.mode.mode = .expose ∧ s.chainDone = true then
    if s.chainUncovered then s.holdCause 3
    else s.enterMode (if (s.layers.activePkg.map (·.nextIdle)).getD false then .idle else .recoat) 0
  else s

/-- The last beam has stopped (R50): the mode becomes PAUSE, unless the chain's layer is COMPLETE and its end takes the place of the pause. A
worker's layer end is the manager's to move (R46). -/
def State.pauseReached (s : State) : State :=
  if s.mode.transition = some .pause ∧ s.enginesStill = true then
    if s.chain.manager = true ∧ s.chainDone = true then s.layerEndMove else s.enterMode .pause 0
  else s

/-! ## LASER_EN (R59, R60) -/

/-- The present level of both inputs. -/
def Safety.enHigh (c : Safety) : Bool := c.enA && c.enB

/-- The window of R60 and the high time of R61: 10 ms. -/
def enWindow : Nat := 10 * milli

/-- An input changes level: the discrepancy timer and the lockout's steps follow (R60). -/
def Safety.level (c : Safety) (chanB lvl : Bool) (t : Nat) : Safety :=
  let was := if chanB then c.enB else c.enA
  if was = lvl then c
  else
    let c := if chanB then { c with enB := lvl, lowB := if lvl then c.lowB else t, highB := if lvl then t else c.highB }
      else { c with enA := lvl, lowA := if lvl then c.lowA else t, highA := if lvl then t else c.highA }
    let near (a b : Nat) : Bool := decide (a ≤ b + enWindow) && decide (b ≤ a + enWindow)
    let differ := c.enA != c.enB
    let c := { c with discSince := if differ then (match c.discSince with | none => some t | some d => some d) else none }
    match c.lockStage with
    | .waitLow => if c.lockout && !c.enA && !c.enB && near c.lowA c.lowB then { c with lockStage := .waitHigh } else c
    | .waitHigh => if c.lockout && c.enA && c.enB && near c.highA c.highB then { c with lockout := false, lockStage := .waitLow } else c

/-! ## LATCH_CLEAR (R61) -/

/-- The first failing cause of LATCH_CLEAR, 0 when it may clear the latches that it names: bit 0 the laser-safety latch, bit 1 the bridge
latch. DESIGN CHOICE (log entry 37): the bridge latch alone clears while a LASER_EN input is low; R61 asks only that VMOT is within its limits. -/
def State.clearCause (s : State) (which : Nat) : Nat :=
  let c := s.safety
  let okMode := s.mode.mode == .config || s.mode.mode == .idle || s.mode.mode == .pause || s.mode.mode == .hold
  let laser := which.testBit 0
  if okMode = false then 1
  else if laser = true ∧ (c.enHigh = false ∨ s.now < c.highA + enWindow ∨ s.now < c.highB + enWindow) then 3
  else if laser = true ∧ c.lockout = true then 4
  else if laser = true ∧ s.power.ref25 = false then 7
  else if laser = true ∧ s.regB 0x0B000000 7 = true then 9
  else if which.testBit 1 = true ∧ (s.regB 0x0B000000 3 || s.regB 0x0B000000 4) = true then 0xB
  else 0

/-- The latches that LATCH_CLEAR names are cleared; the RDY grace runs from the laser-safety latch's clearing (R130). -/
def State.clearLatches (s : State) (which : Nat) : State :=
  let laser := which.testBit 0
  let s := (s.onSafety fun c => { c with laserLatch := c.laserLatch && !laser, bridgeLatch := c.bridgeLatch && !which.testBit 1 }).onMode fun c =>
    { c with graceFrom := if laser then s.now else c.graceFrom }
  s.bridges 1

/-! ## Supplies (R62, R63) -/

def supplyStatus : Nat := 0x0B000000
def dipCount : Nat := 0x0B000024

/-- VIN_MIN (R75): the lowest VIN that an event has brought, or a lower one that the block has measured. -/
def State.vinMin (s : State) : Nat := min (s.regF 0x0B000008 0 16) ((Config.measured 0x0B000008 s.now).toNat % 65536)

/-- VIN_MIN follows a measured VIN (R75), and the lowest of a dip with it. -/
def State.vinSeen (s : State) (mv : Nat) : State :=
  let s := if mv < s.regF 0x0B000008 0 16 then s.setF 0x0B000008 0 16 mv else s
  s.onPower fun p => { p with dipMin := if p.dipActive then min p.dipMin mv else p.dipMin }

/-- The SUPPLY alert with its record (R62, R99). -/
def State.supplyAlert (s : State) (low : Nat) : State :=
  s.raise 0x0007 1 0x60 [] (leBytes 4 (s.reg supplyStatus).toNat ++ leBytes 2 low ++ leBytes 2 0)

/-- The SUPPLY_LEVEL record of a change that sends no alert (R62). -/
def State.supplyLevel (s : State) : State := s.note 0x0083 1 0x60 [] (leBytes 4 (s.reg supplyStatus).toNat)

/-- VIN has risen above 5.8 V again (R63): the dip is recorded and counted in its histogram bin. DESIGN CHOICE (log entry 91): the time spent below 5.6 V is
measured from the fall below 5.6 V to this end of the dip. -/
def State.dipEnd (s : State) (mv : Nat) : State :=
  if s.power.dipActive && decide (5800 < mv) then
    let s := (s.vinSeen mv).setB supplyStatus 0 false
    let low := s.power.dipMin
    let bin := histBin (s.tally.rings.limits.getD 3 []) low
    let s := s.note 0x0082 1 0x60 [] (leBytes 2 low ++ leBytes 1 bin ++ leBytes 1 0 ++ leBytes 4 (s.now - s.power.dipStart))
    (s.ringHist 3 low).onPower fun p => { p with dipActive := false }
  else s

/-- VIN crosses 41.0 V (R62). -/
def State.vinHigh (s : State) (mv : Nat) : State :=
  let up := decide (41000 < mv)
  if s.regB supplyStatus 2 = up then s else let s := s.setB supplyStatus 2 up; s.supplyAlert (if s.power.dipActive then s.power.dipMin else mv)

/-- HOLDUP crosses 4.8 V (R62). -/
def State.holdupCross (s : State) (mv : Nat) : State :=
  let low := decide (mv < 4800)
  if s.regB supplyStatus 8 = low then s else let s := s.setB supplyStatus 8 low; s.supplyAlert s.vinMin

/-- The die crosses 100 °C (R62), `temp` in 1/256 °C. -/
def State.tempCross (s : State) (temp : BitVec 16) : State :=
  let hot := decide (25600 ≤ signed 16 temp.toNat)
  if s.regB supplyStatus 7 = hot then s else (s.setB supplyStatus 7 hot).supplyLevel

/-- VMOT leaves or re-enters its limits (R62): the ports go to the safe state and show FAULT, the bridge latch is set, and HOLD follows if an
axis moved. -/
def State.vmotLevel (s : State) (mv : Nat) : State :=
  let uv := decide (mv < s.regF 0x0B000014 0 16)
  let ov := decide (s.regF 0x0B000014 16 16 < mv)
  if s.regB supplyStatus 3 = uv ∧ s.regB supplyStatus 4 = ov then s
  else
    let was := s.regB supplyStatus 3 || s.regB supplyStatus 4
    let s := ((s.setB supplyStatus 3 uv).setB supplyStatus 4 ov).supplyLevel
    if (uv || ov) = false then
      ports8.foldl (fun st p => (st.onAxis p fun a => { a with faults := a.faults.filter (· != 0x27) }).settle (.motor p)) s
    else if was then s
    else
      let moved := s.anyMoving
      let s := ports8.foldl (fun st p =>
        if st.mpKind p = 0 then st
        else
          let st := st.onAxis p fun a => { a with faults := a.faults ++ [0x27] }
          let st := st.unitFault (.motor p) stFault 0x27
          st.raise 0x0B02 2 0x27 [1, p] (leBytes 1 0x27 ++ leBytes 3 0 ++ st.mpPos p)) s
      let s := s.setBridge 6
      if moved then s.holdCause 6 else s

/-- VLED leaves or re-enters its limits (R62): the enabled channels go to the safe state and show FAULT. -/
def State.vledLevel (s : State) (mv : Nat) : State :=
  let uv := decide (mv < s.regF 0x0B000018 0 16)
  let ov := decide (s.regF 0x0B000018 16 16 < mv)
  if s.regB supplyStatus 5 = uv ∧ s.regB supplyStatus 6 = ov then s
  else
    let was := s.regB supplyStatus 5 || s.regB supplyStatus 6
    let s := ((s.setB supplyStatus 5 uv).setB supplyStatus 6 ov).supplyLevel
    let onLed (st : State) (c : Fin 16) (f : Led → Led) : State := { st with lights := { st.lights with leds := updAt st.lights.leds c.val f } }
    if (uv || ov) = false then
      (List.finRange 16).foldl (fun st c => (onLed st c fun l => { l with faults := l.faults.filter (· != 0x34) }).settle (.led c)) s
    else if was then s
    else
      (List.finRange 16).foldl (fun st c =>
        if st.regB (0x07800004 + 0x100 * c.val) 0 then (onLed st c fun l => { l with faults := l.faults ++ [0x34] }).unitFault (.led c) stFault 0x34
        else st) s

end Sys2Proof.Machine
end

