-- ==== Sys2Proof/Machine/Light.lean ====
section
/-! DEFINITION. Chamber illumination (14_illumination.md R435-R451): the LED channels, their windows, temperature, staged values and commits,
and the tests of the lamps. -/

namespace Sys2Proof.Machine

open Sys2Proof

/-! ## Joist lanes and bonded pairs (11 R353), which the windows of the cameras need -/

def jlReg (n : Fin 16) (off : Nat) : Nat := 0x08000000 + 0x200 * n + off

/-- A bonded pair's lanes (R353). -/
def State.bonded (s : State) (n : Fin 16) : Bool := (s.joist n).bonded
def pairEven (n : Fin 16) : Fin 16 := Fin.ofNat 16 (n.val / 2 * 2)
def pairOther (n : Fin 16) : Fin 16 := Fin.ofNat 16 (if n.val % 2 = 0 then n.val + 1 else n.val - 1)

/-- The lane that carries a head's messages other than its odd lines (R353). -/
def State.headLane (s : State) (n : Fin 16) : Fin 16 := if s.bonded n then pairEven n else n

/-! ## Channels -/

def ledReg (c : Fin 16) (off : Nat) : Nat := 0x07800000 + 0x100 * c + off
def State.led (s : State) (c : Fin 16) : Led := s.lights.leds.getD c.val initLed
def State.onLights (s : State) (f : Lights → Lights) : State := { s with lights := f s.lights }
def State.onLed (s : State) (c : Fin 16) (f : Led → Led) : State := s.onLights fun l => { l with leds := updAt l.leds c.val f }
def leds16 : List (Fin 16) := List.finRange 16

/-- The fields of LED_CFG (R449). -/
def State.ledOn (s : State) (c : Fin 16) : Bool := s.regB (ledReg c 4) 0
def State.ledPhase (s : State) (c : Fin 16) : Nat := s.regF (ledReg c 4) 2 2
def State.ledLane (s : State) (c : Fin 16) : Fin 16 := Fin.ofNat 16 (s.regF (ledReg c 4) 4 4)
def State.ledNtc (s : State) (c : Fin 16) : Nat := s.regF (ledReg c 4) 10 2
def pwmBits (w : Word) : Nat := if field w 16 4 = 0 then 16 else field w 16 4

/-- The on-time and the period of a channel's PWM in ns (the chapter's formulas, R437). -/
def State.ledOnNs (s : State) (c : Fin 16) : Nat :=
  let w := s.reg (ledReg c 4)
  (s.led c).level.2 / 2 ^ (16 - pwmBits w) * (field w 24 8 + 1) * 5
def State.ledPeriod (s : State) (c : Fin 16) : Nat := let w := s.reg (ledReg c 4); 2 ^ pwmBits w * (field w 24 8 + 1) * 5

/-- i_eff in mA (R435, R440). -/
def State.ledCurrent (s : State) (c : Fin 16) : Nat :=
  min (s.regF (ledReg c 0x14) 16 16) (roundHalfAway (((s.led c).level.1 : Nat) * (s.led c).factor) unit13.toNat).toNat

/-- Whether the window of a lane is open now (R438): it runs, or its start has come. -/
def State.windowOpen (s : State) (n : Fin 16) : Bool :=
  (s.joist (s.headLane n)).windows.any fun w => w.running || (decide (w.start ≤ s.now) && decide (s.now < w.start + w.dur))

/-- Whether a channel follows the windows of its lane (R438): LOCKED or GATED with the lane UP. -/
def State.ledPhased (s : State) (c : Fin 16) : Bool := s.ledPhase c != 0 && (s.joist (s.ledLane c)).lane.link == .up

/-- Whether a channel emits apart from its PWM (R436, R438): enabled with its domain running, not off by a fault, and when GATED inside a
window of a lane that is UP. -/
def State.ledEmits (s : State) (c : Fin 16) : Bool :=
  s.ledOn c && s.mode.mode.driveOn && s.unitState (.led c) != stFault && (s.led c).level.1 != 0
    && (s.ledPhase c != 2 || (s.ledPhased c && s.windowOpen (s.ledLane c)))

/-- Whether the FET's PWM is in its on part now (R437). -/
def State.ledLit (s : State) (c : Fin 16) : Bool :=
  s.ledEmits c && ((s.led c).level.2 == 0xFFFF || decide ((s.now - (s.led c).pwmStart) % s.ledPeriod c < s.ledOnNs c))

/-- Whether every on-time is shorter than 2 us (R445). -/
def State.ledBrief (s : State) (c : Fin 16) : Bool := decide (s.ledOnNs c < 2000) && (s.led c).level.2 != 0xFFFF

/-! ## Configuration (R435, R437, R449, R450) -/

/-- The 300 mV limit at I_MAX and HYST, in uV (R435). -/
def shuntOk (cfg shunt : Word) : Bool := decide (field shunt 16 16 * field shunt 0 16 * (200 + 5 * field cfg 20 4) ≤ 60000000)

/-- LED_CFG's own ranges. -/
def ledCfgOk (w : Word) : Bool :=
  let b := field w 16 4
  field w 2 2 != 3 && (b == 0 || decide (8 ≤ b)) && decide (1 ≤ field w 20 4) && decide (field w 20 4 ≤ 10)

/-- LED_SHUNT's own ranges. -/
def ledShuntOk (w : Word) : Bool :=
  decide (1 ≤ field w 0 16) && decide (field w 0 16 ≤ 1000) && decide (50 ≤ field w 16 16) && decide (field w 16 16 ≤ 3000)

/-- Whether a write of LED_CFG changes what only a channel with ENABLE 0 may change (R437). -/
def ledCfgBusy (old new : Word) : Bool :=
  flag old 0 && (field old 2 2 != field new 2 2 || field old 4 4 != field new 4 4 || field old 16 4 != field new 16 4 || field old 24 8 != field new 24 8)

/-- I_SET as it may be staged (R435): off, or 50-3,000 mA. -/
def iSetOk (i : Nat) : Bool := i == 0 || (decide (50 ≤ i) && decide (i ≤ 3000))

/-- The adjacency test starts: sixteen steps to come (R446). -/
def State.startAdjacency (s : State) : State := s.onLights fun l => { l with testing := List.range 16, found := 0 }

/-! ## Staged values and commits (R441-R443) -/

/-- LED_STAGE of one channel (R441): a commit of the same instant still takes what was staged before (R447). -/
def State.ledStage (s : State) (c : Fin 16) (iSet duty : Nat) : State :=
  s.onLed c fun l => { l with staged := some (iSet, duty), stagedAt := s.now, stagedOld := if l.stagedAt = s.now then l.stagedOld else l.staged }

/-- The staged values that a commit takes: not those staged in its own cycle, which stay staged (R447). -/
def State.ledReady (s : State) (c : Fin 16) : Option (Nat × Nat) := if (s.led c).stagedAt = s.now then (s.led c).stagedOld else (s.led c).staged

/-- What stays staged once a commit has taken a channel's values. -/
def State.unstage (s : State) (c : Fin 16) : State :=
  s.onLed c fun l => { l with staged := if l.stagedAt = s.now then l.staged else none, stagedOld := none }

/-- LED_STAGE_MASK (R451). -/
def State.stageMask (s : State) : Nat := (leds16.map fun c => if (s.led c).staged.isSome then 2 ^ c.val else 0).sum

/-- A channel takes its staged values with a new PWM period, or keeps them for the end of the window that is open (R441, R442). -/
def State.commitLed (s : State) (c : Fin 16) : State :=
  match s.ledReady c with
  | none => s
  | some v =>
    if s.ledPhased c && s.windowOpen (s.ledLane c) then
      ((s.unstage c).onLed c fun l => { l with deferred := some v }).count (ledReg c 0x20)
    else (s.unstage c).onLed c fun l => { l with deferred := none, level := v, pwmStart := s.now }

/-- LED_COMMIT executes in this device (R441, R443); with nothing staged it changes nothing. DEDUCED (log entry 63): the channels that start a new PWM
period are those that take values. -/
def State.ledCommit (s : State) (id : Nat) : State :=
  if (leds16.any fun c => (s.ledReady c).isSome) = false then s
  else
    let late := (leds16.filter fun c => (s.ledReady c).isSome && s.ledPhased c && s.windowOpen (s.ledLane c)).length
    let s := leds16.foldl (fun st c => st.commitLed c) s
    let s := s.setF 0x0780204C 0 16 id
    s.raise 0x0C00 0 0 [2] (leBytes 2 id ++ leBytes 2 late)

/-- A commit whose apply time a CONTROL message gave, or that was late in a chain, waits (R443). -/
def State.awaitCommit (s : State) (due id : Nat) : State := s.onLights fun l => { l with commits := l.commits ++ [(due, id)] }

/-! ## Windows (R350, R438, R442) -/

/-- What a window's end brings for the channels of its lane: deferred values are applied (R442). -/
def State.endWindow (s : State) (n : Fin 16) : State :=
  leds16.foldl (fun st c =>
    if st.headLane (st.ledLane c) = n then
      match (st.led c).deferred with
      | some v => st.onLed c fun l => { l with level := v, deferred := none, pwmStart := st.now }
      | none => st
    else st) s

/-- A lane's windows end with the lane (R447). -/
def State.cutWindows (s : State) (n : Fin 16) : State :=
  if (s.joist n).windows.isEmpty then s else (s.onJoist n fun j => { j with windows := [] }).endWindow n

/-- A window takes its place in the order of starts. -/
def putWin (w : Win) : List Win → List Win
  | [] => [w]
  | x :: r => if x.start ≤ w.start then x :: putWin w r else w :: x :: r

/-- A WINDOW message's window (R350, R438): one that has begun is not used. -/
def State.takeWindow (s : State) (n : Fin 16) (w : Win) : State :=
  let s := if w.start < s.now + 20 * micro then s.count (jlReg n 0x28) else s
  let n := s.headLane n
  if w.start < s.now then
    leds16.foldl (fun st c => if st.ledOn c && st.ledPhase c != 0 && st.headLane (st.ledLane c) == n then st.count (ledReg c 0x1C) else st) s
  else s.onJoist n fun j => { j with windows := putWin w j.windows }

/-- The first window that waits on a lane starts (R438): LOCKED and GATED channels start a PWM period. -/
def State.windowStart (s : State) (n : Fin 16) : State :=
  match (s.joist n).windows.find? (fun w => !w.running) with
  | none => s
  | some w =>
    let s := (s.reach w.start).onJoist n fun j => { j with windows := j.windows.map fun x => if x = w then { x with running := true } else x }
    leds16.foldl (fun st c =>
      if st.ledOn c && st.ledPhased c && st.headLane (st.ledLane c) == n then st.onLed c fun l => { l with pwmStart := w.start } else st) s

/-- The window that runs on a lane ends. -/
def State.windowEnd (s : State) (n : Fin 16) : State :=
  match (s.joist n).windows.find? (fun w => w.running) with
  | none => s
  | some w => ((s.reach (w.start + w.dur)).onJoist n fun j => { j with windows := j.windows.filter fun x => x != w }).endWindow n

/-! ## Temperature (R439, R440) -/

def ntcReg (k : Nat) : Nat := 0x07802030 + 4 * k

/-- The temperature of a resistance in 0.01 degrees by the Beta model (R439); none outside -40 to 150 degrees. -/
def ntcTemp (cal : Word) (ohms : Nat) : Option Int :=
  let r25 := field cal 0 16 * 10
  let beta := field cal 16 16
  if ohms = 0 ∨ r25 = 0 ∨ beta = 0 then none
  else
    let inv := frac60 100 29815 + ln60 ohms r25 / (beta : Int)
    if inv ≤ 0 then none
    else
      let t := roundHalfAway (100 * one60 * one60) inv.toNat
      let c := roundHalfAway (t - 27315 * one60) (2 ^ 60)
      if c < -4000 ∨ 15000 < c then none else some c

/-- comp(T) in units of 10^-7 and derate(T) in units of 10^-6 at a temperature in 0.01 degrees (R440). -/
def State.ledComp (s : State) (c : Fin 16) (t : Int) : Int :=
  10000000 + signed 16 (s.regF (0x07802010 + 4 * s.regF (ledReg c 4) 8 2) 0 16) * (t - 2500)
def State.derate (s : State) (t : Int) : Int :=
  let knee := signed 16 (s.regF 0x07802040 0 16)
  if t ≤ knee then 1000000 else max 0 (1000000 - (s.regF 0x07802040 16 16 : Int) * (t - knee))

/-- The largest step of a factor in one reading: 1 % (R440). -/
def factorStep : Int := unit13 / 100

/-- A channel's factor after a reading of its input; a failed input's takes FAIL_PCT at once (R440, R447). -/
def State.ledFactor (s : State) (c : Fin 16) (t : Option Int) : Int :=
  match t with
  | none => (s.regF 0x07802044 0 8 : Int) * (unit13 / 100)
  | some t =>
    let goal := clampInt 0 (2 * unit13) (s.ledComp c t * s.derate t)
    let now := (s.led c).factor
    clampInt (now - factorStep) (now + factorStep) goal

/-- LED_DERATE of a failed input (R448). -/
def State.derateAlert (s : State) (k : Nat) : State :=
  s.raise 0x0C03 1 0x32 [2] (leBytes 1 k ++ leBytes 1 0 ++ leBytes 2 0x8000 ++ leBytes 2 (s.regF 0x07802044 0 8 * 32768 / 100) ++ leBytes 2 0)

/-- The failure of an input begins or ends for the channels that read it (R440, R42). -/
def State.ntcChange (s : State) (k : Nat) (bad : Bool) : State :=
  let users := leds16.filter fun c => s.ledNtc c == k
  if bad then
    let used := users.filter fun c => s.ledOn c
    let s := used.foldl (fun st c => (st.onLed c fun l => { l with faults := l.faults ++ [0x32] }).unitFault (.led c) stDegraded 0x32) s
    if used.isEmpty then s else s.derateAlert k
  else users.foldl (fun st c => (st.onLed c fun l => { l with faults := l.faults.filter (· != 0x32) }).settle (.led c)) s

/-- A channel's fault of a failed input follows its configuration (R440): it comes with an enabled channel whose NTC field names a failed input, and goes
with another. -/
def State.ntcJudge (s : State) (c : Fin 16) : State :=
  let bad := s.ledOn c && s.lights.failed.getD (s.ledNtc c) false
  let has := (s.led c).faults.contains 0x32
  if bad && !has then ((s.onLed c fun l => { l with faults := l.faults ++ [0x32] }).unitFault (.led c) stDegraded 0x32).derateAlert (s.ledNtc c)
  else if has && !bad then (s.onLed c fun l => { l with faults := l.faults.filter (· != 0x32) }).settle (.led c)
  else s

/-- LED_CFG written (R446, R449): an enabled channel starts its PWM and an adjacency test, a disabled one shows DISABLED unless it holds a
fault. -/
def State.ledConfig (s : State) (c : Fin 16) (w : Word) : State :=
  let was := s.ledOn c
  let s := s.setReg (ledReg c 4) (w &&& 0xFFFF0FFD#32)
  let on := flag w 0
  let st := s.unitState (.led c)
  if was = false ∧ on = true then
    let s := (s.onLed c fun l => { l with pwmStart := s.now, provedAt := s.now }).startAdjacency
    let s := if st = stDisabled then s.setUnit (.led c) (if (s.led c).adjOk && (s.led c).openOk then stOk else stAbsent) else s
    s.ntcJudge c
  else if was = true ∧ on = false then
    let s := s.ntcJudge c
    if st = stFault ∨ st = stDegraded then s.settle (.led c) else s.setUnit (.led c) stDisabled
  else s.ntcJudge c

/-- One input's conversion: NTC_TEMP and the failure's change. -/
def State.ntcInput (s : State) (k : Nat) (t : Option Int) : State :=
  let was := s.lights.failed.getD k false
  let s := s.setF (ntcReg k) 0 16 (match t with | some c => unsignedOf 16 c | none => 0x8000)
  let s := s.onLights fun l => { l with failed := updAt l.failed k fun _ => t.isNone }
  if was = t.isNone then s else s.ntcChange k t.isNone

/-- The conversion of the four inputs every 10 ms (R439): `ohms` are the resistances, none where an input is open or shorted. -/
def State.ntcConvert (s : State) (ohms : List (Option Nat)) : State :=
  let temps := tabulate 4 fun k => (ohms.getD k none).bind fun r => ntcTemp (s.reg (0x07802020 + 4 * k)) r
  let s := (List.range 4).foldl (fun st k => st.ntcInput k (temps.getD k none)) s
  leds16.foldl (fun st c => st.onLed c fun l => { l with factor := st.ledFactor c (temps.getD (st.ledNtc c) none) }) s

/-! ## Proving the lamps (R435, R444-R446) -/

/-- A short of the string (R435): an action, whose cause has cleared once the FET is off. -/
def State.ledShort (s : State) (c : Fin 16) : State := if s.ledEmits c then s.unitFault (.led c) stFault 0x30 else s

/-- Three on-times of at least 2 µs in a row were open (R444). -/
def State.ledOpen (s : State) (c : Fin 16) : State :=
  if s.ledEmits c && !s.ledBrief c && !((s.led c).faults.contains 0x31) then
    (s.onLed c fun l => { l with faults := l.faults ++ [0x31] }).unitFault (.led c) stFault 0x31
  else s

/-- A channel that has passed its tests leaves ABSENT (R446), or UNVERIFIED (R445). -/
def State.ledConfirm (s : State) (c : Fin 16) : State :=
  let st := s.unitState (.led c)
  if (st = stAbsent ∨ st = stUnverified) ∧ (s.led c).adjOk = true ∧ (s.led c).openOk = true then s.setUnit (.led c) stOk else s.settle (.led c)

/-- Whether a channel's lamp is proved by pulses: its on-times are short, or it is off because it was found open (R444, R445). -/
def State.ledProves (s : State) (c : Fin 16) : Bool := s.ledBrief c || (s.led c).faults.contains 0x31

/-- Whether an exposure window is open that a channel's pulses avoid (R445): one of LOCK_LANE, for a FREE channel one of any lane. -/
def State.ledShut (s : State) (c : Fin 16) : Bool :=
  if s.ledPhase c = 0 then (List.finRange 16).any fun n => s.windowOpen n else s.windowOpen (s.ledLane c)

/-- Whether a fault other than an open lamp keeps a channel off. -/
def State.ledOff (s : State) (c : Fin 16) : Bool := s.unitState (.led c) == stFault && !((s.led c).faults.contains 0x31)

/-- Whether the adjacency step of a channel is the next one due: it takes the slot before a proving pulse of that channel (R447; DEDUCED, log entry 107). -/
def State.stepFirst (s : State) (c : Fin 16) : Bool := s.lights.testing.head? == some c.val

/-- The once-a-second proof of a lamp (R444, R445), outside every window that it avoids and not in the slot of an adjacency step. With no slot a channel becomes UNVERIFIED. The event of a channel whose on-times are long
enough is their own open test. -/
def State.provingPulse (s : State) (c : Fin 16) (slot pass : Bool) : State :=
  if s.ledOn c = false ∨ s.mode.mode.driveOn = false ∨ s.ledOff c = true then s
  else if s.ledProves c then
    if slot = true ∧ (s.ledShut c || s.stepFirst c) = true then s else
    let s := (s.reach ((s.led c).provedAt + second))
    let s := s.onLed c fun l => { l with provedAt := s.now }
    if slot then
      let s := s.count (ledReg c 0x18)
      if pass then (s.onLed c fun l => { l with openOk := true, faults := l.faults.filter (· != 0x31) }).ledConfirm c else s
    else
      let s := if s.unitState (.led c) = stOk then s.setUnit (.led c) stUnverified else s
      s.raise 0x0C02 1 0 [2, c] (leBytes 1 c ++ leBytes 3 0 ++ leBytes 4 (s.ledOnNs c))
  else if pass then (s.onLed c fun l => { l with openOk := true }).ledConfirm c
  else s

/-- An adjacency step of channel `c` (R446); with no test running and ADJ_PERIOD not 0 it begins the periodic one. -/
def State.adjacencyStep (s : State) (c : Fin 16) (seen : AdjSeen) : State :=
  if s.mode.mode.driveOn = false then s
  else
    let s := if s.lights.testing.isEmpty && s.regF 0x07802000 0 8 != 0 then s.startAdjacency else s
    if s.lights.testing.contains c.val then
      let s := s.onLights fun l => { l with testing := l.testing.filter (· != c.val) }
      let near := (leds16.filter fun d => (seen.below && d.val + 1 == c.val) || (seen.above && d.val == c.val + 1))
      if near.isEmpty then
        (s.onLed c fun l => { l with adjOk := true, faults := l.faults.filter (· != 0x33) }).ledConfirm c
      else
        let s := (c :: near).foldl (fun st d => (st.onLed d fun l => { l with faults := l.faults.filter (· != 0x33) ++ [0x33] }).unitFault (.led d) stFault 0x33) s
        let s := s.onLights fun l => { l with found := ((c :: near).map fun d => 2 ^ d.val).foldl Nat.lor l.found }
        s.raise 0x0C01 2 0x33 [2] (leBytes 2 s.lights.found ++ leBytes 2 0)
    else s

/-- LED_STATUS (R450). -/
def State.ledStatus (s : State) (c : Fin 16) : Nat :=
  let bad := s.lights.failed.getD (s.ledNtc c) false
  let slow := if bad then decide (s.regF 0x07802044 0 8 < 100) else decide (s.derate (signed 16 (s.regF (ntcReg (s.ledNtc c)) 0 16)) < 1000000)
  s.ledCurrent c + 0x10000 * bit (s.ledOn c && s.ledProves c && decide ((s.led c).provedAt + second ≤ s.now)) + 0x20000 * bit slow
    + 0x40000 * bit (s.led c).deferred.isSome + 0x80000 * bit bad

end Sys2Proof.Machine
end

