-- ==== Sys2Proof/Machine/Lanes.lean ====
section
/-! DEFINITION. The serial lanes (11_lanes_links.md R338-R358): training and rescans, losses, joist heads with their messages and frames, bonded
pairs, and the stripes of the rafter ports. -/

namespace Sys2Proof.Machine

open Sys2Proof

/-! ## Lanes -/

def rpIndex : RPort → Nat
  | .up => 0
  | .down => 1
def rpReg (p : RPort) (off : Nat) : Nat := 0x08004000 + 0x200 * rpIndex p + off
def portLeaf : RPort → Leaf
  | .up => .rafter 0
  | .down => .rafter 1

/-- A lane that the model never reads: the value of an index beyond a port's four. -/
def noLane : LaneSt := initLane .disabled false

/-- A lane's state, and a change of it. -/
def State.lane (s : State) : Lane → LaneSt
  | .joist n => (s.joist n).lane
  | .up k => s.up.lanes.getD k.val noLane
  | .down k => s.down.lanes.getD k.val noLane
def State.onLane (s : State) (l : Lane) (f : LaneSt → LaneSt) : State :=
  match l with
  | .joist n => s.onJoist n fun j => { j with lane := f j.lane }
  | .up k => s.onRport .up fun r => { r with lanes := updAt r.lanes k.val f }
  | .down k => s.onRport .down fun r => { r with lanes := updAt r.lanes k.val f }

/-- The rafter port of a lane, with the lane's number in it. -/
def lanePort : Lane → Option (RPort × Nat)
  | .joist _ => none
  | .up k => some (.up, k.val)
  | .down k => some (.down, k.val)

/-- The kind and number of a lane as the alerts carry them (R370), its path, and its place in the Rings (R470). -/
def laneBytes : Lane → List Byte
  | .joist n => leBytes 1 0 ++ leBytes 1 n
  | .up k => leBytes 1 1 ++ leBytes 1 k
  | .down k => leBytes 1 1 ++ leBytes 1 k
def laneLevels : Lane → List Nat
  | .joist n => [3, n]
  | .up _ => [4, 0]
  | .down _ => [4, 1]
def laneSlot : Lane → Nat
  | .joist n => n
  | .up k => 16 + k
  | .down k => 20 + k

/-- ENABLE and ALIGN_MANUAL of a lane (R371, R374). -/
def laneCfg : Lane → Nat
  | .joist n => jlReg n 4
  | .up _ => rpReg .up 4
  | .down _ => rpReg .down 4
def State.laneOn (s : State) (l : Lane) : Bool := s.regB (laneCfg l) 0
def State.alignManual (s : State) (l : Lane) : Bool :=
  match l with
  | .joist n => s.regB (jlReg n 4) 3
  | l => s.regB (laneCfg l) 1

def allLanes : List Lane := (List.finRange 16).map .joist ++ (List.finRange 4).map .up ++ (List.finRange 4).map .down
def lanesOf : RPort → List Lane
  | .up => (List.finRange 4).map .up
  | .down => (List.finRange 4).map .down

/-- A training attempt begins (R342): its receive side is reset (R500). -/
def LaneSt.attempt (l : LaneSt) (now : Nat) (rescan : Bool) : LaneSt :=
  { l with link := .signal, since := now, los := true, lol := true, syncOk := false, slip := 0, rescan := rescan, manualDone := false }

/-- A lane that leaves UP takes its camera's windows with it (R447). -/
def State.laneGone (s : State) (l : Lane) : State :=
  match l with
  | .joist n => s.cutWindows n
  | _ => s

/-- The attempt of a lane; its rafter port is TRAINING when it was ABSENT. -/
def State.startLane (s : State) (l : Lane) (rescan : Bool) (fails : Nat) : State :=
  let s := s.laneGone l
  let s := s.onLane l fun x => { x.attempt s.now rescan with fails := fails }
  match lanePort l with
  | some (p, _) => s.onRport p fun r => if r.port = .absent then { r with port := .training } else r
  | none => s

/-- A single attempt for an enabled lane in ABSENT (R344). -/
def State.rescanLane (s : State) (l : Lane) : State :=
  if s.laneOn l = true ∧ (s.lane l).link = .absent then s.startLane l true 0 else s

/-- The rescan of every lane (R344). -/
def State.rescan (s : State) : State := allLanes.foldl (fun st l => st.rescanLane l) s

/-- Whether a lane is training. -/
def Link.trains : Link → Bool
  | .signal | .align | .hello | .backoff => true
  | _ => false

/-! ## Rafter ports (R354-R358) -/

/-- The lanes of a port in the stripe. -/
def Rafter.striped (r : Rafter) : Nat := (r.inStripe.filter id).length

/-- The stripes of 4.125 ns that were rebuilt while a data lane was out (R355, R357). -/
def Rafter.rebuilt (r : Rafter) (k now : Nat) : Nat := if k < 3 then (now - r.erasedAt.getD k now) * 8 / 33 else 0

/-- A worker is lost (R367): DEVICE_LOST. -/
def State.deviceLost (s : State) (i port : Nat) : State :=
  if s.chain.manager && i != 0 && s.chain.present.getLsbD i then
    let s := s.onChain fun c => { c with present := c.present &&& ~~~(1#16 <<< i), lost := c.lost ||| (1#16 <<< i) }
    s.chainFormed.raise 0x0906 2 0 [4, 1] (leBytes 1 i ++ leBytes 1 port ++ leBytes 2 0)
  else s

/-- Every device on the far side of a port that is down is lost, and the chain goes to HOLD (R358, R367). -/
def State.farLost (s : State) (p : RPort) : State :=
  match p with
  | .up => s
  | .down =>
    if s.chain.manager && s.chain.members.any (fun m => s.chain.present.getLsbD m.1) then
      (s.chain.members.foldl (fun st m => st.deviceLost m.1 1) s).holdCause 8
    else s

/-- PARITY_REPAIRED takes in the stripes rebuilt since a lane left the stripe (R357). -/
def State.countRebuilt (s : State) (p : RPort) : State :=
  let r := s.rport p
  if r.port = .degraded then
    ((List.range 4).filter fun i => !(r.inStripe.getD i false)).foldl (fun st i => st.count (rpReg p 0x20) (r.rebuilt i s.now)) s
  else s

/-- A lane leaves the stripe (R357): with three lanes left the port is DEGRADED, with two it is down, and each lane retrains on its own (R358). -/
def State.erase (s : State) (p : RPort) (k : Nat) : State :=
  let r := s.rport p
  if r.inStripe.getD k false = false then s.onRport p fun r => { r with clean := updAt r.clean k fun _ => false }
  else
    let s := s.onRport p fun r => { r with
      inStripe := updAt r.inStripe k fun _ => false, erasedAt := updAt r.erasedAt k fun _ => s.now, clean := updAt r.clean k fun _ => false }
    if r.port = .up then
      (s.onRport p fun r => { r with port := .degraded }).unitFault (portLeaf p) stDegraded 0x42
    else if r.port = .degraded then
      let s := s.countRebuilt p
      let s := s.onRport p fun r => { r with port := .down, inStripe := List.replicate 4 false, clean := List.replicate 4 false, segs := [] }
      let s := (lanesOf p).foldl (fun st l => if (st.lane l).link = .up then st.startLane l false 0 else st) s
      (s.unitFault (portLeaf p) stFault 0x43).farLost p
    else s

/-- The downstream port has found no partner: the chain ends here, as the manager keeps and a worker tells it (R364). -/
def State.endFound (s : State) (p : RPort) : State :=
  if p = .up then s else if s.chain.manager then s.chainFormed else if s.chain.index = 255 then s else s.report

/-- The port after a lane's retraining has ended: with nothing training and fewer than three lanes up it is ABSENT, and a fault of it ends there (R345). -/
def State.portIdle (s : State) (p : RPort) : State :=
  let r := s.rport p
  let quiet := (r.lanes.all fun l => !l.link.trains) && decide ((r.lanes.filter fun l => l.link == .up).length < 3)
  if quiet && (r.port == .down || r.port == .training) then ((s.onRport p fun r => { r with port := .absent }).settle (portLeaf p)).endFound p else s

/-- An ALIGN block on a lane (R356-R358): lanes that are UP bring the port up together; a retrained lane rejoins at the second one in a row
with clean headers between. -/
def State.alignSeen (s : State) (p : RPort) (k : Nat) : State :=
  let r := s.rport p
  if (r.lanes.getD k noLane).link ≠ .up ∨ r.inStripe.getD k false = true then s
  else if r.port = .degraded then
    if r.clean.getD k false then
      let s := (s.countRebuilt p).onRport p fun r => { r with inStripe := updAt r.inStripe k fun _ => true, port := .up }
      s.settle (portLeaf p)
    else s.onRport p fun r => { r with clean := updAt r.clean k fun _ => true }
  else
    let s := s.onRport p fun r => { r with inStripe := updAt r.inStripe k fun _ => true }
    let r := s.rport p
    let common := (List.range 4).all fun i => (r.lanes.getD i noLane).link != .up || r.inStripe.getD i false
    if common = false ∨ r.striped < 3 then s
    else if r.striped = 4 then
      let s := s.onRport p fun r => { r with port := .up }
      if s.unitState (portLeaf p) = stAbsent then s.setUnit (portLeaf p) stOk else s.settle (portLeaf p)
    else
      -- the port has trained again: its fault, if it was down, has ended (R345), and a new one of three lanes begins
      let s := s.onRport p fun r => { r with port := .degraded, erasedAt := List.replicate 4 s.now }
      (s.setUnit (portLeaf p) stOk).unitFault (portLeaf p) stDegraded 0x42

/-! ## Losses (R340, R342, R345) -/

/-- A frame of a coaxial camera's head that is not whole is of no use to Plumb: it counts in CAM_BAD (R226, R349). -/
def State.coaxBad (s : State) (n : Fin 16) : State :=
  if byteAt (s.joist n).head 0 = 2 then (s.camBeams n).foldl (fun st b => st.camBad b) s else s

/-- A frame in progress is dropped (R349). -/
def State.dropFrame (s : State) (n : Fin 16) : State :=
  if (s.joist n).frame.isSome then
    let s := s.onJoist n fun j => { j with frame := none }
    if byteAt (s.joist n).head 0 = 3 then s else (s.count (jlReg n 0x18)).coaxBad n
  else s

/-- A message leaves to a head, with its sequence number and CRC (R341, R347). -/
def State.sendJoist (s : State) (n : Fin 16) (type : Nat) (payload : List Byte) : State :=
  let q := getKey type 0 (s.joist n).seqOut
  let m : Msg := { src := 0, dst := 0, flags := 0, seq := BitVec.ofNat 8 q, payload := payload, crc := 0 }
  (s.onJoist n fun j => { j with seqOut := putKey type ((q + 1) % 256) 0 j.seqOut }).emit (.joist n (BitVec.ofNat 8 type) { m with crc := msgCrc type m })

/-- The code of a loss (R370). -/
def lossCode : LossCause → Nat
  | .los => 1
  | .lol => 2
  | .headers => 3
  | .align => 4

/-- LOS and LOL as a loss sets them. -/
def LaneSt.lose (l : LaneSt) (c : LossCause) : LaneSt :=
  match c with
  | .los => { l with los := true }
  | .lol => { l with lol := true }
  | .headers => { l with lol := true, syncOk := false }
  | .align => l

/-- A joist lane that was UP is lost: its unit faults, its camera is lost (R345, R241); a bonded pair whose other lane is up goes on at half rate, and its camera with it (R353, R229). -/
def State.joistLost (s : State) (n : Fin 16) : State :=
  let s := (s.dropFrame (s.headLane n)).count (jlReg n 0x20)
  let e := pairEven n
  let other := (s.joist (pairOther n)).lane.link
  let s : State := if s.bonded n && other == .up then
      let s := (s.onJoist e fun j => { j with half := true }).sendJoist (pairOther n) 0x44 (leBytes 1 1 ++ leBytes 3 0)
      let s := s.unitFault (.joist e) stDegraded 0x41
      let s := s.raise 0x0904 1 0x41 [3, e] (leBytes 1 e ++ leBytes 1 0 ++ leBytes 2 0)
      (if n = e then s else s.unitFault (.joist n) stFault 0x40).cameraHalf e
    else if s.bonded n then
      let s := ((s.onJoist e fun j => { j with half := false }).camHalf e false).unitFault (.joist e) stFault 0x40
      (if n = e then s else s.unitFault (.joist n) stFault 0x40).laneCameraLost e 1
    else (s.unitFault (.joist n) stFault 0x40).laneCameraLost n 1
  s

/-- A lane that is UP is lost (R342): its record, alert and count, and a new attempt at once. -/
def State.loseLane (s : State) (l : Lane) (c : LossCause) : State :=
  let s := s.onLane l fun x => { x with lostAt := some s.now }
  let s := s.rings fun r => { r with losses := updAt r.losses (laneSlot l) fun v => min (v + 1) 0xFFFFFFFF }
  let s := match l with
    | .joist n => s.joistLost n
    | _ => match lanePort l with
      | some (p, k) => (s.count (rpReg p 0x2C)).erase p k
      | none => s
  let s := s.raise 0x0901 1 0x40 (laneLevels l) (laneBytes l ++ leBytes 1 (lossCode c) ++ leBytes 1 0)
  s.startLane l false 0

/-- A loss of signal, of lock or of alignment on a lane (R340, R356). In a state short of UP it only shows in LOS and LOL (R368). -/
def State.laneSignalLost (s : State) (l : Lane) (c : LossCause) : State :=
  if s.laneOn l = false then s
  else if (s.lane l).link = .up then (s.loseLane l c).onLane l fun x => x.lose c
  else if (s.lane l).link.trains then s.onLane l fun x => x.lose c
  else s

/-- A block of a lane in the stripe carries an invalid sync header (R357): the lane is lost. On a lane that waits to rejoin it spoils the headers since the last ALIGN. -/
def State.laneErased (s : State) (p : RPort) (k : Nat) (l : Lane) : State :=
  if (s.rport p).inStripe.getD k false then s.loseLane l .headers
  else s.onRport p fun r => { r with clean := updAt r.clean k fun _ => false }

/-- Whether an ALIGN block at time `t` with counter `c` matches the last one of lane `i`: a stripe lasts 33/8 ns, and the skew is at most 264 ns (R355, R356). -/
def Rafter.skewOk (r : Rafter) (t c i : Nat) : Bool :=
  let a := r.aligns.getD i (0, 0)
  let d : Int := 8 * ((t : Int) - (a.1 : Int)) - 33 * (BitVec.ofNat 32 c - BitVec.ofNat 32 a.2 : Word).toInt
  decide (-2112 ≤ d) && decide (d ≤ 2112)

/-- Whether a lane's ALIGN block names that lane and matches another lane of the stripe, if there is one (R356). -/
def Rafter.alignOk (r : Rafter) (t k num c : Nat) : Bool :=
  let others := (List.range 4).filter fun i => i != k && r.inStripe.getD i false
  num == k && (others.isEmpty || others.any (r.skewOk t c))

/-- An ALIGN block on a lane that is UP: one that does not match loses the lane (R356). -/
def State.alignBlock (s : State) (p : RPort) (k num c : Nat) (l : Lane) : State :=
  if (s.lane l).link ≠ .up then s
  else
    let ok := (s.rport p).alignOk s.now k num c
    let s := s.onRport p fun r => { r with aligns := updAt r.aligns k fun _ => (s.now, c) }
    if ok then s.alignSeen p k else s.laneSignalLost l .align

/-! ## Training (R342-R344) -/

/-- LOS and LOL clear together. -/
def State.laneSignalOk (s : State) (l : Lane) : State :=
  let x := s.lane l
  if x.link = .signal then s.onLane l fun x => { x with los := false, lol := false, link := .align, manualDone := false }
  else if x.link.trains then s.onLane l fun x => { x with los := false, lol := false }
  else s

/-- PORT_HELLO leaves on a port (R360). -/
def State.sendHello (s : State) (p : RPort) : State :=
  s.sendRafter p 0x01 0xFF 0 (leBytes 4 (0x96480100 + Config.revision.toNat) ++ leBytes 1 (bit s.chain.manager) ++ leBytes 1 s.chain.index ++ leBytes 2 0 ++ timeBytes s.now)

/-- The alignment search has found the boundary at `pos`; a rafter lane then sends PORT_HELLO. -/
def State.laneAligned (s : State) (l : Lane) (pos : Nat) : State :=
  if (s.lane l).link = .align ∧ s.alignManual l = false then
    let s := s.onLane l fun x => { x with link := .hello, slip := pos, syncOk := true }
    match lanePort l with
    | some (p, _) => s.sendHello p
    | none => s
  else s

/-- A lane ends in ABSENT (R344, R345). -/
def State.laneAbsent (s : State) (l : Lane) (alert : Bool) : State :=
  let s := s.onLane l fun x => { x with link := .absent, lostAt := none, rescan := false }
  let s := if alert then s.raise 0x0902 1 0 (laneLevels l) (laneBytes l ++ leBytes 2 0) else s
  match l with
  | .joist n =>
    let s := if s.bonded n && (s.joist (pairOther n)).lane.link == .up then s else s.laneCameraLost (s.headLane n) 2
    if s.unitState (.joist n) = stOk then s.setUnit (.joist n) stAbsent else s.settle (.joist n)
  | _ => match lanePort l with
    | some (p, _) => s.portIdle p
    | none => s

/-- An attempt fails (R342, R344). -/
def State.attemptFails (s : State) (l : Lane) : State :=
  let x := s.lane l
  if x.rescan then s.laneAbsent l false
  else
    let s := s.onLane l fun x => { x with fails := x.fails + 1, since := s.now, link := .backoff }
    if 2 ≤ x.fails then s.laneAbsent l true else s

/-- The 20 ms of an attempt have passed; in ALIGN with ALIGN_MANUAL they run from DONE (R342, R343). -/
def State.attemptTimeout (s : State) (l : Lane) : State :=
  let x := s.lane l
  let waits := x.link == .align && s.alignManual l && !x.manualDone
  if (x.link = .signal ∨ x.link = .align ∨ x.link = .hello) ∧ waits = false then (s.reach (x.since + 20 * milli)).attemptFails l else s

/-- A backoff has passed: 10 ms after the first failure, 30 ms after the second (R344). -/
def State.backoffEnd (s : State) (l : Lane) : State :=
  let x := s.lane l
  if x.link = .backoff then (s.reach (x.since + (if x.fails = 1 then 10 else 30) * milli)).startLane l false x.fails else s

/-- LANE_UP, and the outage that it ends (R370, R470). -/
def State.laneUp (s : State) (l : Lane) (role : Nat) : State :=
  let x := s.lane l
  let s := match x.lostAt with
    | some t => s.ringHist 4 ((s.now - t) / micro : Nat)
    | none => s
  let s := s.onLane l fun x => { x with link := .up, lostAt := none, everUp := true, rescan := false, attempts := x.fails + 1, fails := 0 }
  s.raise 0x0900 0 0 (laneLevels l) (laneBytes l ++ leBytes 1 role ++ leBytes 1 0 ++ leBytes 4 (x.fails + 1))

/-- A lane is switched off or on, or trains again (R338, R342, R369). -/
def State.laneDisable (s : State) (l : Lane) : State :=
  (s.laneGone l).onLane l fun x => { x with link := .disabled, lostAt := none, everUp := false, fails := 0, rescan := false, los := true, lol := true, syncOk := false }

/-- A unit that is switched off shows DISABLED, unless it holds a fault (R42). -/
def State.unitOff (s : State) (u : Leaf) : State :=
  let st := s.unitState u
  if st = stFault ∨ st = stDegraded then s.settle u else s.setUnit u stDisabled
def State.unitOn (s : State) (u : Leaf) : State := if s.unitState u = stDisabled then s.setUnit u stAbsent else s

/-- The outstanding command's REPLY will not come: HEAD_REPLY follows at its 100 ms, with status timeout (R346, R352). -/
def loseReply (c : Option (BitVec 16 × Nat × Bool)) : Option (BitVec 16 × Nat × Bool) := c.map fun x => (x.1, x.2.1, true)

/-- JL_CONFIG written (R371): ENABLE, RATE and ALIGN_MANUAL. -/
def State.joistConfig (s : State) (n : Fin 16) (w : Word) : State :=
  let old := s.reg (jlReg n 4)
  let s := s.setReg (jlReg n 4) (putField old 0 4 (field w 0 4))
  let on := flag w 0
  if flag old 0 && !on then
    let s := ((s.dropFrame n).laneDisable (.joist n)).onJoist n fun j => { j with half := false, command := loseReply j.command }
    (s.camHalf n false).unitOff (.joist n)
  else if !flag old 0 && on then (s.startLane (.joist n) false 0).unitOn (.joist n)
  else if on && field old 1 2 != field w 1 2 then (s.dropFrame n).startLane (.joist n) false 0
  else s

/-- RP_CONFIG written (R374). -/
def State.rafterConfig (s : State) (p : RPort) (w : Word) : State :=
  let old := s.reg (rpReg p 4)
  let s := s.setReg (rpReg p 4) (putField old 0 2 (field w 0 2))
  let on := flag w 0
  if flag old 0 && !on then
    let s := (lanesOf p).foldl (fun st l => st.laneDisable l) s
    let wasUp := (s.rport p).carries
    let s := (s.countRebuilt p).onRport p fun r => { r with port := .disabled, inStripe := List.replicate 4 false, clean := List.replicate 4 false, partner := none, segs := [] }
    let s := s.unitOff (portLeaf p)
    (if wasUp then s.farLost p else s).endFound p
  else if !flag old 0 && on then
    let s := s.onRport p fun r => { r with port := .absent }
    ((lanesOf p).foldl (fun st l => st.startLane l false 0) s).unitOn (portLeaf p)
  else s

/-! ## Heads (R346, R348, R351-R353) -/

/-- A message of a head that came whole with its CRC; otherwise it is discarded and counted (R339, R341). -/
def State.headMsg (s : State) (n : Fin 16) (type : Nat) (m : Msg) (f : State → State) : State :=
  if msgGood type m = false then (if (s.joist n).lane.link = .up ∨ (s.joist n).lane.link = .hello then s.count (jlReg n 0x10) else s) else f s

/-- A message of a head on a lane that is UP. -/
def State.upMsg (s : State) (n : Fin 16) (type : Nat) (m : Msg) (f : State → State) : State :=
  s.headMsg n type m fun s => if (s.joist n).lane.link = .up then f s else s

/-- The identity of a head (R346): class, maker, model and serial. -/
def headId (h : List Byte) : List Byte := h.take 1 ++ (h.drop 4).take 12

/-- JL_HEAD takes a HELLO. -/
def State.takeHead (s : State) (n : Fin 16) (h : List Byte) : State :=
  (List.range 8).foldl (fun st k => st.setReg (jlReg n (0x40 + 4 * k)) (leWord h (4 * k))) (s.onJoist n fun j => { j with head := h })

/-- A bonded pair's lost lane is back: RATE 0 (R353). -/
def State.rateBack (s : State) (n : Fin 16) : State :=
  if s.bonded n && (s.joist (pairEven n)).half && (s.joist (pairOther n)).lane.link == .up then s.sendJoist (pairOther n) 0x44 (leBytes 4 0) else s

/-- HELLO (R346): answered, and JL_HEAD holds its copy; a lane in HELLO comes up unless the class is none of the three, and on a lane that is UP another identity is a
new head, which makes the lane train again. -/
def State.headHello (s : State) (n : Fin 16) (m : Msg) : State :=
  s.headMsg n 0x01 m fun s =>
    let h := (m.payload ++ List.replicate 32 0).take 32
    let cls := byteAt h 0
    let st := (s.joist n).lane.link
    if st ≠ .hello ∧ st ≠ .up then s
    else
      let changed := (s.joist n).head != [] && headId (s.joist n).head != headId h
      let s := s.takeHead n h
      let s : State := if changed then s.onJoist (s.headLane n) fun j => { j with command := loseReply j.command } else s
      if st = .up ∧ changed = true then ((s.dropFrame (s.headLane n)).count (jlReg n 0x20)).startLane (.joist n) false 0
      else if st = .up then s.sendJoist n 0x41 []
      else if cls = 0 ∨ 3 < cls then s.attemptFails (.joist n)
      else
        let s := (((s.sendJoist n 0x41 []).laneUp (.joist n) cls).onJoist n fun j => { j with echoAt := s.now }).rateBack n
        if s.unitState (.joist n) = stAbsent then s.setUnit (.joist n) stOk else s.settle (.joist n)

/-- TIME leaves on a lane that is UP, every 100 µs (R348). -/
def State.sendTime (s : State) (n : Fin 16) : State :=
  if (s.joist n).lane.link = .up then
    let s := s.onJoist n fun j => { j with timeAt := ((getKey 0x42 0 j.seqOut, s.now) :: j.timeAt).take 32 }
    s.sendJoist n 0x42 (timeBytes s.now ++ leBytes 4 (s.reg (jlReg n 0xC)).toNat)
  else s

/-- TIME_ECHO gives the delay in use (R348). -/
def State.timeEcho (s : State) (n : Fin 16) (m : Msg) : State :=
  s.upMsg n 0x08 m fun s =>
    let s := s.onJoist n fun j => { j with echoAt := s.now }
    match (s.joist n).timeAt.find? (fun e => e.1 == byteAt m.payload 0) with
    | some (_, t) => s.setReg (jlReg n 0xC) (BitVec.ofNat 32 ((s.now - t - leAt m.payload 4 4) / 2))
    | none => s

/-- No TIME_ECHO for 1 ms (R348). -/
def State.timeMiss (s : State) (n : Fin 16) : State :=
  if (s.joist n).lane.link = .up then
    let s := s.reach ((s.joist n).echoAt + milli)
    (s.onJoist n fun j => { j with echoAt := s.now }).count (jlReg n 0x24)
  else s

/-- A channel's value takes its place in a head's list, by channel. -/
def putSensor (e : Nat × Nat × Nat) : List (Nat × Nat × Nat) → List (Nat × Nat × Nat)
  | [] => [e]
  | x :: r => if x.1 < e.1 then x :: putSensor e r else if x.1 = e.1 then e :: r else e :: x :: r

/-- SENSOR (R351): into the registers of the head's lane, which for a pair is its even one (R353). -/
def State.sensor (s : State) (n : Fin 16) (m : Msg) : State :=
  s.upMsg n 0x05 m fun s =>
    let n := s.headLane n
    let t := timeAt m.payload 0
    (List.range (min 16 ((m.payload.length - 8) / 4))).foldl (fun st i =>
      let c := byteAt m.payload (8 + 4 * i)
      if 15 < c then st
      else
        let v := byteAt m.payload (9 + 4 * i) * 65536 + leAt m.payload (10 + 4 * i) 2
        let st := st.onJoist n fun j => { j with sensors := putSensor (c, v, t) j.sensors }
        (st.setReg (jlReg n (0x80 + 8 * c)) (BitVec.ofNat 32 v)).setReg (jlReg n (0x84 + 8 * c)) (BitVec.ofNat 32 (nsOf t))) s

/-- HEAD_REPLY (R352, R370): status 0 with the reply's bytes, 1 at the timeout. -/
def State.headReply (s : State) (n : Fin 16) (tag status : Nat) (bs : List Byte) : State :=
  s.raise 0x0903 (if status = 0 then 0 else 1) 0 [3, n] (leBytes 2 tag ++ leBytes 1 status ++ leBytes 1 0 ++ leBytes 2 bs.length ++ leBytes 2 0 ++ pad4 bs)

/-- REPLY with the outstanding command's tag; another is discarded (R352, R368), and so is that of a head whose command was lost (R346). A pair's command is that of its
head (R353). -/
def State.replySeen (s : State) (n : Fin 16) (m : Msg) : State :=
  s.upMsg n 0x06 m fun s =>
    let n := s.headLane n
    match (s.joist n).command with
    | some (tag, _, lost) =>
      if lost = false ∧ leAt m.payload 0 2 = tag.toNat then (s.onJoist n fun j => { j with command := none }).headReply n tag.toNat 0 ((m.payload.drop 4).take 1024) else s
    | none => s

/-- 100 ms have passed without the REPLY. -/
def State.replyTimeout (s : State) (n : Fin 16) : State :=
  match (s.joist n).command with
  | some (tag, t, _) => ((s.reach (t + 100 * milli)).onJoist n fun j => { j with command := none }).headReply n tag.toNat 1 []
  | none => s

/-! ## Camera frames (R349) -/

/-- FRAME_START: a frame that was still open is dropped; a pair at full rate again leaves half rate (R353). -/
def State.frameStart (s : State) (n : Fin 16) (m : Msg) : State :=
  s.upMsg n 0x02 m fun s =>
    let n := s.headLane n
    let s := s.dropFrame n
    let s : State := if (s.joist n).half && (s.joist n).lane.link == .up && (s.joist (pairOther n)).lane.link == .up then
        let s := ((s.onJoist n fun j => { j with half := false }).camHalf n false).settle (.joist n)
        s.raise 0x0904 0 0 [3, n] (leBytes 1 n ++ leBytes 1 1 ++ leBytes 2 0)
      else s
    s.onJoist n fun j => { j with
      frame := some { num := leWord m.payload 0, width := leAt m.payload 4 2, height := leAt m.payload 6 2, bits := byteAt m.payload 8, lines := [], bad := false } }

/-- A message of a frame that fails its CRC leaves the open frame no longer whole (R349). -/
def State.frameHit (s : State) (n : Fin 16) (type : Nat) (m : Msg) : State :=
  if msgGood type m then s else s.onJoist (s.headLane n) fun j => { j with frame := j.frame.map fun f => { f with bad := true } }

/-- LINE: one line of the open frame. -/
def State.lineSeen (s : State) (n : Fin 16) (m : Msg) : State :=
  (s.frameHit n 0x03 m).upMsg n 0x03 m fun s =>
    let h := s.headLane n
    match (s.joist h).frame with
    | none => s
    | some f =>
      let y := leAt m.payload 2 2
      let per := if f.bits = 8 then 1 else 2
      let px := m.payload.drop 4
      let ok := leAt m.payload 0 2 == f.num.toNat % 65536 && decide (y < f.height) && px.length == f.width * per && !(f.lines.any fun l => l.1 == y)
      s.onJoist h fun j => { j with frame := some (if ok then { f with lines := (y, px) :: f.lines } else { f with bad := true }) }

/-- The pixels of a line. -/
def pixelsOf (bits : Nat) : List Byte → List Nat
  | [] => []
  | [a] => if bits = 8 then [a.toNat] else []
  | a :: b :: r => if bits = 8 then a.toNat :: pixelsOf bits (b :: r) else (a.toNat + 256 * b.toNat) :: pixelsOf bits r

/-- The lines of a frame in order, when each is there. -/
def RxFrame.rows (f : RxFrame) : Option (List (List Byte)) :=
  (List.range f.height).mapM fun y => (f.lines.find? fun l => l.1 == y).map (·.2)

/-- A layer camera's frame goes to a surface of its ring (R315, R349). -/
def State.capture (s : State) (n : Fin 16) (f : RxFrame) (rows : List (List Byte)) : State :=
  let q := s.ringStart n
  match q.2 with
  | none => q.1.count (jlReg n 0x1C)
  | some i =>
    let u := s.surface i
    let fmt := if f.bits = 8 then 2 else 3
    if u.tiled ∨ u.w ≠ f.width ∨ u.h ≠ f.height ∨ u.fmt ≠ fmt then (q.1.onRing n fun r => { r with writing := none }).count (jlReg n 0x1C)
    else
      let row (bs : List Byte) : List Byte := if f.bits = 12 then (pixelsOf 12 bs).flatMap fun v => leBytes 2 (v % 4096 * 16) else bs
      let s := rows.zipIdx.foldl (fun st r => st.writeMem (u.addr + r.2 * u.pitch) (row r.1)) q.1
      s.ringDone n

/-- A frame received whole (R349). -/
def RxFrame.whole (f : RxFrame) (m : Msg) : Option (List (List Byte)) :=
  match f.rows with
  | some rows => if f.bad = false ∧ leWord m.payload 0 = f.num ∧ crc32c rows.flatten = leWord m.payload 20 then some rows else none
  | none => none

/-- FRAME_END: a frame received whole is delivered, any other is dropped; a frame of a sensor head, or a coaxial one that no beam takes, is discarded without count
(R349). -/
def State.frameEnd (s : State) (n : Fin 16) (m : Msg) : State :=
  (s.frameHit n 0x04 m).upMsg n 0x04 m fun s =>
    let n := s.headLane n
    let cls := byteAt (s.joist n).head 0
    match (s.joist n).frame with
    | none => if cls = 3 then s else (s.count (jlReg n 0x18)).coaxBad n
    | some f =>
      let es := timeAt m.payload 4
      let ee := timeAt m.payload 12
      let s := s.onJoist n fun j => { j with frame := none }
      let give (s : State) (rows : List (List Byte)) : State :=
        (s.camBeams n).foldl (fun st b => st.coaxFrame b f.width f.height f.bits es ee (rows.map (pixelsOf f.bits)) false (st.gNext b)) s
      match f.whole m with
      | none => if cls = 3 then s else (s.count (jlReg n 0x18)).coaxBad n
      | some rows =>
        if cls = 3 ∨ (cls = 2 ∧ (s.camBeams n).isEmpty = true) then s
        else
          let s := s.count (jlReg n 0x14)
          if cls = 2 then give s rows else s.capture n f rows

/-- WINDOW (R350): passed on to the LED channels. -/
def State.windowMsg (s : State) (n : Fin 16) (m : Msg) : State :=
  s.upMsg n 0x07 m fun s => s.takeWindow n { start := timeAt m.payload 0, dur := leAt m.payload 8 4, num := leWord m.payload 12, running := false }

end Sys2Proof.Machine
end

