-- ==== Sys2Proof/Machine/Brace.lean ====
section
/-! DEFINITION. Motion (13_brace_motion.md R404-R428): the jerk-limited planner, moves, homing, limits, feedback inputs and axis faults. -/

namespace Sys2Proof.Machine

open Sys2Proof

/-! ## The planner (R408, log entry 31) -/

/-- The limits in force: PU/s, PU/s², PU/s² and PU/s³. -/
structure Lims where
  v : Nat
  a : Nat
  d : Nat
  j : Nat
deriving DecidableEq, Repr

/-- The configured limits of a port, with an old DMAX that is kept (R410). -/
def State.lims (s : State) (p : Fin 8) : Lims :=
  { v := (s.reg (mpReg p 0x14)).toNat, a := (s.reg (mpReg p 0x18)).toNat, d := ((s.axis p).oldDmax.getD (s.reg (mpReg p 0x1C)).toNat)
    j := 256 * (s.reg (mpReg p 0x20)).toNat }

/-- A speed of 1 PU/s, an acceleration of 1 PU/s² in the plan's units. -/
def vUnit : Int := 20000000000
def aUnit : Int := 100000

/-- What the speed still gains when the acceleration `a` is brought to 0 with jerk `j`, tick by tick. -/
def rampUp (j a : Int) : Int :=
  if j ≤ 0 then 0
  else
    let m : Int := (a.natAbs : Int)
    let q := m / j
    let r := m % j
    let g := q * q * j + 2 * q * r + r
    if 0 ≤ a then g else -g

/-- The greatest number in [lo, hi] that `ok` accepts, where `ok` accepts all below a bound; `lo` when there is none. -/
def lastOk (ok : Int → Bool) : Nat → Int → Int → Int
  | 0, lo, _ => lo
  | n + 1, lo, hi =>
    if hi ≤ lo then lo
    else
      let m := (lo + hi + 1) / 2
      if ok m then lastOk ok n m hi else lastOk ok n lo (m - 1)

/-- The jerk of a tick towards a goal speed that lies above (R408): the greatest that does not pass it, within the acceleration limits. -/
def jerkUp (v a goal j hiA loA : Int) : Int :=
  let hi := max (-j) (min j (hiA - a))
  let lo := max (-j) (min hi (-loA - a))
  lastOk (fun x => decide (v + 2 * a + x + rampUp j (a + x) ≤ goal)) 50 lo hi

/-- The jerk of a tick (R408): AMAX bounds the acceleration when it raises the speed, DMAX when it lowers it. -/
def pickJerk (v a goal : Int) (l : Lims) : Int :=
  let j : Int := l.j
  let up (v : Int) : Int := if 0 ≤ v then (l.a : Int) * aUnit else (l.d : Int) * aUnit
  let down (v : Int) : Int := if v ≤ 0 then (l.a : Int) * aUnit else (l.d : Int) * aUnit
  if v + rampUp j a ≤ goal then jerkUp v a goal j (up v) (down v)
  else -(jerkUp (-v) (-a) (-goal) j (up (-v)) (down (-v)))

/-- The distance to rest from a speed `v` and acceleration `a` (R408), in the plan's units. -/
def stopDist (l : Lims) (v a : Int) : Nat :=
  if l.j = 0 ∨ l.d = 0 then 0
  else
    let neg := decide (v < 0) || (v == 0 && decide (a < 0))
    let v' : Int := if neg then -v else v
    let a' : Int := if neg then -a else a
    let j : Int := l.j
    let d : Int := l.d
    let v0 := v' + (a' * a' + j - 1) / j
    let flat := v0 * j ≥ vUnit * d * d
    let far : Int := if flat then v0 * v0 * 3 / (400000 * d) + v0 * 150000 * d / j else ((isqrtUp ((9 * v0 * v0 * v0 / (2 * j)).toNat) : Nat) : Int)
    let part : Int := if 0 ≤ a' then 3 * v' * a' / j + 2 * a' * a' * a' / (j * j) else -(3 * v0 * (-a') / j - (-a') * (-a') * (-a') / (j * j))
    (far + part).toNat

/-- The direction of motion: that of the speed, at a standstill that of the acceleration. -/
def Axis.dir (x : Axis) : Int := if 0 < x.v then 1 else if x.v < 0 then -1 else if 0 < x.a then 1 else if x.a < 0 then -1 else 0

/-- The remaining distance of a position move. -/
def Axis.left (x : Axis) : Int := x.target * puUnit - x.p

/-- Whether the stopping distance reaches beyond the target by more than the ticks of the plan account for: the axis passes the target
and returns (R409, R410). -/
def Axis.passes (x : Axis) (l : Lims) : Bool :=
  let d := x.left
  x.dir != 0 && (if 0 < d then decide (0 < x.dir) else decide (x.dir < 0)) && decide (d.natAbs + 6 * x.v.natAbs + 12 * x.a.natAbs < stopDist l x.v x.a)

/-- The goal speed of a tick (R408). -/
def Axis.goal (x : Axis) (l : Lims) (homeVel : Int) : Int :=
  match x.motion with
  | .rest => 0
  | .stopping => 0
  | .homing => if x.stalled then 0 else homeVel * vUnit
  | .velocity => clampInt (-(l.v : Int)) l.v x.target * vUnit
  | _ =>
    let d := x.left
    let sd : Int := if 0 < d then 1 else if d < 0 then -1 else 0
    let sv : Int := if 0 < x.v then 1 else if x.v < 0 then -1 else 0
    if x.landing then 0
    else if x.v ≠ 0 ∧ sv ≠ sd then 0
    else if d.natAbs ≤ stopDist l x.v x.a then 0
    else sd * l.v * vUnit

/-- Whether the deceleration onto the target begins. -/
def Axis.lands (x : Axis) (l : Lims) : Bool :=
  (x.motion == .position || x.motion == .backoff) && x.v != 0 && decide (x.left.natAbs ≤ stopDist l x.v x.a) && !x.passes l
    && (if 0 < x.v then decide (0 ≤ x.left) else decide (x.left ≤ 0))

/-- One planning tick of 10 µs (R408): exact kinematics under the tick's jerk; the landing ends on the target (log entry 31). -/
def Axis.step (x : Axis) (l : Lims) (homeVel : Int) : Axis :=
  let x := { x with landing := x.landing || x.lands l }
  let goal := x.goal l homeVel
  let j := pickJerk x.v x.a goal l
  let p := x.p + 3 * x.v + 3 * x.a + j
  let v := x.v + 2 * x.a + j
  let a := x.a + j
  -- below the resolution of the plan the goal is reached
  let near := decide ((goal - v).natAbs ≤ 1) && a == 0
  let v := if near then goal else v
  let t := x.target * puUnit
  let p := if x.landing then (if 0 < x.v then min p t else max p t) else p
  let still := v == 0 && a == 0
  { x with p := if x.landing && still then t else p, v := v, a := a, landing := x.landing && !still }

/-! ## Gangs (R411) -/

/-- The motor ports of a GANG frame, in member order. -/
def Frame.motors (f : Frame) : List (Fin 8) := (sortBy (fun m => m.1) f.members).filterMap fun m => match m.2 with
  | .leaf (.motor n) => some n
  | _ => none
def Frame.isGang (f : Frame) : Bool := f.attrs.getLsbD 1

/-- The gang that a port belongs to; the port alone when there is none. -/
def State.gangOf (s : State) (p : Fin 8) : List (Fin 8) :=
  match s.front.frames.find? (fun f => f.isGang && f.motors.contains p) with
  | some f => f.motors
  | none => [p]
def State.inGang (s : State) (p : Fin 8) : Bool := s.front.frames.any fun f => f.isGang && f.motors.contains p

/-! ## Faults (R425) -/

/-- An axis fault: UNIT_STATUS, AXIS_FAULT, the axis action, the rest of a gang, and HOLD where HOLD_ON_FAULT is set. -/
def State.axisFault (s : State) (p : Fin 8) (cls : Nat) : State :=
  let off := cls == 0x20 || cls == 0x21 || (cls == 0x23 && s.isBldc p)
  let s := s.onAxis p fun a => { a with faults := if a.faults.contains cls then a.faults else a.faults ++ [cls], faultAt := s.now }
  let s := s.unitFault (.motor p) stFault cls
  let s := s.raise 0x0B02 2 cls [1, p] (leBytes 1 cls ++ leBytes 3 0 ++ s.mpPos p)
  let s := if off then s.safePort p 1 else s.stopAxis p .aborted 4
  let s := ((s.gangOf p).filter (· ≠ p)).foldl (fun st q => st.stopAxis q .aborted 4) s
  if s.regB (mpReg p 4) 7 then s.holdCause 5 else s

/-- ACK_PENDING of a motor port written 1 (R42): causes that have ended with the axis's stop clear, chatter only after 100 ms without an
edge (R418). -/
def State.ackMotor (s : State) (p : Fin 8) : State :=
  let quiet := (((s.axis p).edgesN ++ (s.axis p).edgesP).all fun t => decide (t + 100 * milli ≤ s.now))
  let keep (c : Nat) : Bool := c == 0x27 || c == 0x28 || (c == 0x25 && !quiet)
  ((s.onAxis p fun a => { a with faults := a.faults.filter keep }).ackUnit (.motor p)).bridges 1

/-- ACK_PENDING of any unit. -/
def State.ackAny (s : State) (u : Leaf) : State :=
  match u with
  | .motor p => s.ackMotor p
  | u => s.ackUnit u

/-! ## The planning tick (R408, R410, R412, R414, R423) -/

/-- i_set of a stepper port (R405), in 0.01 mA: I_RUN while it moves, HOME_PCT of it while homing, HOLD_PCT of it after 200 ms at standstill. -/
def State.iSet (s : State) (p : Fin 8) : Nat :=
  let x := s.axis p
  let pct := if x.motion = .homing then s.regF (mpReg p 0xC) 24 8 else if x.holding then s.regF (mpReg p 0xC) 16 8 else 100
  s.regF (mpReg p 0xC) 0 16 * pct

/-- The references of a stepper port's two coils (R405), in 0.01 mA, by the sine table, whose entries are the implementation's. DIR_INV reverses the angle. -/
def State.coilRefs (s : State) (p : Fin 8) : Int × Int :=
  let x := s.axis p
  let angle := unsignedOf 10 (if s.regB (mpReg p 4) 9 then -x.pu else x.pu)
  let ref (k : Nat) : Int := roundHalfAway ((s.iSet p : Int) * Config.sine (BitVec.ofNat 10 (angle + k))) 65536
  if x.gatesOff then (0, 0) else (ref 0, ref 256)

/-- v_meas of a feedback input in the plan's units (R422). -/
def State.vMeas (s : State) (f : Fin 8) : Int :=
  let per := (s.reg (fbReg f 0xC)).toNat
  let x := s.feed f
  if per = 0xFFFFFFFF ∨ per = 0 then 0
  else
    let since := match x.lastEdge with
      | some t => (s.now - t) / 5
      | none => per
    x.dir * (4000000000000000000 / ((max per since : Nat) : Int))

/-- The measured position of a port with feedback, in PU (R412, R423). -/
def State.measuredPos (s : State) (p : Fin 8) : Int :=
  let c := s.fbCount (s.fbSel p)
  if s.isBldc p then c else (s.axis p).encBase + (c - (s.axis p).fbBase) * ((s.reg (mpReg p 0x44)).toNat : Int) / 65536

/-- Whether a port has feedback. -/
def State.hasFb (s : State) (p : Fin 8) : Bool := s.isBldc p || s.fbUse p

/-- The velocity loop of a BLDC port (R414); currents in units of 1/(256 * 2 * 10^15) mA. -/
def State.bldcLoop (s : State) (p : Fin 8) : State :=
  if s.isBldc p then
    let x := s.axis p
    let unit : Int := 512000000000000000
    let lim : Int := (s.regF (mpReg p 0xC) 0 16 : Nat) * unit
    let ev := x.v - s.vMeas (s.fbSel p)
    let ep := x.p - s.axisPos p * puUnit
    let kp : Int := (s.regF (mpReg p 0x38) 0 16 : Nat)
    let ki : Int := (s.regF (mpReg p 0x38) 16 16 : Nat)
    let kpp : Int := (s.regF (mpReg p 0x3C) 0 16 : Nat)
    let i := clampInt (-lim) lim (x.iInt + ki * ev)
    s.onAxis p fun a => { a with iInt := i, iRef := clampInt (-lim) lim (kp * ev * 100000 + Int.tdiv (kpp * ep) 3 + i) }
  else s

/-- OVERSHOOT_PLANNED (R409, R410): the flag, and the alert with the planned turning position. -/
def State.overshoot (s : State) (p : Fin 8) : State :=
  let x := s.axis p
  let turn := x.p + x.dir * (stopDist (s.lims p) x.v x.a : Nat)
  (s.onAxis p fun a => { a with oversh := true }).raise 0x0B04 1 0 [1, p] (leBytes 4 (unsignedOf 32 (turn / puUnit)))

/-- New limits take effect (R410): where they no longer let the axis stop at its target, it overshoots, or keeps its old DMAX. -/
def State.takeLims (s : State) (p : Fin 8) : State :=
  match (s.axis p).newLims with
  | none => s
  | some (v, a, d, j) =>
    let x := s.axis p
    let s := s.onAxis p fun a => { a with newLims := none }
    if x.motion = .position ∧ x.passes (s.lims p) = true ∧ x.passes ⟨v, a, d, j⟩ = false then
      if s.noOvershoot p then s.onAxis p fun a => { a with oldDmax := some d } else s.overshoot p
    else s

/-- Whether a stall of a moving axis outside homing shows (R415, R425): at least half of VMAX, and on a stepper the measured on-times, on a
BLDC port no edge for STALL_TIME with the current at its limit. -/
def State.stallSeen (s : State) (p : Fin 8) : Bool :=
  let x := s.axis p
  let fast := decide ((s.lims p).v * vUnit.toNat ≤ 2 * x.v.natAbs)
  let on := s.regB (mpReg p 4) 8 && fast && (x.motion == .position || x.motion == .velocity || x.motion == .stopping)
  if s.isBldc p then
    let lim : Int := (s.regF (mpReg p 0xC) 0 16 : Nat) * 512000000000000000
    on && (x.iRef == lim || x.iRef == -lim) && (match (s.feed (s.fbSel p)).lastEdge with
      | some t => decide (t + s.regF (mpReg p 0x34) 16 16 * micro ≤ s.now)
      | none => false)
  else on && (Config.measured (mpReg p 0x98) s.now).getLsbD 0

/-- Whether an active limit lies in the direction of motion (R418). -/
def State.limitAhead (s : State) (p : Fin 8) (dir : Int) : Bool :=
  let x := s.axis p
  s.regB (mpReg p 4) 10 && ((decide (0 < dir) && x.limP) || (decide (dir < 0) && x.limN))

/-- A limit trips (R417, R418): homing fails, another move stops with a LIMIT fault, unless a fault of another class came in the same tick (R427). -/
def State.limitTrip (s : State) (p : Fin 8) : State :=
  let x := s.axis p
  if x.motion = .homing ∨ x.motion = .backoff then (s.gangOf p).foldl (fun st q => st.stopAxis q .limitBefore 1) s
  else if x.why = .limitBefore ∨ x.faults.contains 0x24 = true ∨ ((x.faults.any (· != 0x28)) = true ∧ s.now < x.faultAt + 10 * micro) then s
  else (s.axisFault p 0x24).onAxis p fun a => { a with why := .limitBefore }

/-- What a planning tick checks after the plan has moved: a stall, following, skew, a limit ahead, and the travel of a homing. -/
def State.tickChecks (s : State) (p : Fin 8) : State :=
  let x := s.axis p
  let fault (c : Nat) : Bool := x.faults.contains c
  if s.stallSeen p && !fault 0x21 then
    let s := (s.count (mpReg p 0x98)).rings fun r => { r with stalls := updAt r.stalls p fun v => min (v + 1) 0xFFFFFFFF }
    s.axisFault p 0x21
  else if s.mpKind p = 1 ∧ s.fbUse p = true ∧ fault 0x22 = false ∧ ((s.reg (mpReg p 0x40)).toNat : Int) < ((x.pu - s.measuredPos p).natAbs : Int) then s.axisFault p 0x22
  else if s.inGang p = true ∧ (s.gangOf p).all (s.hasFb) = true ∧ fault 0x26 = false ∧ ((s.reg 0x070E0000).toNat : Int) < ((x.pu - s.measuredPos p).natAbs : Int) then
    (s.gangOf p).foldl (fun st q => st.axisFault q 0x26) s
  else if x.dir ≠ 0 ∧ s.limitAhead p x.dir = true then s.limitTrip p
  else if x.motion = .homing ∧ ((s.reg (mpReg p 0x28)).toNat : Int) < ((x.pu - x.homeFrom).natAbs : Int) then
    (s.gangOf p).foldl (fun st q => st.stopAxis q .noStall 2) s
  else s

/-- One planning tick of a port. -/
def State.planTick (s : State) (p : Fin 8) : State :=
  if s.mpKind p = 0 ∨ (s.axis p).gatesOff = true then s
  else
    let s := s.takeLims p
    let s := if (s.axis p).motion = .rest then s else s.onAxis p fun x => x.step (s.lims p) (s32 (s.reg (mpReg p 0x24)))
    (s.bldcLoop p).tickChecks p

/-! ## Moves (R409, R411, R426-R428) -/

/-- The modes in which MOVE and HOME are taken. -/
def Mode.moves : Mode → Bool
  | .idle | .calibrate | .preheat | .recoat | .expose | .service => true
  | _ => false

/-- Why MOVE or HOME is refused by the device's state in a mode: the cause of WRONG_MODE. -/
def State.motionCause (s : State) (m : Mode) : Option Nat :=
  if m.moves = false then some 1
  else if s.safety.bridgeLatch then some 2
  else if s.regB 0x0B000000 3 || s.regB 0x0B000000 4 then some 0xB
  else none

/-- The target of a move in PU, or its speed. -/
def State.moveTarget (s : State) (p : Fin 8) (kind : Nat) (v : Int) : Int := if kind = 1 then s.axisPos p + v else v

/-- Whether a position target lies outside the soft limits (R407). -/
def State.softBad (s : State) (p : Fin 8) (kind : Nat) (v : Int) : Bool :=
  let t := s.moveTarget p kind v
  kind != 2 && (decide (t < s32 (s.reg (mpReg p 0x48))) || decide (s32 (s.reg (mpReg p 0x4C)) < t))

/-- The state that a move starts from: a BLDC axis at rest stands at its count. -/
def State.moveFrom (s : State) (p : Fin 8) : Axis :=
  let x := s.axis p
  if s.isBldc p ∧ x.motion = .rest then { x with p := s.axisPos p * puUnit } else x

/-- The outcome of the checks of a MOVE on one axis (R409, R411, R418, R427, R428). -/
def State.moveRefused (s : State) (p : Fin 8) (kind : Nat) (v : Int) : Option (Status × Nat) :=
  let x := s.axis p
  let t := s.moveTarget p kind v
  if s.softBad p kind v then some (.badParam, 4)
  else if x.motion = .homing ∨ x.motion = .backoff ∨ x.homeWhy.isSome = true then some (.busy, 0)
  else if kind = 0 ∧ x.homed = false then some (.wrongMode, 1)
  else if x.faults.contains 0x25 then some (.wrongMode, 1)
  else
    let dir : Int := if kind = 2 then v else t - s.axisPos p
    if s.limitAhead p dir then some (.wrongMode, 1)
    else if kind ≠ 2 ∧ s.noOvershoot p = true ∧ ({ s.moveFrom p with target := t }).passes (s.lims p) = true then some (.wrongMode, 1)
    else none

/-- A MOVE is carried out, with the planning tick that it starts (R408). -/
def State.doMove (s : State) (p : Fin 8) (kind : Nat) (v : Int) : State :=
  let t := s.moveTarget p kind v
  let x := s.moveFrom p
  let s := s.onAxis p fun _ => { x with
    target := t, motion := if kind = 2 then .velocity else .position, why := .none, landing := false, atTarget := false, oversh := false
    restAt := none, holding := false, oldDmax := if x.motion = .rest then none else x.oldDmax }
  let s := if kind ≠ 2 ∧ (s.axis p).passes (s.lims p) = true then s.overshoot p else s
  s.planTick p

/-- STOP (R428): an axis that is stopping already goes on. -/
def State.doStop (s : State) (p : Fin 8) : State :=
  if (s.axis p).moving ∧ (s.axis p).motion ≠ .stopping then (s.stopAxis p .host 4).planTick p else s

/-- The outcome of the checks of a HOME (R415, R418, R432). -/
def State.homeRefused (s : State) (p : Fin 8) : Option (Status × Nat) :=
  let x := s.axis p
  if s32 (s.reg (mpReg p 0x24)) = 0 then some (.badParam, 0xFFFF)
  else if x.moving then some (.busy, 0)
  else if x.faults.contains 0x25 then some (.wrongMode, 1)
  else none

/-- HOME begins (R415). -/
def State.doHome (s : State) (p : Fin 8) : State :=
  let x := s.moveFrom p
  let s := s.onAxis p fun _ => { x with
    homed := false, motion := .homing, why := .none, stalled := false, homeWhy := none, homeFrom := x.p / puUnit, landing := false, atTarget := false
    restAt := none, holding := false, oldDmax := none }
  s.planTick p

/-- An axis that has arrived stands still from now on. -/
def State.axisRests (s : State) (p : Fin 8) (at_ : Bool) : State :=
  s.onAxis p fun a => { a with motion := .rest, why := .none, atTarget := at_, restAt := some s.now, homeWhy := none, oldDmax := none, landing := false, stalled := false }

/-- A move has reached its target or was cut short (R426, R429). -/
def State.moveDone (s : State) (p : Fin 8) : State :=
  let x := s.axis p
  if x.motion = .rest ∨ x.motion = .backoff ∨ x.motion = .homing ∨ x.homeWhy.isSome = true ∨ x.arrived = false then s
  else (s.axisRests p (x.motion == .position)).moveDoneAlert p (if x.motion = .stopping then 1 else 0)

/-- 200 ms at a standstill (R405). -/
def State.holdCurrent (s : State) (p : Fin 8) : State :=
  let x := s.axis p
  match x.motion, x.restAt with
  | .rest, some t => if x.gatesOff then s else (s.reach (t + 200 * milli)).onAxis p fun a => { a with holding := true }
  | _, _ => s

/-- A short at switch-on (R404). -/
def State.driverShort (s : State) (p : Fin 8) : State :=
  if s.mpKind p = 0 ∨ (s.axis p).gatesOff = true then s else s.axisFault p 0x20

/-! ## Homing (R415-R417) -/

/-- A position is set (R415, R428): the reference count is fixed anew, and UNCERTAIN clears. -/
def State.setPosition (s : State) (p : Fin 8) (pos : Int) (homed : Bool) : State :=
  let f := s.fbSel p
  let s := if s.isBldc p then s.setReg (fbReg f 8) (wordOfInt pos) else s
  let s := s.onAxis p fun a => { a with p := pos * puUnit, v := 0, a := 0, homed := homed, encBase := pos, fbBase := s.fbCount f }
  let s := if s.hasFb p then s.onFeed f fun x => { x with ref := none, refArmed := true } else s
  s.certain p

/-- The backoff begins from the stop. -/
def State.startBackoff (s : State) (p : Fin 8) : State :=
  let hv := s32 (s.reg (mpReg p 0x24))
  let hp := s32 (s.reg (mpReg p 0x2C))
  let bk : Int := ((s.reg (mpReg p 0x30)).toNat : Int)
  (s.setPosition p hp true).onAxis p fun a => { a with motion := .backoff, stalled := false, target := if 0 < hv then hp - bk else hp + bk }

/-- A stall against the hard stop (R415, R416): the plan is at rest at once; when every member of a gang has stalled, all back off
together, unless their stalls lie too far apart. -/
def State.homeStall (s : State) (p : Fin 8) : State :=
  let x := s.axis p
  if x.motion ≠ .homing ∨ x.stalled = true then s
  else
    let s := s.onAxis p fun a => { a with v := 0, a := 0, stalled := true, stallAt := s.now }
    let g := s.gangOf p
    if g.all fun q => (s.axis q).stalled then
      let first := g.foldl (fun q r => if (s.axis r).stallAt < (s.axis q).stallAt then r else q) p
      if (s.reg 0x070E0000).toNat < ((s.axis first).pu - (s.axis p).pu).natAbs then
        g.foldl (fun st q => st.onAxis q fun a => { a with motion := .stopping, why := .skew, homeWhy := some 3, stalled := false }) s
      else g.foldl (fun st q => st.startBackoff q) s
    else s

/-- Homing ends (R415, R417). -/
def State.homeDone (s : State) (p : Fin 8) : State :=
  let x := s.axis p
  if x.arrived = false then s
  else match x.motion, x.homeWhy with
    | .backoff, _ =>
      let s := s.rings fun r => { r with homings := updAt r.homings p fun v => min (v + 1) 0xFFFFFFFF }
      (s.axisRests p true).homeDoneAlert p 0
    | .stopping, some w => ((s.axisRests p false).onAxis p fun a => { a with homed := false }).homeDoneAlert p w
    | _, _ => s

/-! ## Limit inputs (R418) -/

/-- A debounced edge of a limit input. -/
def State.limitEdge (s : State) (p : Fin 8) (positive level : Bool) : State :=
  let act := level == s.regB (mpReg p 4) 11
  let recent (l : List Nat) : List Nat := (s.now :: l.filter fun t => decide (s.now ≤ t + 100 * milli)).take 16
  let s := s.onAxis p fun a => if positive then { a with limP := act, edgesP := recent a.edgesP } else { a with limN := act, edgesN := recent a.edgesN }
  if s.regB (mpReg p 4) 10 = false ∨ s.mpKind p = 0 then s
  else
    let x := s.axis p
    let n := (if positive then x.edgesP else x.edgesN).length
    if 8 < n ∧ x.faults.contains 0x25 = false then s.axisFault p 0x25
    else if x.moving ∧ act = true ∧ (if positive then 0 < x.dir else x.dir < 0) then s.limitTrip p
    else if act = true ∧ x.motion = .homing then s.limitTrip p
    else s

/-- A limit input has seen no edge for 100 ms: an acknowledged chatter clears, once neither input has. -/
def State.chatterQuiet (s : State) (p : Fin 8) (positive : Bool) : State :=
  let x := s.axis p
  let last := ((if positive then x.edgesP else x.edgesN).head?).getD 0
  let s := s.reach (last + 100 * milli)
  let quiet := (x.edgesN ++ x.edgesP).all fun t => decide (t + 100 * milli ≤ s.now)
  if x.faults.contains 0x25 ∧ quiet = true ∧ s.ackPending (.motor p) = false then (s.onAxis p fun a => { a with faults := a.faults.filter (· != 0x25) }).settle (.motor p)
  else s

/-! ## Feedback inputs (R419-R423) -/

/-- The axes whose position or checks come from an input. -/
def State.axesOf (s : State) (f : Fin 8) : List (Fin 8) := ports8.filter fun p => s.mpKind p != 0 && s.hasFb p && s.fbSel p == f
def State.fbUncertain (s : State) (f : Fin 8) : State := (s.axesOf f).foldl (fun st p => st.uncertain p) s

/-- The counts of a revolution (R420). -/
def State.revLen (s : State) (f : Fin 8) : Nat := let c := (s.reg (fbReg f 4)).toNat; if c = 0 then 65536 else c

/-- An error of an input: it counts towards QUAD_LIMIT, and the position is uncertain; an edge fault flags it in the quadrature class alone (R420). -/
def State.fbError (s : State) (f : Fin 8) (off : Nat) : State :=
  let s := (s.count (fbReg f off)).onFeed f fun x => { x with errs := x.errs + 1 }
  if off = 0x14 ∧ s.regF (fbReg f 0) 0 2 ≠ 0 then s else s.fbUncertain f

/-- An accepted count edge (R420, R422): the count moves, the period follows unless the direction has just turned. -/
def State.fbStep (s : State) (f : Fin 8) (d : Int) : State :=
  let x := s.feed f
  let c := s.fbCount f + d
  let s := s.setReg (fbReg f 8) (wordOfInt c)
  let turned := x.dir != 0 && x.dir != d
  let per := match x.lastEdge with
    | some t => BitVec.ofNat 32 (min ((s.now - t) / 5) 0xFFFFFFFE)
    | none => 0xFFFFFFFF
  let s := s.setReg (fbReg f 0xC) (if turned then 0xFFFFFFFF else per)
  let revEnd := decide (s.revLen f ≤ (c - x.revFrom).natAbs)
  s.onFeed f fun x => { x with lastEdge := some s.now, dir := d, errs := if revEnd then 0 else x.errs
                               revFrom := if revEnd then c else x.revFrom }

/-- A reference event (R421): the first one after HOMED or POSITION_SET fixes the reference count. DEDUCED (log entry 61): an event at exactly the
expected count corrects nothing, and is no correction to count or record. -/
def State.indexEvent (s : State) (f : Fin 8) (quadError : Bool) : State :=
  let x := s.feed f
  let c := s.fbCount f
  let s := s.onFeed f fun x => { x with errs := 0, revFrom := c, ref := if x.refArmed then some c else x.ref, refArmed := false }
  let cpr : Int := ((s.reg (fbReg f 4)).toNat : Int)
  match x.refArmed, x.ref with
  | false, some r =>
    if cpr = 0 then s
    else
      let k := roundHalfAway (c - r) cpr.toNat
      let e := r + k * cpr
      if quadError = false ∧ (c - e).natAbs ≤ s.regF (fbReg f 0) 12 4 then
        if c = e then s
        else
          let s := s.setReg (fbReg f 8) (wordOfInt e)
          let s := (s.count16 (fbReg f 0x18) 0).setF (fbReg f 0x18) 16 16 (unsignedOf 16 (e - c))
          s.note 0x0B80 0 0 [1, f] (leBytes 1 f ++ leBytes 3 0 ++ leBytes 4 (unsignedOf 32 (e - c)))
      else
        let s := s.raise 0x0B03 1 0 [1, f] (leBytes 1 f ++ leBytes 3 0 ++ leBytes 4 (unsignedOf 32 e) ++ leBytes 4 (unsignedOf 32 c))
        s.fbUncertain f
  | _, _ => s

/-- A tooth of a REFERENCE input (R420): an interval longer than 1.5 times, or shorter than half of, the mean of the previous 8 marks a missing or an extra
tooth, and REF_KIND chooses which of them is the reference. -/
def State.tooth (s : State) (f : Fin 8) : State :=
  let x := s.feed f
  let s := s.fbStep f 1
  match x.lastEdge with
  | none => s
  | some t =>
    let d := s.now - t
    let sum := x.teeth.sum
    let s := s.onFeed f fun x => { x with teeth := (d :: x.teeth).take 8 }
    let marks := if s.regB (fbReg f 0) 10 then decide (16 * d < sum) else decide (3 * sum < 16 * d)
    if x.teeth.length = 8 ∧ marks = true then s.indexEvent f false else s

/-- The place of a quadrature state in the usual sense, and of a Hall state in its sequence; 6 for a Hall state that is none. -/
def quadPlace (a b : Bool) : Nat := if a then (if b then 2 else 1) else (if b then 3 else 0)
def hallPlace (u v w : Bool) : Nat :=
  match u, v, w with
  | true, false, true => 0
  | true, false, false => 1
  | true, true, false => 2
  | false, true, false => 3
  | false, true, true => 4
  | false, false, true => 5
  | _, _, _ => 6

/-- A change on the lines of an input (R419, R420); `stable` when it lasted MIN_EDGE. -/
def State.feedbackEdge (s : State) (f : Fin 8) (a b z stable : Bool) : State :=
  if stable = false then s.fbError f 0x14
  else
    let x := s.feed f
    let inv := s.regB (fbReg f 0) 11
    let line (x : Feed) : Bool × Bool := if inv then (x.b, x.a) else (x.a, x.b)
    let old := line x
    let s := (s.onFeed f fun x => { x with a := a, b := b, z := z }).setReg (fbReg f 0x1C) (BitVec.ofNat 32 (bit a + 2 * bit b + 4 * bit z))
    let new := line (s.feed f)
    match s.regF (fbReg f 0) 0 2 with
    | 0 =>
      if old.1 ≠ new.1 ∧ old.2 ≠ new.2 then s.fbError f 0x10
      else if old = new then s
      else s.fbStep f (if (quadPlace old.1 old.2 + 1) % 4 = quadPlace new.1 new.2 then 1 else -1)
    | 1 => if old.1 = false ∧ new.1 = true then s.tooth f else s
    | _ =>
      let o := hallPlace old.1 old.2 x.z
      let n := hallPlace new.1 new.2 z
      if o = n ∧ n ≠ 6 then s
      else if n = 6 then (if (old.1, old.2, x.z) = (new.1, new.2, z) then s else s.fbError f 0x10)
      else if o = 6 then s
      else if (o + 1) % 6 = n then s.fbStep f 1
      else if (n + 1) % 6 = o then s.fbStep f (-1)
      else s.fbError f 0x10

/-- The three lines of a pass-through output (R424): the filtered lines of its source, or low. -/
def State.passThrough (s : State) (k : Fin 2) : Bool × Bool × Bool :=
  let w := 0x070C0000 + 4 * k.val
  let x := s.feed (Fin.ofNat 8 (s.regF w 0 3))
  if s.regB w 8 && s.mode.mode.driveOn then (x.a, x.b, x.z) else (false, false, false)

/-- A reference event that is reported (R421): an index pulse, or the reference tooth, unless the teeth have shown it already; a Hall input has none. -/
def State.refEvent (s : State) (f : Fin 8) (quadError : Bool) : State :=
  match s.regF (fbReg f 0) 0 2 with
  | 0 => s.indexEvent f quadError
  | 1 => if (s.feed f).revFrom = s.fbCount f then s else s.indexEvent f quadError
  | _ => s

/-- Errors beyond QUAD_LIMIT in one revolution are an ENCODER fault of the input's axes (R420). -/
def State.encoderFault (s : State) (f : Fin 8) : State :=
  if (s.feed f).errs ≤ s.regF (fbReg f 0) 16 8 then s
  else (s.axesOf f).foldl (fun st p => st.axisFault p 0x23) (s.onFeed f fun x => { x with errs := 0 })

/-- A port's KIND has changed (R401): a port that is off is ABSENT. -/
def State.kindChanged (s : State) (p : Fin 8) : State :=
  let st := s.unitState (.motor p)
  let s := if st = stOk ∨ st = stAbsent then s.setUnit (.motor p) (s.restState (.motor p)) else s
  s.bridges 1

/-- Limits written (R410, R428): those in force are kept until the next planning tick. -/
def State.setLims (s : State) (p : Fin 8) (off : Nat) (w : Word) : State :=
  let l := s.lims p
  (s.onAxis p fun a => { a with newLims := if a.newLims.isSome then a.newLims else some (l.v, l.a, l.d, l.j) }).setReg (mpReg p off) w

end Sys2Proof.Machine
end

