-- ==== Sys2Proof/Machine/RegView.lean ====
section
/-! DEFINITION. What a read of a register returns, without the clearing of RC fields and latching that a read brings (03 R102): the registers that
report a part of the state are given here, every other register its stored value; and the snapshots, which read registers (15 R461). -/

namespace Sys2Proof.Machine

open Sys2Proof

/-- A word from a number. -/
def word (n : Nat) : Word := BitVec.ofNat 32 n

/-- Two u16 in one register. -/
def pair16 (lo hi : Nat) : Word := word (lo % 65536 + 65536 * (hi % 65536))

/-! ## Codes -/

/-- The code of an active half's state, and of an inactive half's (R152, R184). -/
def ActState.code : ActState → Nat
  | .none => 0
  | .ready => 1
  | .preheating => 2
  | .running => 3
  | .paused => 4
  | .held => 5
  | .complete => 6
  | .abandoned => 7
def InState.code : InState → Nat
  | .empty => 0
  | .checking => 1
  | .valid => 2
  | .invalid => 3

/-- The code of an engine's state (R187). -/
def Engine.code : Engine → Nat
  | .off => 0
  | .ready => 1
  | .running => 2
  | .window => 3
  | .stick => 4
  | .draining => 5
  | .done => 6
  | .stopped => 7
  | .failed => 8

/-- The code of a lane's state (R342), a port's (R374), a slot's (R489) and a stick's (R213). -/
def Link.code : Link → Nat
  | .disabled => 0
  | .absent => 1
  | .signal => 2
  | .align => 3
  | .hello => 4
  | .up => 5
  | .backoff => 6
def PortSt.code : PortSt → Nat
  | .disabled => 0
  | .absent => 1
  | .training => 2
  | .up => 3
  | .degraded => 4
  | .down => 5
def SlotSt.code : SlotSt → Nat
  | .empty => 0
  | .writing => 1
  | .written => 2
  | .trial => 3
  | .active => 4
  | .standby => 5
  | .invalid => 6

/-! ## Identity, mode, safety, resume, packets (R33, R34, R70-R75, R111, R186) -/

/-- CHAIN (R34): COUNT is 0 in a worker. -/
def State.viewChain (s : State) : Word :=
  let c := s.chain
  word ((if c.index = 255 then 0 else c.index % 16) + 16 * bit c.manager + 256 * (if c.manager then c.count else 0))

/-- MODE (R70). -/
def State.viewMode (s : State) : Word :=
  let m := s.mode
  word (m.mode.code + 16 * m.prev.code + 256 * bit m.transition.isSome + 65536 * m.holdCause.toNat + 16777216 * m.refuseCause.toNat)

/-- SAFETY (R71). -/
def State.viewSafety (s : State) : Word :=
  let c := s.safety
  word (bit c.laserLatch + 2 * bit c.bridgeLatch + 4 * bit c.enA + 8 * bit c.enB + 16 * bit c.lockout + 256 * c.laserCause + 4096 * c.bridgeCause)

/-- RESUME_INFO (R74). -/
def State.viewResume (s : State) : Word :=
  let r := s.resume
  word (r.jobGen.toNat + 65536 * bit r.valid + 131072 * bit r.sticksValid + 262144 * bit r.grainCleared)

/-- CLOCK_STATUS (R75): the nine domains in the order of R24. -/
def State.viewClocks (s : State) : Word :=
  let up := s.mode.mode != .sill
  let beam := s.mode.mode.beamOn
  let lane := up && allLanes.any fun l => let x := (s.lane l).link; x != .disabled && x != .absent
  let net := up && (s.regB (ethReg 0 4) 0 || s.regB (ethReg 1 4) 0)
  let pixel := s.veneer.compose.isSome || s.veneer.swapWait.isSome
  word (maskOf [true, up, beam, beam, lane, up, net, s.mode.mode.driveOn, pixel] + 65536 * bit s.power.ref25)

/-- The layer registers (R186). -/
def State.viewLayer (s : State) (a : Nat) : Word :=
  let l := s.layers
  match a with
  | 0x2000 => word (l.active.code + 16 * l.inactive.code + 256 * bit l.halfB + 512 * bit l.jobOpen + 65536 * l.jobGen.toNat)
  | 0x2004 => word s.layerNo
  | 0x2008 => word (eraOf l.layerStart)
  | 0x200C => word (nsOf l.layerStart)
  | 0x201C => word l.doneCount
  | a => s.reg a

/-- The registers of a session slot (R111): `k` is 0 to 3. -/
def State.viewSession (s : State) (n k : Nat) : Word :=
  match s.front.sessions.find? fun x => x.slot.val == n with
  | none => 0
  | some x => match k with
    | 0 => x.id
    | 1 => x.client
    | 2 => word (bit x.dual + 2 * bit x.jumbo + 65536 * x.timeout)
    | _ => x.highest.getD 0

/-- The identity, mode, safety and packet range. -/
def State.viewId (s : State) (a : Nat) : Word :=
  if 0x100 ≤ a ∧ a < 0x1C0 then s.resume.index.getD ((a - 0x100) / 4) 0xFFFFFFFF
  else if 0x1000 ≤ a ∧ a < 0x1800 then word (s.resume.sticks.toNat / 2 ^ (8 * (a - 0x1000)) % eraLen)
  else if 0x3100 ≤ a ∧ a < 0x3180 then s.viewSession ((a - 0x3100) / 16) (a % 16 / 4)
  else match a with
    | 0 => word (0x96480100 + Config.revision.toNat)
    | 0x4 => s.viewChain
    | 0x10 => s.viewMode
    | 0x14 => s.viewSafety
    | 0x18 => s.power.resetCause
    | 0x1C => s.power.bootStatus
    | 0x20 => s.resume.layer
    | 0x24 => s.viewResume
    | 0x3004 => word s.front.sessions.length
    | 0x3008 => word s.front.sched.length
    | a => s.reg a

/-- Supplies, clocks and temperature (R75). -/
def State.viewPower (s : State) (a : Nat) : Word :=
  match a with
  | 0x0B000020 => s.viewClocks
  | 0x0B000004 => word ((Config.measured a s.now).toNat % 65536)
  | 0x0B000008 => word s.vinMin
  | 0x0B00000C => word ((Config.measured a s.now).toNat % 65536)
  | 0x0B000010 => word ((Config.measured a s.now).toNat % 65536)
  | 0x0B00001C => word ((Config.measured a s.now).toNat % 65536)
  | a => s.reg a

/-! ## Beam pages (R144-R151, R187-R189, R249-R256) -/

/-- The record at a beam's commit point (R187, R189): the released one that covers it, or the next one of the stream. -/
def State.recordNow (s : State) (b : Fin 48) : Option (Place × Rec) :=
  let k := s.kerf b
  let c := s.commitPoint
  match k.rels.find? fun r => decide (c < r.complete) with
  | some r => some (r.place, r.record)
  | none => (s.nextRecs b).map fun x => (x.1, x.2.1)

/-- The index of a record within its stream or stick. -/
def Place.index : Place → Nat
  | .main i => i
  | .pre i => i
  | .stick _ i => i
  | .scan => 0

/-- ENGINE_STATE (R187): an engine that runs a stick in a window or after END shows STICK. -/
def Kerf.shown (k : Kerf) : Nat :=
  if k.stick.isSome && (k.engine == .window || k.engine == .draining) then Engine.code .stick else k.engine.code

/-- The Kerf registers (R187, R189). -/
def State.viewKerf (s : State) (b : Fin 48) (off : Nat) : Word :=
  let k := s.kerf b
  match off with
  | 0x4000 =>
    let r := s.recordNow b
    word (k.shown + 16 * bit k.held + 32 * bit k.starved + 64 * bit k.preheat + 256 * (r.map fun x => x.2.ty).getD 0
      + 65536 * (r.map fun x => x.2.pset.toNat).getD 0)
  | 0x4008 => word (((s.recordNow b).map fun x => x.1.index).getD 0)
  | 0x400C => match s.stickInUse b with
    | some (n, i) => pair16 n i
    | none => 0xFFFFFFFF
  | 0x4038 => word (min (k.onNs / 1000) 0xFFFFFFFF)
  | off => s.reg (beamReg b off)

/-- Inputs, features and the camera (R250-R253). -/
def State.viewSense (s : State) (b : Fin 48) (off : Nat) : Word :=
  let c := s.plumb b
  match off with
  | 0x300C => pair16 (unsignedOf 16 (darkMean c.dark0)) (unsignedOf 16 (darkMean c.dark1))
  | 0x3010 => pair16 c.int0f c.int1f
  | 0x3014 => pair16 c.ratio c.tempf
  | 0x3018 =>
    word c.flags
  | 0x310C => pair16 c.cam.area c.cam.length
  | 0x3110 => pair16 (unsignedOf 16 c.cam.centX) (unsignedOf 16 c.cam.centY)
  | 0x3114 => word ((s.reg (beamReg b off)).toNat / 65536 * 65536 + bit (s.cameraInUse b) + 2 * bit c.cam.lost + 4 * bit c.cam.halfRate)
  | 0x3118 => word (c.cam.period % 16777216)
  | off => s.reg (beamReg b off)

/-- Plumb (R255, R256). -/
def State.viewPlumb (s : State) (b : Fin 48) (off : Nat) : Word :=
  let c := s.plumb b
  if 0x5200 ≤ off ∧ off < 0x5220 then wordOfInt (c.integ.getD ((off - 0x5200) / 4) 0)
  else if 0x5800 ≤ off then leWord (c.trace.getD ((off - 0x5800) / 16) []) (off % 16)
  else match off with
    | 0x5008 => word (c.profile % 8 + 8 * bit c.fallback + 16 * bit (s.cameraInUse b) + 32 * bit c.noFb + 64 * bit s.bypass + 128 * bit c.frozen)
    | 0x500C => pair16 c.m c.fOut
    | 0x5010 => pair16 c.g c.mff
    | 0x5030 => word ((s.reg (beamReg b off)).toNat % 32 + 256 * min c.trace.length 127)
    | off => s.reg (beamReg b off)

/-- A register of a beam page. -/
def State.viewBeam (s : State) (b : Fin 48) (off : Nat) : Word :=
  if off < 0x3000 then
    (if off = 0x200C then putFlag (s.reg (beamReg b off)) 3 (s.gateForced b) else s.reg (beamReg b off))
  else if off < 0x4000 then s.viewSense b off
  else if off < 0x5000 then s.viewKerf b off
  else if off < 0x6000 then s.viewPlumb b off
  else s.reg (beamReg b off)

/-! ## Truss, Grain, Scribe, Veneer (R217, R218, R278, R279, R305, R336, R337) -/

/-- The beams that wait (R217). -/
def State.heldMask (s : State) : Nat := maskOf (beams.map fun b => (s.kerf b).held)

/-- TR_IMPORT i (R218): the i-th beam imported from a port. -/
def importEntry (l : List Import) (i : Nat) : Word :=
  match ((l.map fun x => (x.device, x.beam)).dedup)[i]? with
  | some x => word (x.1 % 16 + 16 * x.2 + 0x80000000)
  | none => 0

/-- The Truss range. -/
def State.viewTruss (s : State) (a : Nat) : Word :=
  if 0x04000200 ≤ a ∧ a < 0x04000280 then
    let i := (a - 0x04000200) / 4
    if i < 16 then importEntry s.up.inMsgs i else importEntry s.down.inMsgs (i - 16)
  else match a with
    | 0x04000020 =>
      let active := (s.mode.mode == .expose || s.mode.mode == .preheat)
      word (s.truss.token % 64 + 64 * bit s.truss.free + 128 * bit active + 256 * (beams.filter fun b => (s.kerf b).held).length
        + 65536 * bit s.up.stale + 131072 * bit s.down.stale)
    | 0x04000024 => word (s.heldMask % eraLen)
    | 0x04000028 => word (s.heldMask / eraLen)
    | a => s.reg a

/-- The Grain range. -/
def State.viewGrain (s : State) (a : Nat) : Word :=
  match a with
  | 0x04800030 =>
    let unset := beams.any fun b => s.layerLive && s.inMask b && s.regF (0x04800100 + 4 * b) 0 16 == 0
    word (bit s.grain.rolling + 2 * bit (!s.grain.pendMat.isEmpty) + 4 * bit unset)
  | 0x04800054 => word s.trafficNow
  | 0x0480005C => word (s.grain.leadMin.getD 0)
  | a => s.reg a

/-- The state of a beam's pass (R305). -/
def Scribe.passCode (c : Scribe) : Nat :=
  if c.scan.isSome then 2
  else match c.result with
    | some r => if r.wait then 4 else 3
    | none => if c.pass.isSome then 1 else 0

/-- TABLE of SCB_STATUS. -/
def TableState.code : TableState → Nat
  | .notLoaded => 0
  | .loaded => 1
  | .restoreNeeded => 2

/-- The Scribe range: registers that mirror a table header field follow the table while there is one, and without one the
quality is none (R296). -/
def State.viewScribe (s : State) (a : Nat) : Word :=
  if a < 0x05004000 then s.reg a
  else
    let b : Fin 48 := Fin.ofNat 48 ((a - 0x05004000) / 0x40)
    let c := s.scribe b
    let head (off : Nat) : Word := if c.table = .notLoaded then (if off = 52 then 0xFFFFFFFF else 0) else word (s.tabNat b off 4)
    match a % 0x40 with
    | 0x00 => word (c.table.code + 16 * c.passCode + 256 * c.cause + 65536 * (c.meas.filter fun m => m.2.valid).length)
    | 0x08 => head 52
    | 0x0C => head 56
    | 0x10 => head 60
    | 0x14 => head 64
    | _ => s.reg a

/-- The Veneer range. -/
def State.viewVeneer (s : State) (a : Nat) : Word :=
  if 0x06000800 ≤ a ∧ a < 0x06000C00 then leWord (s.veneer.current.getD ((a - 0x06000800) / 64) []) (a % 64)
  else if a = vnStatus then putFlag (putFlag (s.reg a) 0 s.veneer.compose.isSome) 2 s.veneer.lockUntil.isSome
  else s.reg a

/-! ## Brace and illumination (R431-R434, R450, R451) -/

/-- A motor port's page. -/
def State.viewMotor (s : State) (p : Fin 8) (off : Nat) : Word :=
  let x := s.axis p
  match off with
  | 0x80 =>
    word (maskOf [x.v != 0, x.atTarget, x.motion == .homing || x.motion == .backoff, x.homed, x.uncertain, x.oversh, x.limN, x.limP, x.holding,
      x.oldDmax.isSome])
  | 0x84 => wordOfInt (s.axisPos p)
  | 0x88 => wordOfInt x.target
  | 0x8C => wordOfInt (roundHalfAway x.v vUnit.toNat)
  | 0x90 => wordOfInt (roundHalfAway x.a aUnit.toNat)
  | 0x94 => Config.measured (mpReg p off) s.now
  | off => s.reg (mpReg p off)

/-- An LED channel's page. -/
def State.viewLed (s : State) (c : Fin 16) (off : Nat) : Word :=
  match off with
  | 0x08 => pair16 (s.led c).level.1 (s.led c).level.2
  | 0x0C => let v := (s.led c).staged.getD (0, 0); pair16 v.1 v.2
  | 0x10 => word (s.ledStatus c)
  | off => s.reg (ledReg c off)

/-- The illumination range beyond the channels. -/
def State.viewLight (s : State) (a : Nat) : Word :=
  match a with
  | 0x07802048 => word s.stageMask
  | 0x0780204C =>
    let due := (s.lights.commits.map fun x => x.2) ++ ((s.front.sched.filter fun c => c.opcode == 0x0C02).map fun c => leAt c.packet.params 0 2)
    pair16 (s.regF a 0 16) (due.headD 0)
  | a => s.reg a

/-! ## Lanes and links (R372-R375) -/

/-- The bits that JL_STATUS and RP_LANE share. -/
def LaneSt.status (l : LaneSt) : Nat :=
  l.link.code + 8 * bit l.los + 16 * bit l.lol + 32 * bit l.syncOk + 256 * l.slip + 65536 * min l.fails 3

/-- A joist lane's page. -/
def State.viewJoist (s : State) (n : Fin 16) (off : Nat) : Word :=
  let j := s.joist n
  match off with
  | 0x04 => word (s.regF (jlReg n 4) 0 4 + 16 * bit j.bonded)
  | 0x08 => word (j.lane.status + 64 * bit (s.joist (s.headLane n)).half + 16777216 * (if j.lane.link = .up then byteAt j.head 0 else 0))
  | off => s.reg (jlReg n off)

/-- A rafter port's page. -/
def State.viewRafter (s : State) (p : RPort) (off : Nat) : Word :=
  let r := s.rport p
  match off with
  | 0x08 =>
    let lane := ((List.range 4).find? fun k => (r.lanes.getD k noLane).link == .up).getD 0
    let q := r.partner
    word (r.port.code + 8 * lane + 256 * maskOf r.inStripe + 65536 * ((q.bind fun x => x.index).getD 0 % 16) + 1048576 * bit (q.any fun x => x.manager))
  | 0x20 =>
    let now := if r.port = .degraded then ((List.range 4).map fun k => if r.inStripe.getD k false then 0 else r.rebuilt k s.now).sum else 0
    satInc (s.reg (rpReg p off)) now
  | off =>
    if 0x10 ≤ off ∧ off < 0x20 then word (r.lanes.getD ((off - 0x10) / 4) noLane).status
    else s.reg (rpReg p off)

/-- CHAIN_WAITING (R375): a partner that waits shows at the index that it will have. -/
def State.waitingMask (s : State) : Nat :=
  let step (acc : Nat × Nat) (p : Partner) : Nat × Nat :=
    match s.chain.memberOf p with
    | some m => (acc.1 ||| 2 ^ m.1, acc.2)
    | none => (acc.1 ||| 2 ^ acc.2, acc.2 + 1)
  (s.chain.waiting.foldl step (0, s.chain.nextIndex)).1 % 65536

/-- The chain registers. -/
def State.viewLinks (s : State) (a : Nat) : Word :=
  match a with
  | 0x08008000 => word s.chain.present.toNat
  | 0x08008004 => word s.chain.lost.toNat
  | 0x08008008 => word s.waitingMask
  | a => s.reg a

/-! ## Network and time (R398-R400) -/

/-- An Ethernet port's page. -/
def State.viewEth (s : State) (n : Fin 2) (off : Nat) : Word :=
  match off with
  | 0x08 => Config.measured (ethReg n off) 0
  | 0x0C => word ((Config.measured (ethReg n off) 0).toNat % 65536)
  | 0x18 =>
    let learned := s.front.sessions.any fun x => if n = 0 then x.addr0.isSome else x.addr1.isSome
    word (s.regF (ethReg n off) 0 3 + 8 * bit (s.time.ptpPort == some n) + 16 * bit learned)
  | 0x28 => Config.measured (ethReg n off) s.now
  | 0x2C => Config.measured (ethReg n off) s.now
  | 0x30 => word (s.latTx n)
  | 0x34 => word (s.latRx n)
  | off => s.reg (ethReg n off)

/-- TIME_STATE (R400). -/
def State.timeState (s : State) : Nat :=
  let m := s.time.master
  let a := m.map fun x => x.2
  s.time.servo.code + 8 * bit s.time.valid + 16 * bit s.time.pending.isSome + 32 * bit (a.any fun x => x.utcValid)
    + 256 * ((a.map fun x => x.stepsRemoved.toNat % 256).getD 0) + 65536 * ((a.map fun x => x.utcOffset.toNat).getD 0)

/-- The time unit's page and the SPI port's. -/
def State.viewNet (s : State) (a : Nat) : Word :=
  let u := s.time
  match a with
  | 0x08801014 => word s.timeState
  | 0x08801018 => leWord (s64 u.offset) 0
  | 0x0880101C => leWord (s64 u.offset) 4
  | 0x08801020 => leWord (s64 (u.pending.getD 0)) 0
  | 0x08801024 => leWord (s64 (u.pending.getD 0)) 4
  | 0x08801028 => wordOfInt u.rateAdj
  | 0x0880102C => wordOfInt u.lastErr
  | 0x08801030 => wordOfInt (u.pathDelay.getD 0)
  | 0x08801040 => leWord s.masterId 0
  | 0x08801044 => leWord s.masterId 4
  | 0x08801050 => word (eraOf s.now)
  | 0x08802000 => word ((s.reg a).toNat / 8 * 8 + s.unitState .spi)
  | a => s.reg a

/-! ## Tally and security (R476, R477, R489, R490) -/

/-- The Tally range. -/
def State.viewTally (s : State) (a : Nat) : Word :=
  let t := s.tally
  let oldest := t.circ.head?.map fun p => p.first
  match a with
  | 0x09000000 =>
    word (bit (decide (firstPages ≤ t.firstArea.length)) + 2 * bit t.full + 8 * bit (s.regB a 3) + 256 * t.tokens + 65536 * min t.pages.length 512)
  | 0x09000008 => word (t.next % eraLen)
  | 0x0900000C => word (t.next / eraLen)
  | 0x09000010 => match oldest with | some i => word (i % eraLen) | none => 0xFFFFFFFF
  | 0x09000014 => match oldest with | some i => word (i / eraLen) | none => 0xFFFFFFFF
  | 0x09000024 => word (min t.pageFail 0xFFFFFFFF)
  | 0x09000028 => word t.retired
  | 0x0900002C => word ((t.ringsNv.head?.map fun r => r.seq).getD 0 % eraLen)
  | a => s.reg a

/-- SEC_STATUS (R489). -/
def State.viewSecStatus (s : State) : Word :=
  let k := s.sec
  word (bit (!k.keys.isEmpty) + 4 * (k.keys.length - 1) + 256 * k.slotA.st.code + 4096 * k.slotB.st.code)

/-- The bytes of SEC_KEY_CHECK (R484): the MAC of "JALFOLD0". -/
def State.keyCheck (s : State) : List Byte := (hmac s.sec.key [0x4A, 0x41, 0x4C, 0x46, 0x4F, 0x4C, 0x44, 0x30]).take 4

/-- The security range. -/
def State.viewSec (s : State) (a : Nat) : Word :=
  match a with
  | 0x0A000000 => s.viewSecStatus
  | 0x0A000008 => leWord s.keyCheck 0
  | 0x0A00000C => word s.sec.secFloor
  | 0x0A000010 => s.sec.seq0.getD 0
  | a => s.reg a

/-! ## The whole map -/

/-- A read of a register. -/
def regView (s : State) (a : Nat) : Word :=
  if a < 0x2000 then s.viewId a
  else if a < 0x3000 then s.viewLayer a
  else if a < 0x01000000 then s.viewId a
  else if a < 0x01300000 then s.viewBeam (Fin.ofNat 48 ((a - 0x01000000) / 0x10000)) (a % 0x10000)
  else if a < 0x04000000 then 0
  else if a < 0x04800000 then s.viewTruss a
  else if a < 0x05000000 then s.viewGrain a
  else if a < 0x06000000 then s.viewScribe a
  else if a < 0x07000000 then s.viewVeneer a
  else if a < 0x07008000 then s.viewMotor (Fin.ofNat 8 ((a - 0x07000000) / 0x1000)) (a % 0x1000)
  else if a < 0x07800000 then s.reg a
  else if a < 0x07801000 then s.viewLed (Fin.ofNat 16 ((a - 0x07800000) / 0x100)) (a % 0x100)
  else if a < 0x08000000 then s.viewLight a
  else if a < 0x08002000 then s.viewJoist (Fin.ofNat 16 ((a - 0x08000000) / 0x200)) (a % 0x200)
  else if a < 0x08004000 then 0
  else if a < 0x08004400 then s.viewRafter (if a < 0x08004200 then .up else .down) (a % 0x200)
  else if a < 0x08800000 then s.viewLinks a
  else if a < 0x08801000 then s.viewEth (Fin.ofNat 2 ((a - 0x08800000) / 0x400)) (a % 0x400)
  else if a < 0x09000000 then s.viewNet a
  else if a < 0x0A000000 then s.viewTally a
  else if a < 0x0B000000 then s.viewSec a
  else if a < 0x0C000000 then s.viewPower a
  else 0

/-! ## Snapshots (R461) -/

/-- A snapshot of the registers that sixteen select registers name. -/
def State.snapshot (s : State) (source : Nat) (sel : Nat) (cause : Nat) : State :=
  let addrs := (tabulate 16 fun k => (s.reg (sel + 4 * k)).toNat).filter (· != 0xFFFFFFFF)
  let pairs := addrs.map fun a => leBytes 4 a ++ leBytes 4 (regView s a).toNat
  s.record recSnapshot (leBytes 1 source ++ leBytes 1 addrs.length ++ leBytes 2 cause ++ pairs.flatten)

/-- The select registers of the three sources. -/
def rSnapInterlock : Nat := 0x09000100
def rSnapGate : Nat := 0x09000140
def rSnapSupply : Nat := 0x0B000040

end Sys2Proof.Machine
end

