-- ==== Sys2Proof/Machine/Interlock.lean ====
section
/-! DEFINITION. The events that take a snapshot of registers: the LASER_EN inputs and the discrepancy (02 R59, R60), the VIN warning (02 R63) and
the gate monitor (15 R469). -/

namespace Sys2Proof.Machine

open Sys2Proof

/-- LASER_CAUSE's snapshot of the interlock source (R461, R469). -/
def State.interlockSnap (s : State) : State := s.snapshot 1 rSnapInterlock s.safety.laserCause

/-- A low pulse or level on an input (R59): from 100 ns on it always sets both latches, a shorter one as the free value decides, which
below 50 ns the spec leaves open. `width` is how long the input has been low, in ns. -/
def State.enFall (s : State) (chanB : Bool) (width : Nat) : State :=
  let was := if chanB then s.safety.enB else s.safety.enA
  let d := if width < 100 then s.draw else (1, s)
  if was = false ∨ d.1 % 2 = 0 then d.2
  else
    let s := d.2.onSafety fun c => c.level chanB false d.2.now
    ((s.setLatches 2).interlockSnap).holdCause 1

/-- An input rises. -/
def State.enRise (s : State) (chanB : Bool) : State := s.onSafety fun c => c.level chanB true s.now

/-- The inputs have differed for 10 ms (R60). -/
def State.discrepancy (s : State) : State :=
  match s.safety.discSince with
  | none => s
  | some d =>
    let s := (s.reach (d + enWindow)).onSafety fun c => { c with discSince := none, lockout := true, lockStage := .waitLow }
    ((s.setLatches 3).interlockSnap).holdCause 2

/-- VIN has fallen below 5.6 V (R63). -/
def State.vinWarning (s : State) (mv : Nat) : State :=
  if 5600 ≤ mv then s
  else if s.regB supplyStatus 0 then s.vinSeen mv
  else
    let s := s.onPower fun p => { p with dipActive := true, dipMin := mv, dipStart := s.now }
    let s := ((s.vinSeen mv).setB supplyStatus 0 true).setB supplyStatus 1 true
    let s := (s.count dipCount).snapshot 2 rSnapSupply (s.regF supplyStatus 0 16)
    s.supplyAlert s.power.dipMin

/-- The gate monitor has seen a pin differ from its command for `duration` ns (R469): it runs with the BEAM domain, and in every mode while the
laser-safety latch is set. -/
def State.gateMismatch (s : State) (b : Fin 48) (commanded : Bool) (duration : Nat) : State :=
  if duration < 20 ∨ (s.mode.mode.beamOn || s.safety.laserLatch) = false then s
  else
    (s.snapshot 3 rSnapGate b.val).raise 0x0D02 2 0 [0, b.val] (leBytes 1 b.val ++ leBytes 1 (bit commanded) ++ leBytes 2 0 ++ leBytes 4 duration)

end Sys2Proof.Machine
end

