-- ==== Sys2Proof/Machine/RegSem.lean ====
section
/-! DEFINITION. What a register access does beside the stored value (03 R102-R104): the modes and moments that refuse a write, the ranges of
the fields, what a write sets in motion, and what a read clears or latches. -/

namespace Sys2Proof.Machine

open Sys2Proof

/-! ## Addresses -/

/-- Whether an address lies in the SRAM window (R26, R31). -/
def sramAddr (a : Nat) : Bool := decide (0x10000000 ≤ a) && decide (a < 0x14000000)

/-- Whether an SRAM address lies in a region of world S (R26). -/
def sramSecure (a : Nat) : Bool :=
  decide (a < 0x11000000) || (decide (0x12E00000 ≤ a) && decide (a < 0x13000000)) || (decide (0x13100000 ≤ a) && decide (a < 0x13AA0000))

/-- Whether the host may read an SRAM address (R26). -/
def sramRead (a : Nat) : Bool :=
  !(decide (a < 0x11000000) || (decide (0x12A00000 ≤ a) && decide (a < 0x12E00000)) || decide (0x13AA0000 ≤ a))

/-- The bits of a register that a host can write, clear or pulse. -/
def RegRow.hostBits (r : RegRow) : Nat := Nat.lor (Nat.lor r.rw r.w1c) r.wo

/-- Whether an address is that of a register that can be written (R103). -/
def writable (a : Nat) : Bool :=
  match regRow a with
  | some r => r.hostBits != 0
  | none => false

/-- Whether an address is a register under R31. -/
def isRegister (a : Nat) : Bool := (regRow a).isSome

/-- Whether a write that touches the bits of `mask` needs a secure packet (R21, R103, R104, R479): an S field of the register, or any field of
a block whose SEC_WORLD bit is 1. -/
def State.writeSecure (s : State) (a : Nat) (mask : Nat) : Bool :=
  match regRow a with
  | none => false
  | some r => Nat.land r.sec mask != 0 || (match r.block with | some k => s.regB 0x0A000004 k | none => false)

/-- The contents that a write of `v` to the bits of `mask` leaves (R104). -/
def newValue (a : Nat) (old v : Word) (mask : Nat) : Word :=
  match regRow a with
  | some r => let m := word (Nat.land r.rw mask); (old &&& ~~~m) ||| (v &&& m)
  | none => old

/-! ## The page of an address -/

/-- CONFIG or IDLE. -/
def State.calm (s : State) : Bool := s.mode.mode == .config || s.mode.mode == .idle

/-! ## Modes (step 11) -/

/-- Modes in which beams are enabled and disabled (R138). -/
def State.enableMode (s : State) : Bool := s.calm || s.mode.mode == .pause || s.mode.mode == .hold

/-- Whether the mode refuses a write to a register of a beam page (R135, R138, R222). -/
def State.beamMode (s : State) (off : Nat) (old new : Word) : Bool :=
  if off = 0x1000 then fieldDiffers old new 0 1 && !s.enableMode
  else if off = 0x3000 then !s.calm
  else if off = 0x6000 then fieldDiffers old new 0 1 && !s.calm
  else false

/-- Whether the mode refuses a write of `new` to a register that holds `old`: WRONG_MODE with cause 1. -/
def State.regMode (s : State) (a : Nat) (old new : Word) : Bool :=
  let m := s.mode.mode
  if a = 0x20 ∨ a = 0x24 ∨ within a 0x100 0xC0 ∨ within a 0x1000 0x800 then m != .idle
  else if isBeamPage a then s.beamMode (a % 0x10000) old new
  else if a = 0x04000000 then fieldDiffers old new 2 1 && !s.calm
  else if within a 0x04001000 0xC00 then !(s.calm || m == .calibrate || m == .recoat)
  else if a = 0x04800018 then fieldDiffers old new 0 16 && !s.calm
  else if within a 0x0480001C 12 then old != new && !s.calm
  else if within a 0x05002000 0x2000 then !(s.calm || m == .calibrate)
  else if within a 0x07000000 0x8000 then (let off := a % 0x1000; off != 0 && !(within off 0x14 0x10) && !s.calm)
  else if within a 0x07080000 0x800 then a % 0x100 == 0 && !s.calm
  else if within a 0x08000000 0x2000 then a % 0x200 == 4 && fieldDiffers old new 1 2 && !s.calm
  else if a = timeConfig then (fieldDiffers old new 0 2 && !s.calm) || (old != new && !s.chain.manager)
  else if a = ptpConfig then !s.calm || !s.chain.manager
  else if a = stepThreshold ∨ a = servoGains ∨ a = servoLock then !s.chain.manager
  else false

/-! ## Moments (step 16) -/

/-- A layer is active and not COMPLETE or ABANDONED, a moment in which Truss's layout cannot change (R213, R217). -/
def State.trussBusy (s : State) : Bool := s.layerLive

/-- Whether a surface is named by a current or pending layer, a producer ring, enabled or not, or VN_OUT_SURF (R309). -/
def State.surfaceNamed (s : State) (i : Nat) : Bool :=
  let byCfg (bs : List Byte) : Bool := let c := layerOf bs; c.enable && !c.stream && c.surf == i
  (s.veneer.current.any byCfg) || (s.veneer.pend.any fun p => match p with | some bs => byCfg bs | none => false)
    || ((List.range 18).any fun f => (s.ringSurfaces f).contains i) || s.outSurf false == i || s.outSurf true == i

/-- Whether what is under way refuses a write: BUSY. -/
def State.regBusy (s : State) (a : Nat) (old new : Word) : Bool :=
  if isBeamPage a then within (a % 0x10000) 0x4014 16 && s.layers.jobOpen
  else if within a 0x0400002C 16 ∨ (within a 0x04000080 0x40 ∧ a % 8 = 0) ∨ within a 0x04001000 0xC00 then s.trussBusy
  else if a = 0x06000008 ∨ a = 0x0600000C ∨ a = 0x06000014 then s.veneer.compose.isSome
  else if within a 0x06000040 72 then (s.ring ((a - 0x06000040) / 4)).writing.isSome
  else if within a 0x06001000 0x800 then s.withHeld.surfaceNamed ((a - 0x06001000) / 0x20)
  else if within a 0x07800000 0x1000 then a % 0x100 == 4 && ledCfgBusy old new
  else false

/-! ## Ranges (step 13) -/

/-- A field outside [lo, hi]. -/
def outside (w : Word) (pos len lo hi : Nat) : Bool := decide (field w pos len < lo) || decide (hi < field w pos len)

/-- The 128 bytes of a parameter set and the 32 bytes of a profile, as their registers hold them. -/
def State.psetBytes (s : State) (b : Fin 48) (i : Nat) : List Byte :=
  (List.range 32).flatMap fun k => leBytes 4 (s.reg (beamReg b (0x8000 + 0x80 * i + 4 * k))).toNat

/-- Whether a set is used by the layer that is active (R161, R162). -/
def State.psetUsed (s : State) (b : Fin 48) (i : Nat) : Bool :=
  s.layerLive && (match s.layers.activePkg with
    | some p => (p.beam b.val).psets.contains i
    | none => false)

/-- A write that would unload a set used by the active layer (R161). -/
def State.unloads (s sh : State) (b : Fin 48) (i : Nat) : Bool := s.psetUsed b i && s.psetLoaded b i && !sh.psetLoaded b i

/-- The faults of the profile that a register of the beam page belongs to. -/
def State.profFaultsAt (sh : State) (b : Fin 48) (off : Nat) : List Nat := profFaults (wordsBytes (sh.profRegs b ((off - 0x5100) / 0x20)))

/-- A register of a beam page with a value out of range; `sh` holds every value of the command. -/
def State.beamBad (s sh : State) (b : Fin 48) (off : Nat) (w : Word) : Bool :=
  if off = 0x1004 then outside w 0 24 1 8388607 || outside w 24 8 1 255
  else if off = 0x2000 then outside w 8 8 1 255
  else if off = 0x2008 then outside w 0 8 1 255
  else if off = 0x3000 then field w 4 2 == 3 || outside w 8 10 0 500
  else if off = 0x3004 then (let o (k : Nat) : Int := signed 16 (field w k 16); decide (o 0 < -8192) || decide (8191 < o 0) || decide (o 16 < -8192) || decide (8191 < o 16))
  else if off = 0x3100 then outside w 8 8 1 255
  else if off = 0x3108 then outside w 0 16 0 35999
  else if off = 0x5000 then outside w 8 8 1 255
  else if off = 0x5004 then outside w 0 16 0 0x8000
  else if within off 0x4014 16 then (let r (k : Nat) : Int := s32 (sh.reg (beamReg b (0x4014 + 4 * k))); decide (r 2 < r 0) || decide (r 3 < r 1))
  else if within off 0x5100 0x100 then (let k := off % 0x20 / 4
    (sh.profFaultsAt b off).any fun o => o / 4 == k || (k == 0 && o / 4 == 1))
  else if off = 0x6000 then outside w 8 6 2 32 || outside w 16 16 1 65535 || (flag w 0 && !sh.rasterPorts w)
  else if off = 0x6004 then outside w 24 8 1 255
  else if within off 0x8000 0x8000 then (let i := (off - 0x8000) / 0x80; let k := off % 0x80 / 4
    (psetFaults (sh.psetBytes b i)).any (fun o => o / 4 == k) || (decide (k < 2) && w == 0 && s.unloads sh b i))
  else false

/-- A Truss register with a value out of range (R207, R213, R215-R218). -/
def State.trussBad (sh : State) (a : Nat) (w : Word) : Bool :=
  if a = 0x04000000 then outside w 16 8 1 255
  else if a = 0x04000004 then decide (10000000 < w.toNat)
  else if a = 0x04000008 then outside w 0 16 0 8000 || outside w 16 16 0 1000
  else if a = 0x0400000C then
    outside w 0 16 0 35999 || field w 16 2 == 3 || (field w 16 2 != 0 && (sh.gasTable.isEmpty || !rising sh.gasTable))
  else if a = 0x04000010 then decide (50000000 < w.toNat)
  else if a = 0x04000014 then outside w 0 16 0 1000
  else if within a 0x04000040 0x40 then
    (if a % 8 = 0 then (decide (1000 < field w 0 16) && field w 0 16 != 0xFFFF) || outside w 16 16 0 35999 else decide (50000000 < w.toNat))
  else if within a 0x04000080 0x40 then a % 8 == 4 && outside w 0 16 0 35999
  else false

/-- A Grain register with a value out of range (R274, R276, R277). -/
def grainBadReg (a : Nat) (w : Word) : Bool :=
  let size (lo : Nat) : Bool := outside w lo 14 32 16000 || field w lo 14 % 32 != 0
  if a = 0x04800000 then outside w 16 16 1 65535
  else if a = 0x04800004 then decide (w.toNat < 1) || decide (10000000 < w.toNat)
  else if a = 0x04800008 then decide (w.toNat < 1) || decide (3600000 < w.toNat)
  else if a = 0x04800018 then outside w 0 16 1 65535 || outside w 16 16 1 65535
  else if a = 0x04800024 then size 0 || size 16
  else if within a 0x04800200 0x44 then outside w 0 16 0 0x8000 || outside w 16 16 0 0x8000
  else false

/-- A word of a fiducial entry out of range (R288). -/
def State.fidBadReg (sh : State) (a : Nat) (w : Word) : Bool :=
  let k := (a - 0x05002000) / 0x20
  let r (i : Nat) : Nat := (sh.reg (fidReg k i)).toNat
  match (a / 4) % 8 with
  | 2 => decide (w.toNat < 10000) || decide (500000 < w.toNat) || decide (w.toNat < 2 * r 3)
  | 3 => decide (w.toNat < 1000) || decide (r 2 < 2 * w.toNat)
  | 4 => decide (3 < field w 16 16)
  | 5 => decide (s32 (sh.reg (fidReg k 6)) < s32 w)
  | 6 => decide (s32 w < s32 (sh.reg (fidReg k 5)))
  | 7 => w != 0
  | _ => false

/-- A Scribe register with a value out of range (R288, R303, R304). -/
def State.scribeBad (sh : State) (a : Nat) (w : Word) : Bool :=
  if a = 0x05000000 then outside w 16 8 1 255
  else if a = 0x05000004 then outside w 0 16 1 5000
  else if a = 0x05000008 then outside w 0 16 1 20000 || outside w 16 8 8 64 || outside w 24 8 16 255
  else if a = 0x05000010 then outside w 16 16 1 65535
  else if a = 0x0500001C then decide (w.toNat < 10000) || decide (100000000 < w.toNat)
  else if within a 0x05002000 0x2000 then sh.fidBadReg a w
  else false

/-- Whether a producer's ring names a surface of another format or size (R315-R317): a lane's surfaces are LINEAR Y8 or Y16, the footprint's
LINEAR A1 of the output's size, the heat rendering's H8 of the size of the Grain window. -/
def State.ringBad (sh : State) (f : Nat) : Bool :=
  (sh.ringSurfaces f).any fun i =>
    let u := sh.surface i
    !sh.surfaceOk i || (if f < 16 then u.tiled || (u.fmt != 2 && u.fmt != 3)
      else if f = 16 then u.fmt != 1 || u.w != sh.outW || u.h != sh.outH else u.fmt != 4 || u.w != sh.sizeX || u.h != sh.sizeY)

/-- A Veneer register with a value out of range (R308, R309, R315, R335, R337). A size that the output surfaces would no longer have breaks R308 where they had the one
before (log entry 24). -/
def State.veneerBad (s sh : State) (a : Nat) (w : Word) : Bool :=
  if a = 0x06000000 then outside w 8 8 1 255
  else if a = 0x06000010 then outside w 0 16 1 20000 || outside w 16 16 1 20000
    || [false, true].any fun k => s.withHeld.outOk (s.withHeld.outSurf k) && !sh.outOk (sh.outSurf k)
  else if a = 0x06000014 then !(sh.outOk (sh.outSurf false) && sh.outOk (sh.outSurf true))
  else if a = 0x0600002C then outside w 4 5 0 26
  else if within a 0x06000040 72 then sh.ringBad ((a - 0x06000040) / 4)
  else if within a 0x06001000 0x800 then !sh.surfaceOk ((a - 0x06001000) / 0x20)
  else false

/-- The current-sense limit of a motor port: I_RUN across the shunt, in uV, at most 300 mV (R404). -/
def State.senseBad (sh : State) (p : Fin 8) : Bool :=
  decide (300000 < sh.regF (mpReg p 0xC) 0 16 * sh.regF (mpReg p 0x10) 0 16)

/-- A BLDC port takes its position from a quadrature or Hall input (R419, R421). -/
def State.bldcBad (sh : State) (p : Fin 8) : Bool :=
  sh.mpKind p == 2 && !(sh.regF (fbReg (sh.fbSel p) 0) 0 2 == 0 || sh.regF (fbReg (sh.fbSel p) 0) 0 2 == 2)

/-- MP_CURRENT's own ranges (R432). -/
def currentOk (w : Word) : Bool := !(outside w 0 16 1 20000 || outside w 16 8 0 100 || outside w 24 8 1 100)

/-- A motor port register with a value out of range (R430, R432). -/
def State.motorBad (sh : State) (p : Fin 8) (off : Nat) (w : Word) : Bool :=
  if off = 0x4 then field w 0 2 == 3 || sh.bldcBad p
  else if off = 0x8 then outside w 0 6 2 40 || outside w 6 4 0 8 || outside w 10 4 1 8 || outside w 14 7 2 127
  else if off = 0xC then !currentOk w || sh.senseBad p
  else if off = 0x10 then outside w 0 16 1 1000 || sh.senseBad p
  else if within off 0x14 0x10 then w == 0
  else if off = 0x34 then outside w 0 8 1 99 || outside w 8 8 4 255
  else false

/-- A feedback input's register with a value out of range (R433). -/
def State.feedBad (sh : State) (a : Nat) (w : Word) : Bool :=
  a % 0x100 == 0 && (field w 0 2 == 3 || outside w 16 8 1 255
    || ports8.any fun p => sh.bldcBad p && sh.fbSel p == Fin.ofNat 8 ((a - 0x07080000) / 0x100))

/-- An illumination register with a value out of range (R449-R451). -/
def State.lightBad (sh : State) (a : Nat) (w : Word) : Bool :=
  if a < 0x07801000 then
    let c : Fin 16 := Fin.ofNat 16 ((a - 0x07800000) / 0x100)
    let fits := shuntOk (sh.reg (ledReg c 4)) (sh.reg (ledReg c 0x14))
    if a % 0x100 = 4 then !ledCfgOk w || !fits
    else if a % 0x100 = 0x14 then !ledShuntOk w || !fits
    else false
  else if a = 0x07802044 then outside w 0 8 0 100
  else false

/-- A register of the net range with a value out of range (R397-R400). -/
def netBad (a : Nat) (w : Word) : Bool :=
  if a < 0x08801000 then a % 0x400 == 4 && flag w 2 && !flag w 1
  else if a = timeConfig then field w 0 2 == 3
  else if a = stepThreshold then decide (w.toNat < 1) || decide (1000000000 < w.toNat)
  else if a = servoLock then outside w 16 8 1 255
  else if a = ptpConfig then outside w 0 8 0 127 || outside w 12 4 2 15 || (decide (4 < field w 16 4) && decide (field w 16 4 < 12))
  else false

/-- A select register must name a register, or hold all ones (R477). -/
def selectBad (w : Word) : Bool := w != 0xFFFFFFFF && !isRegister w.toNat

/-- Whether a register would take a value out of its range: BAD_PARAM. -/
def State.regBad (s sh : State) (a : Nat) (w : Word) : Bool :=
  if isBeamPage a then s.beamBad sh (beamOf a) (a % 0x10000) w
  else if a < 0x04000000 then false
  else if a < 0x04800000 then sh.trussBad a w
  else if a < 0x05000000 then grainBadReg a w
  else if a < 0x06000000 then sh.scribeBad a w
  else if a < 0x07000000 then s.veneerBad sh a w
  else if a < 0x07008000 then sh.motorBad (Fin.ofNat 8 ((a - 0x07000000) / 0x1000)) (a % 0x1000) w
  else if a < 0x07080000 then false
  else if a < 0x07080800 then sh.feedBad a w
  else if a < 0x07800000 then false
  else if a < 0x08000000 then sh.lightBad a w
  else if a < 0x08002000 then a % 0x200 == 4 && field w 1 2 == 3
  else if a < 0x08800000 then false
  else if a < 0x09000000 then netBad a w
  else if a = 0x09000004 then outside w 0 8 1 255 || outside w 8 8 1 64
  else if within a 0x09000100 0x80 ∨ within a 0x0B000040 0x40 then selectBad w
  else false

/-! ## Effects of a write -/

/-- The SPI port's unit shows OK or DISABLED with SPI_ENABLE (R399). -/
def State.pktConfig (s : State) (w : Word) : State :=
  (s.setReg 0x3000 w).setUnit .spi (if flag w 16 then stOk else stDisabled)

/-- A register of the net range (R380, R388, R397, R399, R400); PTP enabled on a port that is up joins the group there (R378). -/
def State.netSet (s : State) (a : Nat) (w : Word) : State :=
  let old := s.reg a
  let s := s.setReg a w
  if a < 0x08801000 then
    (if a % 0x400 = 4 ∧ fieldDiffers old w 0 1 = true then s.ethEnable (Fin.ofNat 2 ((a - 0x08800000) / 0x400)) (flag w 0) else s)
  else if a = timeConfig then (if fieldDiffers old w 0 2 then s.servoRestart else s)
  else if a = ptpConfig then
    let joins (st : State) (n : Fin 2) : State :=
      if !flag old (8 + n) && flag w (8 + n) && st.linkUp (if n = 0 then .eth0 else .eth1) then st.emit (.igmp n) else st
    (joins (joins s 0) 1).servoRestart
  else s

/-- A register of a motor port. -/
def State.motorSet (s : State) (p : Fin 8) (off : Nat) (w : Word) : State :=
  let old := s.reg (mpReg p off)
  if within off 0x14 0x10 then s.setLims p off w
  else
    let s := s.setReg (mpReg p off) w
    -- LIMIT_POL turns the meaning of the limit inputs' levels over (R430)
    let s := if off = 4 ∧ flag old 11 ≠ flag w 11 then s.onAxis p fun a => { a with limN := !a.limN, limP := !a.limP } else s
    if off = 4 ∧ fieldDiffers old w 0 2 = true then s.kindChanged p else s

/-- The resume registers (R74). -/
def State.resumeSet (s : State) (a : Nat) (w : Word) : State :=
  s.onResume fun r =>
    if a = 0x20 then { r with layer := w }
    else if a = 0x24 then { r with jobGen := w.setWidth 16 }
    else if within a 0x100 0xC0 then { r with index := r.index.set ((a - 0x100) / 4) w }
    else { r with sticks := (r.sticks &&& ~~~((0xFFFFFFFF#16384) <<< (8 * (a - 0x1000)))) ||| ((w.setWidth 16384) <<< (8 * (a - 0x1000))) }

/-- TALLY_CONFIG: a lower BURST takes the tokens above it (R465, R476). -/
def State.tallyConfig (s : State) (w : Word) : State :=
  let s := s.setReg 0x09000004 w
  { s with tally := { s.tally with tokens := min s.tally.tokens s.burst } }

/-- A register takes a new value, with all that follows from it. -/
def State.regSet (s : State) (a : Nat) (w : Word) : State :=
  if a = 0x20 ∨ a = 0x24 ∨ within a 0x100 0xC0 ∨ within a 0x1000 0x800 then s.resumeSet a w
  else if a = 0x3000 then s.pktConfig w
  else if inBeamDomain a ∨ isBeamPage a = true then s.beamDomainSet a w
  else if within a 0x07000000 0x8000 then s.motorSet (Fin.ofNat 8 ((a - 0x07000000) / 0x1000)) (a % 0x1000) w
  else if within a 0x07800000 0x1000 ∧ a % 0x100 = 4 then s.ledConfig (Fin.ofNat 16 ((a - 0x07800000) / 0x100)) w
  else if within a 0x08000000 0x2000 ∧ a % 0x200 = 4 then s.joistConfig (Fin.ofNat 16 ((a - 0x08000000) / 0x200)) w
  else if a = rpReg .up 4 then s.rafterConfig .up w
  else if a = rpReg .down 4 then s.rafterConfig .down w
  else if within a 0x08800000 0x800000 then s.netSet a w
  else if a = 0x09000004 then s.tallyConfig w
  else s.setReg a w

/-- Bits written 1 to fields that clear so (R21, R42, R72, R75). -/
def State.clearOnes (s : State) (a : Nat) (v : Word) : State :=
  if a = 0x18 then s.onPower fun p => { p with resetCause := p.resetCause &&& ~~~(v &&& 0xFFF#32) }
  else if a = supplyStatus then (if flag v 1 then s.setB supplyStatus 1 false else s)
  else match leafAt a with
    | some u => if flag v 4 then s.ackAny u else s
    | none => s

/-- A write of `v` to the bits of `mask` of one register (R103, R104); a block whose clock is gated takes it when the clock starts (R25, R496). -/
def State.regWrite (s : State) (a : Nat) (v : Word) (mask : Nat) : State :=
  match regRow a with
  | none => s
  | some r =>
    let s := if Nat.land r.w1c mask != 0 then s.clearOnes a (v &&& word mask) else s
    if Nat.land r.rw mask = 0 then s
    else if s.gatedReg a then s.holdWrite a (newValue a (s.heldReg a) v mask)
    else s.regSet a (newValue a (s.materialReg a (regView s a)) v mask)

/-- The clock of the DRIVE domain starts: the waiting values cross (R25, R496). -/
def State.driveClock (s : State) : State :=
  if s.mode.mode.driveOn then
    let go := s.held.filter fun x => inDriveDomain x.1
    go.foldl (fun st x => st.regSet x.1 x.2) { s with held := s.held.filter fun x => !inDriveDomain x.1 }
  else s

/-! ## A command's writes (R103) -/

/-- One write of a command: its address, its value, its mask, and the causes that BAD_PARAM takes for the address and for the value. -/
structure RegWr where
  addr : Nat
  val  : Word
  mask : Nat
  causeA : Nat
  causeV : Nat
deriving DecidableEq, Repr

/-- The state with every value of a command in its register, and those that wait (R25), against which limits between fields are judged. -/
def State.shadow (s : State) (ws : List RegWr) : State :=
  ws.foldl (fun st w => if writable w.addr then st.setReg w.addr (newValue w.addr (st.reg w.addr) w.val w.mask) else st) s.withHeld

/-- Step 10 for a command's writes: DENIED where one needs a secure packet or names an S region of SRAM. -/
def State.writesDenied (s : State) (secure : Bool) (ws : List RegWr) : Bool :=
  ws.any fun w => (sramAddr w.addr && sramSecure w.addr) || (!secure && s.writeSecure w.addr w.mask)

/-- Step 11: whether the mode refuses one of the writes. -/
def State.writesMode (s : State) (ws : List RegWr) : Bool :=
  ws.any fun w => writable w.addr && s.regMode w.addr (s.reg w.addr) (newValue w.addr (s.reg w.addr) w.val w.mask)

/-- Whether two registers break a limit only together: the words of one profile with its MODE and VAR and with its setpoints (R231), MP_CURRENT and MP_SHUNT
(R406), LED_CFG and LED_SHUNT (R435). The later write of the two is then the invalid one (R86). -/
def State.sharedFault (sh : State) (a a' : Nat) : Bool :=
  (isBeamPage a && within (a % 0x10000) 0x5100 0x100 && a % 0x20 / 8 == 0 && a' == Nat.xor a 4 && (sh.profFaultsAt (beamOf a) (a % 0x10000)).all fun o => decide (4 ≤ o))
    || (within a 0x07000000 0x8000 && a % 0x1000 == 0xC && a' == a + 4 && currentOk (sh.reg a))
    || (within a 0x07800000 0x1000 && a % 0x100 == 4 && a' == a + 0x10 && ledCfgOk (sh.reg a))

/-- The cause of the first write whose value breaks a range, with all of them in place. -/
def State.valueBad (s sh : State) : List RegWr → Option Nat
  | [] => none
  | w :: r =>
    if s.regBad sh w.addr (sh.reg w.addr) && !(r.any fun x => sh.sharedFault w.addr x.addr) then some w.causeV else s.valueBad sh r

/-- Step 13: the cause of the first write that names no writable register or breaks a range. -/
def State.writesBad (s : State) (ws : List RegWr) : Option Nat :=
  match ws.find? fun w => !writable w.addr with
  | some w => some w.causeA
  | none =>
    s.valueBad (s.shadow ws) ws

/-- Step 16: whether one of the writes meets something under way. -/
def State.writesBusy (s : State) (ws : List RegWr) : Bool :=
  ws.any fun w => s.regBusy w.addr (s.reg w.addr) (newValue w.addr (s.reg w.addr) w.val w.mask)

/-- A register's value as the audit has it (R105): of a register whose write waits, the value that waits. -/
def State.auditView (s : State) (a : Nat) : Word := if s.gatedReg a then s.heldReg a else s.materialReg a (regView s a)

/-- The writes in order, with each register's address, old and new value for the audit (R103, R105). -/
def State.applyWrites (s : State) : List RegWr → State × List (Nat × Word × Word)
  | [] => (s, [])
  | w :: r =>
    let s' := s.regWrite w.addr w.val w.mask
    let q := s'.applyWrites r
    (q.1, (w.addr, s.auditView w.addr, s'.auditView w.addr) :: q.2)

/-- The writes of one command; fiducials that changed discard the measurements once (R288, R301). -/
def State.doWrites (s : State) (ws : List RegWr) : State × List (Nat × Word × Word) :=
  let q := s.applyWrites ws
  (if ws.any fun w => within w.addr 0x05002000 0x2000 then q.1.fiducialsChanged else q.1, q.2)

/-! ## Reads (R102) -/

/-- A byte of the SRAM window (R27) is what the block last wrote there: a live Scribe table or the measurements (R280, R306), else what the block keeps in the
region, whose layout the spec does not give (log entry 5). -/
def State.sramAt (s : State) (a : Nat) : Byte :=
  if within a 0x13100000 0x97B000 then Memory.read s.mem a
  else if a < 0x11C00000 then Config.cacheByte (s.grain.columns.getD ((a - 0x11000000) / 0x40000) []) ((a - 0x11000000) % 0x40000)
  else if a < 0x12400000 then Config.veneerByte s.veneer (a - 0x11C00000)
  else if a < 0x12A00000 then
    let k := s.kerf (Fin.ofNat 48 ((a - 0x12400000) / 0x20000))
    Config.fifoByte k.fifo k.queue ((a - 0x12400000) % 0x20000)
  else if a < 0x13000000 then Config.stagingByte s.tally (a - 0x12E00000)
  else if a < 0x13100000 then Config.trussByte s.truss s.kerfs (a - 0x13000000)
  else Config.scribeByte s.scribes (a - 0x13A7B000)

/-- Bytes of memory as the host reads them. -/
def State.hostRead (s : State) (a n : Nat) : List Byte :=
  if sramAddr a then tabulate n fun i => s.sramAt (a + i) else s.readMem a n

/-- A register read by the host: its value, what it clears and what it latches (R48, R75, R400). -/
def State.regRead (s : State) (a : Nat) : Word × State :=
  if sramAddr a then (leWord (s.hostRead a 4) 0, s)
  else
    let v := regView s a
    (v, if a = 0x10 then s.onMode fun c => { c with refuseCause := 0 }
        else if a = 0x0B000008 then s.setF 0x0B000008 0 16 0xFFFF
        else if a = 0x08801050 then s.setReg 0x08801054 (word (nsOf s.now))
        else s)

/-- Registers read in order. -/
def State.regReads (s : State) : List Nat → List Byte × State
  | [] => ([], s)
  | a :: r =>
    let q := s.regRead a
    let z := q.2.regReads r
    (leBytes 4 q.1.toNat ++ z.1, z.2)

end Sys2Proof.Machine
end

