-- ==== Sys2Proof/Machine/Startup.lean ====
section
/-! DEFINITION. Resets, start-up, power loss and the orderly shutdown (02_modes_and_startup.md R52-R58, R63-R69, R72, R73, 12 R379, 15 R453-R458,
R468, R472). Every release of a reset runs the whole start-up: the device is then in CONFIG, or a worker waits in BOOT for its index. -/

namespace Sys2Proof.Machine

open Sys2Proof

/-! ## Firmware slots (R53) -/

def Security.slot (k : Security) (b : Bool) : Slot := if b then k.slotB else k.slotA
def Security.setSlot (k : Security) (b : Bool) (x : Slot) : Security := if b then { k with slotB := x } else { k with slotA := x }
def Security.setState (k : Security) (b : Bool) (st : SlotSt) : Security := k.setSlot b { k.slot b with st := st }

/-- The slot that is in a state. -/
def Security.find (k : Security) (st : SlotSt) : Option Bool :=
  if k.slotA.st = st then some false else if k.slotB.st = st then some true else none

/-- Whether a slot's signature and security version check (R53, R485). -/
def Security.boots (k : Security) (b : Bool) : Bool := (k.slot b).sigOk && decide (k.secFloor ≤ (k.slot b).secVer)

/-- Rules 3-5: the ACTIVE slot, else the STANDBY slot, else the ROM loader; with FALLBACK. -/
def Security.chooseOld (k : Security) : Security × Option Bool × Bool :=
  let std (k : Security) : Security × Option Bool × Bool := match k.find .standby with
    | some b => if k.boots b then (k.setState b .active, some b, true) else (k, none, false)
    | none => (k, none, false)
  match k.find .active with
  | some a =>
    if k.boots a then (k, some a, false)
    else
      let r := std k
      if r.2.1.isSome then (r.1.setState a .invalid, r.2) else r
  | none => std k

/-- The first matching rule of R53: the slots after it, the slot booted, TRIAL and FALLBACK. -/
def Security.choose (k : Security) : Security × Option Bool × Bool × Bool :=
  match k.find .trial with
  | some b =>
    if (k.slot b).trialSet then
      let r := (k.setState b .invalid).chooseOld
      (r.1, r.2.1, false, true)
    else (k.setSlot b { k.slot b with trialSet := true }, some b, true, false)
  | none => let r := k.chooseOld; (r.1, r.2.1, false, r.2.2)

/-- SLOT_STATE of one slot (R489): the slot, its state, the result of a verification. -/
def State.slotAlert (s : State) (b : Bool) (result : Nat) : State :=
  s.raise 0x0E01 0 0 [] (leBytes 1 (bit b) ++ leBytes 1 (s.sec.slot b).st.code ++ leBytes 1 result ++ leBytes 1 0)

/-- A change of the slots, with SLOT_STATE for each slot whose state changes. -/
def State.setSlots (s : State) (k : Security) (result : Nat) : State :=
  let old := s.sec
  let s := { s with sec := k }
  let s := if old.slotA.st ≠ k.slotA.st then s.slotAlert false result else s
  if old.slotB.st ≠ k.slotB.st then s.slotAlert true result else s

/-! ## Pages (R453, R454, R458, R468) -/

/-- The committed pages with a good copy. -/
def Tally.good (t : Tally) : List Page := (t.firstArea ++ t.circ).filter fun p => p.copies.1 || p.copies.2

/-- The newest of them. -/
def Tally.newest (t : Tally) : Option Page := t.good.foldl (fun o p => match o with
  | none => some p
  | some q => if q.seq < p.seq then some p else some q) none

/-- The first record of a type on a page. -/
def Page.holds (p : Page) (type : Nat) : Option TRec := p.recs.find? fun r => r.type == type

/-- The highest index on a page. -/
def Page.top (p : Page) : Nat := (p.recs.map (·.index)).foldl max 0

/-! ## The resume block in records (R65) -/

/-- The body of INTERRUPTED_LAYER (R456). -/
def Resume.body (r : Resume) : List Byte :=
  leBytes 4 r.layer.toNat ++ leBytes 2 r.jobGen.toNat ++ leBytes 2 0 ++ r.index.flatMap fun w => leBytes 4 w.toNat

/-- The bodies of STICK_DONE: 240 bitmap bytes each, for the parts that are not empty. -/
def Resume.stickBodies (r : Resume) : List (List Byte) :=
  let bs := leBytes 2048 r.sticks.toNat
  ((tabulate 9 fun i => (240 * i, (bs.drop (240 * i)).take 240)).filter fun c => c.2.any (· != 0)).map fun c =>
    leBytes 2 c.1 ++ leBytes 2 c.2.length ++ pad4 c.2

/-- The block from a page's records: valid when the page carries INTERRUPTED_LAYER (R66). All nine STICK_DONE records always fit. -/
def Page.resume (p : Page) : Resume :=
  match p.holds recInterrupted with
  | none => initResume
  | some q =>
    let sticks := (p.recs.filter fun r => r.type == recStickDone).foldl (fun (m : Nat) r =>
      m + leNat ((r.body.drop 4).take (leAt r.body 2 2)) * 2 ^ (8 * leAt r.body 0 2)) 0
    { layer := leWord q.body 0, jobGen := BitVec.ofNat 16 (leAt q.body 4 2), valid := true, sticksValid := true, grainCleared := true
      index := tabulate 48 fun b => leWord q.body (8 + 4 * b), sticks := BitVec.ofNat 16384 sticks }

/-- INTERRUPTED_LAYER and STICK_DONE are written (R65, R69). -/
def State.writeInterrupted (s : State) : State :=
  s.resume.stickBodies.foldl (fun st b => st.record recStickDone b) (s.record recInterrupted s.resume.body)

/-- Whether a reset now would interrupt a layer (R65). -/
def State.interrupts (s : State) : Bool :=
  s.layerInProgress && (s.mode.mode == .expose || s.mode.mode == .preheat || s.mode.mode == .pause || s.mode.mode == .hold)

/-! ## Rings (R472) -/

/-- The live image is written into the copy not written last, and RINGS_COMMIT is staged. -/
def State.ringsWrite (s : State) : State :=
  let s := s.rings fun r => { r with seq := r.seq + 1, commitAt := s.now }
  let t := s.tally
  let copy := 1 - t.ringsCopy
  let slot := t.ringsSlot.getD copy 0
  let s := { s with tally := { t with
    ringsNv := (t.rings :: t.ringsNv).take 2, ringsCopy := copy, ringsSlot := updAt t.ringsSlot copy fun i => (i + 1) % 85 } }
  s.record recRings (leBytes 8 t.rings.seq ++ leBytes 1 copy ++ leBytes 1 slot ++ leBytes 2 0)

/-- A Rings commit forces the Tally page. -/
def State.ringsCommit (s : State) : State := s.ringsWrite.commitAll

/-! ## The configuration blob (R379) -/

def blobBase : Nat := 0x4A00000

/-- The addresses that a blob may name. -/
def blobAddrs : List Nat :=
  [ethReg 0 4, ethReg 0 0x10, ethReg 0 0x14, ethReg 0 0x38, ethReg 1 4, ethReg 1 0x10, ethReg 1 0x14, ethReg 1 0x38, 0x3000, timeConfig, stepThreshold,
   servoGains, servoLock, ptpConfig]

/-- The entries of a blob as writes; a write's causes give the entry's number. -/
def State.blobWrites (s : State) (count : Nat) : List RegWr :=
  tabulate count fun i =>
    let e := Memory.reads s.nv (blobBase + 16 + 8 * i) 8
    { addr := leAt e 0 4, val := leWord e 4, mask := allBits, causeA := i, causeV := i }

/-- The result of a blob's check and the first failing entry. -/
def State.blobCheck (s : State) (version count : Nat) : Nat × Nat :=
  if version ≠ 1 then (1, 0xFFFFFFFF)
  else if count = 0 ∨ 1024 < count then (2, 0xFFFFFFFF)
  else if crc32c (Memory.reads s.nv blobBase (16 + 8 * count)) ≠ leWord (Memory.reads s.nv (blobBase + 16 + 8 * count) 4) 0 then (3, 0xFFFFFFFF)
  else
    let ws := s.blobWrites count
    let sh := s.shadow ws
    match ws.find? fun w => !blobAddrs.contains w.addr || s.regBad sh w.addr (newValue w.addr (s.reg w.addr) w.val w.mask) with
    | some w => (if blobAddrs.contains w.addr then 5 else 4, w.causeA)
    | none => (0, 0xFFFFFFFF)

/-- The blob is applied at step 6, or not at all; each one found is recorded. Bytes that no closed transfer wrote do not count (R106); DESIGN CHOICE (log entry 93):
a blob whose header they hold is none, and one that they hold otherwise fails its CRC. -/
def State.applyBlob (s : State) : State :=
  let h := Memory.reads s.nv blobBase 16
  if leAt h 0 4 ≠ 0x4246434A ∨ covers s.blobOk 0 16 = false then s
  else
    let r := if covers s.blobOk 0 (20 + 8 * leAt h 6 2) then s.blobCheck (leAt h 4 2) (leAt h 6 2) else (3, 0xFFFFFFFF)
    let s := if r.1 = 0 then (s.doWrites (s.blobWrites (leAt h 6 2))).1 else s
    s.note 0x0087 (if r.1 = 0 then 0 else 1) 0 [] (leBytes 1 r.1 ++ leBytes 3 0 ++ leBytes 4 r.2 ++ (h.drop 8).take 4)

/-! ## Start-up (R52) -/

/-- The last step: CONFIG, or UPDATE in the ROM loader. BOOT_MS is the time since POR release (R73); DESIGN CHOICE (log entry 29): after a reset that
is no power-up, since the reset's release. -/
def State.finishStartup (s : State) : State :=
  let ms := min ((s.now - s.power.startupEnd) / milli) 0xFFFF
  let s := s.onPower fun p => { p with bootStatus := putField p.bootStatus 16 16 ms, startupEnd := s.now }
  s.enterMode (if s.sec.running = none then .update else .config) 0

/-- Step 7 (R364, R374): the manager's upstream port stays off; the lanes of the other ports make their first attempt, in a worker those of
the upstream port alone until the index has come. -/
def State.linksStart (s : State) : State :=
  let mgr := s.chain.manager
  let absent (r : Rafter) : Rafter := { r with lanes := List.replicate 4 (initLane .absent true), port := .absent }
  if mgr then
    let s := (s.setReg (rpReg .up 4) 0).setUnit (.rafter 0) stDisabled
    let s := { s with up := { s.up with port := .disabled }, down := absent s.down, chain := { s.chain with present := 1, forming := s.regB (rpReg .down 4) 0 } }
    (lanesOf .down).foldl (fun st l => st.startLane l true 0) s
  else
    let s := { s with up := absent s.up, down := absent s.down }
    (lanesOf .up).foldl (fun st l => st.startLane l true 0) s

/-- The time that POWER_LOST carries (R64, R456): that of the newest page, when it is neither a shutdown page nor an emergency page. -/
def Tally.lostTime (t : Tally) : Option (Nat × Nat) :=
  match t.newest with
  | none => some (0, 0)
  | some p => if p.kind = 1 then some (p.era, (p.recs.getLast?.map fun r => nsOf r.time).getD 0) else none

/-- What start-up does once the state has been restored: the slot is chosen, time passes, the records are written (R65, R468, R472), the blob
is applied and the links start (BOOT_MS counts from here on, from POR release at a power-up). After a device reset that cut a layer, its point is recorded; a wake finds it on the shutdown page. -/
def State.startUp (s : State) (wake : Bool) : State :=
  let cold := s.power.cold
  let lost := if cold then s.tally.lostTime else none
  let interrupted := !cold && !wake && s.resume.valid
  let rings := cold && s.tally.ringsNv.isEmpty && s.tally.ever
  let s := s.onPower fun p => { p with cold := false }
  let d := s.draw
  let s := d.2
  let s := { s with now := s.now + d.1 % (552 * milli + 1), power := { s.power with startupEnd := if cold then s.power.porAt else s.now } }
  let k := s.sec.choose
  let s := s.onPower fun p => { p with
    bootStatus := BitVec.ofNat 32 ((match k.2.1 with | some b => bit b | none => 3) + 4 * bit k.2.2.1 + 8 * bit k.2.2.2) }
  let s := s.eraMark 2
  let s := s.record recReset (leBytes 4 s.power.resetCause.toNat ++ leBytes 4 s.power.bootStatus.toNat ++ leBytes 4 (eraOf s.now + 256)
    ++ leBytes 1 s.power.modeAt ++ leBytes 3 0 ++ s.power.axesAt)
  let s := match lost with
    | some (e, n) => s.record recPowerLost (leBytes 4 e ++ leBytes 4 n)
    | none => s
  let s := if interrupted then s.writeInterrupted else s
  let s := { s with sec := { s.sec with running := k.2.1 } }.setSlots { k.1 with running := k.2.1 } 0
  let s := s.rings fun r => { r with resets := min (r.resets + 1) 0xFFFFFFFF }
  let s := if rings then (s.raise 0x0D01 1 0x62 [] (leBytes 1 2 ++ leBytes 1 2 ++ leBytes 2 0 ++ leBytes 4 0)).setB 0x09000000 3 true else s
  let s := s.applyBlob.tallyDrain.linksStart
  if s.chain.manager then
    let d := s.draw
    ({ d.2 with now := d.2.now + d.1 % (400 * milli + 1) }).finishStartup
  else s

/-! ## Device resets (R54, R55) -/

/-- The axes and feedback inputs after a reset: only the levels of their inputs remain. -/
def State.axesReset (s : State) : Vector Axis 8 × Vector Feed 8 :=
  (vmap s.axes fun p a => let pol := s.regB (mpReg p 4) 11; { initAxis with limN := a.limN == pol, limP := a.limP == pol }, vmap s.feeds fun _ f => { initFeed with a := f.a, b := f.b, z := f.z })

/-- The chain as a device finds it after a reset: a manager still knows which DEVICE_ID had which index (R365). -/
def State.chainReset (s : State) (keep : Bool) : Chain :=
  { initChain s.power.mgrSel with members := if keep && s.power.mgrSel then s.chain.members else [], places := if keep && s.power.mgrSel then s.chain.places else [] }

/-- A device time rounded up to a Sill tick of 1,953,125/64 ns, with the sixty-fourths that remain. -/
def State.sillTick (s : State) : State :=
  let k := ceilDiv (s.now * 64) 1953125
  { s with now := k * 1953125 / 64, power := { s.power with sillFrac := BitVec.ofNat 6 (k * 1953125 % 64) } }

/-- The fast clocks start: the time unit loads the Sill value (R56). -/
def State.loadTime (s : State) : State :=
  let s := s.sillTick
  { s with power := { s.power with timeFrac := BitVec.ofNat 32 (s.power.sillFrac.toNat * 0x4000000) } }

/-- A device reset or a wake begins (R54, R55, R72): what R55 keeps is kept, the rest is as after reset; device time goes over to the Sill domain
(R56). RESUME_INFO.VALID is set by a reset that interrupts a layer, and stays set while LAYER_INTERRUPTED is and the point has not been taken up (R66,
log entry 71). -/
def State.resetState (s : State) (bits : Nat) (wake : Bool) : State :=
  let pg := s.tally.newest
  let cut := if wake then (match pg with | some p => p.kind == 2 && (p.holds recInterrupted).isSome | none => false) else s.interrupts
  let axesNow := s.axesBytes true
  let page := (pg.bind fun p => (p.holds recShutdown).map fun r => (r.body.drop 12).take 40).getD (s.axesBytes false)
  let s := (if wake then s else s.cutCrossing).tallyDrain.sillTick
  let ar := s.axesReset
  let u := s.time
  let resume : Resume :=
    if wake then (if cut then (pg.map Page.resume).getD initResume else { s.resume with valid := false, sticksValid := false, grainCleared := true })
    else
      let kept := cut || (s.resume.valid && flag s.power.resetCause 10)
      { s.resume with valid := kept, sticksValid := kept, grainCleared := true }
  let t : State := { State.reset with
    pending := s.pending, now := s.now, draws := s.draws, out := s.out, nv := s.nv, blobOk := s.blobOk
    regs := putKey supplyStatus (s.reg supplyStatus &&& ~~~2#32) (resetOf supplyStatus) (initRegs s.power.mgrSel)
    safety := { s.safety with laserLatch := true, bridgeLatch := true, laserCause := 1, bridgeCause := 1 }
    power := { s.power with
      resetCause := s.power.resetCause ||| BitVec.ofNat 32 (bits + 1024 * bit cut), modeAt := s.mode.mode.code
      axesAt := if wake then page else axesNow, wakeAlarm := none, closing := none }
    resume := resume
    layers := { initLayers with lastGen := s.layers.lastGen }
    axes := ar.1, feeds := ar.2
    time := if wake then initTime else { initTime with offset := u.offset, valid := u.valid, rateAdj := u.rateAdj }
    chain := s.chainReset true
    tally := { s.tally with pageFail := 0 }, sec := { s.sec with seq0 := none } }
  let t := t.onMode fun m => { m with prev := s.mode.mode }
  if !wake && u.valid then t.setServo .acquiring else t

/-- A device reset by a source that does not hold it, or its start-up after a release. -/
def State.deviceReset (s : State) (bits : Nat) : State :=
  (s.resetState bits false).loadTime.startUp false

/-- A source that holds the device in reset: a second one only adds its bit. -/
def State.holdReset (s : State) (bits : Nat) (f : Power → Power) : State :=
  let s := if s.resetHeld then s.onPower fun p => { p with resetCause := p.resetCause ||| BitVec.ofNat 32 bits } else s.resetState bits false
  s.onPower f

/-- A held reset is released by one source: start-up begins when no other holds. -/
def State.releaseReset (s : State) (f : Power → Power) : State :=
  let held := s.resetHeld
  let s := s.onPower f
  if held && !s.resetHeld then s.loadTime.startUp false else s

/-! ## The Sill domain (R56, R57) -/

/-- The device leaves SILL: the time unit loads the Sill value, and start-up runs (R55, R57). -/
def State.wake (s : State) : State :=
  let s := s.loadTime.resetState 0x800 true
  let s := if s.chain.manager then s.emit .wakeOut else s
  s.startUp true

/-! ## Power (R54, R58, R63, R64, R72) -/

/-- VIN has risen above 4.8 V after being off. -/
def State.powerOn (s : State) (vin : Nat) : State :=
  if s.power.power = .off ∧ 4800 < vin then s.onPower fun p => { p with power := .filtering } else s

/-- Power-up (R54, R55, R58): device time starts at the highest era floor, the rest from the newest page. -/
def State.powerUp (s : State) : State :=
  let t := s.tally
  let pg := t.newest
  let floor := (t.good.map (·.eraFloor)).foldl max 0
  let kind := (pg.map (·.kind)).getD 0
  let cut := match pg with | some p => kind != 1 && (p.holds recInterrupted).isSome | none => false
  let body (type : Nat) : List Byte := ((pg.bind fun p => p.holds type).map (·.body)).getD []
  let cause := if kind = 3 then 0x202 + 4 * bit (flag (leWord (body recReset) 0) 2) + 1024 * bit cut else 1 + 1024 * bit cut
  let next := match pg with
    | none => 0
    | some p => if kind = 2 ∨ kind = 3 then nextIndex p.top else nextIndex (p.top + 262144 - 1)
  let differ := s.safety.enA != s.safety.enB
  let now := max s.now (floor * eraLen)
  let z : State := { State.reset with
    pending := s.pending, now := now, draws := s.draws, out := s.out, nv := s.nv, blobOk := s.blobOk, regs := initRegs s.power.mgrSel
    safety := { initSafety with enA := s.safety.enA, enB := s.safety.enB, discSince := if differ then some now else none
                                lowA := now, lowB := now, highA := now, highB := now }
    power := { initPower with
      power := .on, cold := true, heldPin := s.power.resetNLow, heldRef := !s.power.ref25, resetNLow := s.power.resetNLow, ref25 := s.power.ref25
      ref32 := s.power.ref32, mgrSel := s.power.mgrSel, resetCause := BitVec.ofNat 32 cause, porAt := now
      modeAt := if kind = 3 then byteAt (body recReset) 12 else if kind = 2 then 0 else 255
      axesAt := if kind = 3 then ((body recReset).drop 16).take 40 else if kind = 2 then ((body recShutdown).drop 12).take 40 else s.axesBytes false }
    resume := if kind = 2 ∨ kind = 3 then (pg.map Page.resume).getD initResume else initResume
    axes := s.axesReset.1, feeds := s.axesReset.2
    chain := s.chainReset false
    tally := { initTally with
      next := next, pageSeq := match pg with | some p => p.seq + 1 | none => 0, firstArea := t.firstArea, circ := t.circ, ever := !t.good.isEmpty
      rings := { (t.ringsNv.head?.getD initRings) with powerUps := min ((t.ringsNv.head?.getD initRings).powerUps + 1) 0xFFFFFFFF }
      ringsNv := t.ringsNv, ringsCopy := t.ringsCopy, ringsSlot := t.ringsSlot, retired := t.retired }
    sec := { s.sec with seq0 := none } }
  if z.resetHeld then z else z.startUp false

/-- The records of an emergency page (R63, R458): those made at the brown-out, then the staged ones that fit, then LOST for the rest. -/
def State.emergencyRecs (s : State) : List TRec × Nat :=
  let held := s.resetHeld
  let cut := if held then s.resume.valid else s.interrupts
  let cause := 2 + 4 * bit s.power.resetNLow + 1024 * bit cut
  let mode := if held then s.power.modeAt else s.mode.mode.code
  let bodies : List (Nat × List Byte) :=
    (recReset, leBytes 4 cause ++ leBytes 4 s.power.bootStatus.toNat ++ leBytes 4 (eraOf s.now + 256) ++ leBytes 1 mode ++ leBytes 3 0
      ++ (if held then s.power.axesAt else s.axesBytes true))
    :: (if cut then (recInterrupted, s.resume.body) :: s.resume.stickBodies.map fun b => (recStickDone, b) else [])
  let mk (acc : List TRec × Nat) (x : Nat × List Byte) : List TRec × Nat :=
    (acc.1 ++ [{ index := acc.2, type := x.1, time := s.now, body := x.2, last := s.now }], nextIndex acc.2)
  let made := bodies.foldl mk ([], s.tally.next)
  let room := pageRoom - (made.1.map TRec.size).sum
  let fit := if (s.tally.staged.map TRec.size).sum ≤ room ∧ s.tally.lostNow = 0 then (s.tally.staged, []) else fitPage (room - 24) s.tally.staged
  if fit.2.isEmpty ∧ s.tally.lostNow = 0 then (made.1 ++ fit.1, made.2)
  else
    let a := match fit.2.head? with | some r => r.time | none => s.tally.lostFrom
    let b := match fit.2.getLast? with | some r => r.time | none => s.tally.lostTo
    let z := mk ([], made.2) (recLost, lostBody (fit.2.length + s.tally.lostNow) a b)
    (made.1 ++ fit.1 ++ z.1, z.2)

/-- VIN has fallen below the reset level (R63): the latches are set, and one emergency page is committed unless HOLDUP is low, power came up
less than 24 ms ago (R526), or the device sleeps in SILL with its shutdown page committed. -/
def State.brownOut (s : State) (vin : Nat) : State :=
  if s.power.power = .off ∨ 4600 ≤ vin then s
  else if s.power.power = .filtering then s.onPower fun p => { p with power := .off }
  else
    let s := (s.setLatches 1).vinSeen vin
    let page := s.regB supplyStatus 8 == false && decide (s.power.porAt + 24 * milli ≤ s.now) && s.mode.mode != .sill
    let s : State := if page then
        let s := (s.snapshot 2 rSnapSupply (s.regF supplyStatus 0 16)).tallyDrain
        let r := s.emergencyRecs
        let s := { s with tally := { s.tally with staged := [], next := r.2, lostNow := 0 } }
        s.commitPage 3 r.1
      else s
    (s.onPower fun p => { p with power := .off, heldPin := false, heldThermal := false, heldRef := false, dipActive := false }).onMode fun m => { m with mode := .boot }

/-! ## SHUTDOWN (R69) -/

/-- The modes that accept SHUTDOWN. -/
def State.mayShutdown (s : State) : Bool :=
  s.mode.mode == .config || s.mode.mode == .idle || s.mode.mode == .pause || s.mode.mode == .hold

/-- The wake alarm as SHUTDOWN carries it. -/
def alarmBytes (alarm : Option Nat) : List Byte := leBytes 4 (bit alarm.isSome) ++ timeBytes (alarm.getD 0)

/-- Steps 2 to 8 of SHUTDOWN, once every axis has stopped. -/
def State.shutdownEnd (s : State) (alarm : Option Nat) : State :=
  let cut := s.interrupts
  let s := (s.setBridge 7).onPower fun p => { p with closing := none }
  let s := s.onLights fun l => { l with leds := l.leds.map fun c => { c with level := (0, 0), staged := none, deferred := none }, testing := [], commits := [] }
  let s := s.commitAll
  let s := if cut then s.writeInterrupted else s
  let s := s.ringsWrite
  let s := s.record recShutdown (alarmBytes alarm ++ s.axesBytes true)
  let q := s.tallyEvent 0x0006 0 0 [] []
  let s := q.1.tallyDrain
  let recs := s.tally.staged
  let s := ({ s with tally := { s.tally with staged := [] } }).commitPage 2 recs
  let s := s.alert 0x0006 0 (tallyLow q.2) (s.fullPath []) []
  let s := ((s.gatesLow).onMode fun m => { m with mode := .sill, prev := m.mode, transition := none, holdCause := 0 }).onPower fun p => { p with wakeAlarm := alarm }
  s.sillTick

/-- A SHUTDOWN goes on when the last moving axis has come to rest. -/
def State.closeEnd (s : State) : State :=
  match s.power.closing with
  | some alarm => if s.anyMoving then s else s.shutdownEnd alarm
  | none => s

/-- SHUTDOWN begins (R69): the laser-safety latch is set, and every moving axis stops with its configured deceleration; the chain follows the manager. -/
def State.shutdown (s : State) (alarm : Option Nat) : State :=
  let s := (s.toWorkers ctlShutdown (alarmBytes alarm)).setLaser 7
  let s := (ports8.foldl (fun st p => st.doStop p) s).onPower fun p => { p with closing := some alarm }
  s.closeEnd

end Sys2Proof.Machine
end

