-- ==== Sys2Proof/Machine/MemErr.lean ====
section
/-! DEFINITION. Memory errors (01_architecture.md R26-R30, R527): the regions of SRAM and DRAM, and the action of each on an uncorrectable error. -/

namespace Sys2Proof.Machine

open Sys2Proof

/-- The region of an address, numbered in the order of R26 and then R28 (R460). -/
def memRegion (a : Nat) : Option Nat :=
  let ends := [0x11000000, 0x11C00000, 0x12400000, 0x12A00000, 0x12E00000, 0x13000000, 0x13100000, 0x13AA0000, 0x14000000]
  let dram := [0x200000000, 0x280000000, 0x380000000, 0x480000000, 0x4C0000000, 0x500000000]
  if 0x10000000 ≤ a ∧ a < 0x14000000 then some (ends.findIdx fun e => decide (a < e))
  else if 0x100000000 ≤ a ∧ a < 0x500000000 then some (9 + dram.findIdx fun e => decide (a < e))
  else none

/-- Whether the fetches of a beam come from an address of the active half: its streams, or the shared stick that it holds. -/
def State.fetchesFrom (s : State) (b : Fin 48) (a : Nat) : Bool :=
  let inRange (off n : Nat) : Bool := decide (s.activeBase + off < a + 64) && decide (a < s.activeBase + off + 32 * n)
  let k := s.kerf b
  let st := s.streamOf b k.preheat
  k.engine.runs && (inRange st.1 st.2 || (match k.stick with
    | some (n, _) => inRange (s.layers.stick n).off (s.layers.stick n).count
    | none => false))

/-- A beam fails for an error in its records (R30): the cause has passed as soon as it is taken, unless the laser's own alarm is active. -/
def State.recordsFail (s : State) (b : Fin 48) : State :=
  let s := s.beamFail b .laserAlarm
  if s.regB (tnStatus b) 1 then s else s.onChan b fun c => { c with fails := c.fails.filter (· ≠ .laserAlarm) }

/-- An error in a beam's Grain tile cache marks one of its tiles INVALID: which one a location holds is open (log entry 2). -/
def State.cacheBad (s : State) (b : Fin 48) : State :=
  let cols := s.columnsOf b
  match cols with
  | [] => s
  | _ =>
    let d := s.draw
    let tile := (cols.getD (d.1 % cols.length) ⟨0, [], 0, 0, false⟩).tile
    let slot := d.2.slotOf (d.1 / cols.length % 4)
    let s := d.2.setDir slot tile { d.2.dir slot tile with invalid := true }
    -- the tile is fetched anew, so that the cache's word is written again (R527)
    let s : State := { s with ue := s.ue.filter fun w => !(decide (0x11000000 + 0x40000 * b.val ≤ w) && decide (w < 0x11040000 + 0x40000 * b.val)) }
    s.onGrain fun g => { g with columns := updAt g.columns b.val fun l => l.map fun c => if c.tile = tile then { s.fetchColumn tile with queried := c.queried } else c }

/-- An error in the Grain map: the tile is INVALID; a directory word is written fresh with its eight tiles INVALID, and is then good. -/
def State.mapBad (s : State) (a : Nat) : State :=
  let off := (a - 0x200000000) % 0x20000000
  let slot := (a - 0x200000000) / 0x20000000
  if off < 0x1E848000 then s.grainBad a
  else
    let t0 := (off - 0x1E848000) / 64 * 8
    s.writeMem (dirAddr slot t0) ((List.range 8).flatMap fun _ => (⟨s.now, false, true, 0⟩ : DirEnt).bytes)

/-- The beam of a Scribe address: of its table, or of its measurements. -/
def scribeBeam (a : Nat) : Option (Fin 48) :=
  if a < 0x13A33000 then some (Fin.ofNat 48 ((a - 0x13100000) / 0x31100))
  else if a < 0x13A7B000 then some (Fin.ofNat 48 ((a - 0x13A33000) / 0x1800)) else none

/-- An error in the packet buffers: one of the packets held there is discarded, and no reply to it is sent. Which one a location holds is open (log
entry 2). -/
def State.bufferBad (s : State) : State :=
  let a := s.up.segs.length
  let b := s.down.segs.length
  let n := a + b + s.front.spiOut.length
  if n = 0 then s
  else
    let d := s.draw
    let i := d.1 % n
    let s := d.2
    if i < a then { s with up := { s.up with segs := s.up.segs.eraseIdx i } }
    else if i < a + b then { s with down := { s.down with segs := s.down.segs.eraseIdx (i - a) } }
    else { s with front := { s.front with spiOut := s.front.spiOut.eraseIdx (i - a - b) } }

/-- The action of a region (R30). -/
def State.ueAction (s : State) (region a : Nat) : State :=
  match region with
  | 0 => s.deviceReset 0x20
  | 1 => s.cacheBad (Fin.ofNat 48 ((a - 0x11000000) / 0x40000))
  | 3 => s.recordsFail (Fin.ofNat 48 ((a - 0x12400000) / 0x20000))
  | 4 => s.bufferBad
  | 5 => s.deviceReset 0x20
  | 6 => (s.setLaser 4).holdCause 4
  | 7 => match scribeBeam a with
    | some b => (s.tableBad b).beamFail b .scribeTable
    | none => s
  | 9 => beams.foldl (fun st b => if st.fetchesFrom b (eccWord a) then st.recordsFail b else st) s
  | 10 => s.mapBad a
  | 13 => s.deviceReset 0x20
  | _ => s

/-- An uncorrectable error is met at an address: it is recorded with its region, and the region's action follows (R30, R527). -/
def State.memUe (s : State) (a : Nat) : State :=
  match memRegion a with
  | none => s
  | some r =>
    let w := eccWord a
    let s : State := { s with ue := if s.ue.contains w then s.ue else s.ue ++ [w] }
    (s.note 0x0081 1 0 [] (leBytes 1 r ++ leBytes 3 0 ++ leBytes 8 a)).ueAction r a

/-- A single-bit error is corrected in place and counted (R30). -/
def State.memCe (s : State) (a : Nat) : State :=
  match memRegion a with
  | none => s
  | some r => s.note 0x0080 0 0x61 [] (leBytes 1 r ++ leBytes 3 0)

/-- Words in error that an access has met: each is a fresh detection while it is still in error (R527). -/
def State.memMet (s : State) (ws : List Nat) : State := ws.foldl (fun st w => if st.ue.contains w then st.memUe w else st) s

/-- FIFO_REFILL (R167): with fewer than 2,048 records held, the fetch fills the FIFO up to a word in error, which fails the beam. -/
def State.refill (s : State) (b : Fin 48) (count : Nat) : State :=
  if (s.kerf b).engine.runs && decide ((s.kerf b).fifo.length + (s.kerf b).queue.length < 2048) then
    let errs := s.fillErrors b count
    (s.fill b count).memMet errs
  else s

/-- Memory as the host reads it, with the errors that the read meets. -/
def State.hostReads (s : State) (a n : Nat) : List Byte × State :=
  (s.hostRead a n, s.memMet (s.ueIn a n))

/-- Bytes that the host writes to memory, with the errors that they would merge into. -/
def State.hostWrites (s : State) (a : Nat) (bs : List Byte) : State :=
  let met := s.ueMerge a bs.length
  (s.writeMem a bs).memMet met

end Sys2Proof.Machine
end

