-- ==== Sys2Proof/Machine/Operands.lean ====
section
/-! DEFINITION. What a packet's path and parameters name: the unit tree with custom frames (01_architecture.md R35-R40, R43), the forms of path that
an opcode accepts (03 R101), the raw form of a packet (R79-R83), and common parameter checks. -/

namespace Sys2Proof

open Sys2Proof.Machine

/-- The flags of R81. -/
def Packet.ifLate (p : Packet) : Bool := p.flags.getLsbD 0
def Packet.isSecure (p : Packet) : Bool := p.flags.getLsbD 1
def Packet.hasAt (p : Packet) : Bool := p.flags.getLsbD 2
def Packet.isAlert (p : Packet) : Bool := p.flags.getLsbD 3
def Packet.due (p : Packet) : Nat := p.atEra.toNat * eraLen + p.atNs.toNat

/-- Whether a packet has a form that steps 1 and 2 pass: its path, its parameters and its tag have lengths that R79 allows. -/
def Packet.wellFormed (p : Packet) : Bool :=
  p.path.length == 8 && p.params.length % 4 == 0 && decide (p.params.length ≤ 8192) && p.tag.length == (if p.isSecure then 16 else 0)

end Sys2Proof

namespace Sys2Proof.Machine

open Sys2Proof

/-! ## Raw packets (R79, R80) -/

/-- The header and parameters of a packet, as its tag and CRC cover them. -/
def rawHead (op : Nat) (p : Packet) : List Byte :=
  headerBytes p.version p.flags op p.params.length p.sequence p.path p.atEra.toNat p.atNs.toNat p.session ++ p.params

/-- The whole packet as it stands on the wire. -/
def rawPacket (op : Nat) (p : Packet) : List Byte := rawHead op p ++ p.tag ++ leBytes 4 p.crc.toNat

/-- Steps 1 and 2 on the bytes of a datagram or an SPI write: the opcode and the packet, or none when it is discarded. -/
def parsePacket (port : Port) (origin : HostAddr) (bs : List Byte) : Option (Nat × Packet) :=
  let len := leAt bs 6 2
  let sec := (byteAt bs 3).testBit 1
  let tagLen := if sec then 16 else 0
  if bs.length < 36 ∨ bs.length ≠ 36 + len + tagLen ∨ len % 4 ≠ 0 ∨ 8192 < len then none
  else if leAt bs 0 2 ≠ 0x4A46 then none
  else
    let rest := bs.drop (32 + len)
    some (leAt bs 4 2,
      { port := port, origin := origin, dport := 0, version := BitVec.ofNat 8 (byteAt bs 2), flags := BitVec.ofNat 8 (byteAt bs 3), sequence := leWord bs 8
        path := (bs.drop 12).take 8, atEra := leWord bs 20, atNs := leWord bs 24, session := leWord bs 28, params := (bs.drop 32).take len
        tag := rest.take tagLen, crc := leWord rest tagLen })

/-! ## The unit tree (R35-R37) -/

/-- What a path names in its device. -/
inductive Target where
  | root
  | leaf (u : Leaf)
  | dflt (k : Fin 6)
  | frame (id : Nat)
deriving DecidableEq, Repr

/-- The leaves of a default frame, in order (R36). -/
def dfltLeaves (k : Fin 6) : List Leaf :=
  match k.val with
  | 0 => (List.finRange 48).map .beam
  | 1 => (List.finRange 8).map .motor
  | 2 => (List.finRange 16).map .led
  | 3 => (List.finRange 16).map .joist
  | 4 => (List.finRange 2).map .rafter
  | _ => [.eth 0, .eth 1, .time, .spi]

/-- A custom frame by its number. -/
def State.frameOf (s : State) (id : Nat) : Option Frame := s.front.frames.find? fun f => f.id == id

/-- A member as what a path through it names. -/
def Member.target : Member → Target
  | .leaf u => .leaf u
  | .frame id => .frame id
  | .dflt k => .dflt k

/-- The members of a target with their indices, in member order. -/
def State.membersOf (s : State) (t : Target) : List (Nat × Target) :=
  match t with
  | .root => ((List.finRange 6).map fun k => (k.val, Target.dflt k))
      ++ sortBy (fun x => x.1) (s.front.frames.filterMap fun f => f.level1.map fun i => (i, Target.frame f.id))
  | .leaf _ => []
  | .dflt k => (dfltLeaves k).zipIdx.map fun x => (x.2, Target.leaf x.1)
  | .frame id => match s.frameOf id with
    | some f => sortBy (fun x => x.1) (f.members.map fun m => (m.1, m.2.target))
    | none => []

/-- The target that levels below the root name. -/
def State.walk (s : State) (t : Target) : List Nat → Option Target
  | [] => some t
  | i :: r => match (s.membersOf t).find? fun m => m.1 == i with
    | some m => s.walk m.2 r
    | none => none

/-- Whether a path is well formed (R35): a level-0 index of 0-15, and nothing but 0xFF after the first 0xFF. -/
def pathFormed (path : List Byte) : Bool :=
  path.length == 8 && decide (byteAt path 0 ≤ 15) && ((path.dropWhile (· != 0xFF)).all (· == 0xFF))

/-- The leaves below a target, in member order, with their levels and whether the frame that holds each skips absent members (R39, R40); a
leaf addressed by itself is a member of no frame. `fuel` is the depth of a path. -/
def State.leavesIn (s : State) : Nat → Target → List Nat → Option Bool → List (List Nat × Leaf × Option Bool)
  | 0, _, _, _ => []
  | fuel + 1, t, lv, attr =>
    match t with
    | .leaf u => [(lv, u, attr)]
    | t =>
      let skip := match t with
        | .frame id => (s.frameOf id).map fun f => f.attrs.getLsbD 0
        | _ => some true
      (s.membersOf t).flatMap fun m => s.leavesIn fuel m.2 (lv ++ [m.1]) skip

/-- The leaves below a target. -/
def State.leavesUnder (s : State) (t : Target) (lv : List Nat) : List (List Nat × Leaf × Option Bool) := s.leavesIn 8 t lv none

/-! ## Aggregated status (R43) -/

/-- The root's own status (R75): any set bit of SUPPLY_STATUS except VIN_DIP makes it DEGRADED. -/
def State.rootState (s : State) : Nat := if Nat.land (s.reg supplyStatus).toNat 0x3FD = 0 then stOk else stDegraded

/-- The lights frame's own status: an NTC input that has failed makes it DEGRADED (R439). -/
def State.lightsState (s : State) : Nat := if s.lights.failed.any id then stDegraded else stOk

/-- A frame's own status. -/
def State.ownState (s : State) : Target → Nat
  | .root => s.rootState
  | .dflt k => if k.val = 2 then s.lightsState else stOk
  | _ => stOk

/-- The state of a target: a leaf's own, a frame's most severe one. -/
def State.stateIn (s : State) : Nat → Target → Nat
  | 0, _ => stOk
  | fuel + 1, t =>
    match t with
    | .leaf u => s.unitState u
    | t => ((s.membersOf t).map fun m => s.stateIn fuel m.2).foldl max (s.ownState t)

/-- The 20-byte record of a frame (R43). -/
def State.aggregate (s : State) (t : Target) (lv : List Nat) : List Byte :=
  let ms := (s.membersOf t).map fun m => s.stateIn 8 m.2
  let st := s.stateIn 9 t
  let below := s.leavesUnder t lv
  let worst := match below.find? fun x => s.unitState x.2.1 == st with
    | some x => s.fullPath x.1
    | none => s.fullPath lv
  let faults := (below.map fun x => s.regF (statusReg x.2.1) 16 16).sum
  leBytes 1 st ++ leBytes 1 ms.length ++ ((List.range 6).flatMap fun k => leBytes 1 (ms.filter (· == k)).length)
    ++ (if st = stOk then List.replicate 8 0xFF else worst) ++ leBytes 4 (min faults 0xFFFFFFFF)

/-! ## Parameter checks -/

/-- The first cause of a list of checks, each a condition that fails the packet and the offset that it names. -/
def firstBad : List (Bool × Nat) → Option Nat
  | [] => none
  | (true, c) :: _ => some c
  | (false, _) :: r => firstBad r

/-- The parameters are exactly `n` bytes long: their length is a field of the header, so one that does not fit has cause 0xFFFF (R80, R86; log entry
34). -/
def exactLen (bs : List Byte) (n : Nat) : Bool × Nat := (bs.length != n, 0xFFFF)

/-- The parameters are at least `n` bytes long. -/
def minLen (bs : List Byte) (n : Nat) : Bool × Nat := (decide (bs.length < n), 0xFFFF)

/-- The least such offset at which reserved bytes are not 0. -/
def reservedBad (bs : List Byte) (off n : Nat) : Bool × Nat := (!zeroAt bs off n, off)

end Sys2Proof.Machine
end

