-- ==== Sys2Proof/Machine/Tirril.lean ====
section
/-! DEFINITION. The acceptance checks of a Tirril packet, its reply and its execution, at once or scheduled (03_tirril_packets.md R84-R95, R101,
R105, 01 R39-R41, 16 R478-R482). An opcode is an `OpSpec`: what each step asks of it, and what it does. -/

namespace Sys2Proof.Machine

open Sys2Proof

/-! ## What an opcode is -/

/-- A rejection: the status with its cause and value, and the rejecting target's path when it is not the request's (R86). -/
structure Rej where
  status : Status
  cause  : Nat := 0
  value  : Nat := 0
  path   : Option (List Byte) := none
deriving DecidableEq, Repr

def Rej.param (cause : Nat) : Rej := { status := .badParam, cause := cause }
def Rej.mode (cause : Nat) : Rej := { status := .wrongMode, cause := cause }
def Rej.busy : Rej := { status := .busy }
def Rej.noUnit : Rej := { status := .noUnit }

/-- A command as its checks and its execution see it: the packet, its world, its session's client, what its path names, and its execute-at
time while it is being accepted for later; `later` marks an execution from the schedule, `wide` that a forwarded packet's session has JUMBO_REPLIES. -/
structure Ctx where
  op     : Nat
  p      : Packet
  secure : Bool
  client : Word
  se     : Option Session
  target : Target
  lv     : List Nat
  due    : Option Nat
  later  : Bool := false
  wide   : Bool := false

/-- What a command's execution answers (R86), with what the audit keeps of it (R105). -/
structure Res where
  st     : State
  status : Status := .ok
  cause  : Nat := 0
  value  : Nat := 0
  body   : List Byte := []
  path   : Option (List Byte) := none
  audit  : Option Detail := none

/-- The paths that an opcode accepts (R101). -/
inductive PathKind where
  /-- The device root only. -/
  | root
  /-- The root of the manager only. -/
  | manager
  /-- The root of any device of the chain, for what the manager keeps for all of them; of a worker, its own alone (R78). -/
  | device
  /-- Any unit or frame. -/
  | unit
  /-- The frame acted on, which need not exist. -/
  | frame
  /-- A single leaf of one kind. -/
  | single (k : Leaf → Bool)
  /-- Any leaf of one kind or any frame; `every` reaches members that are ABSENT or DISABLED too. -/
  | fan (k : Leaf → Bool) (every : Bool)

/-- An opcode: `world` gives the address with which step 10 denies the command, 0 where it names none; `mode` the cause of WRONG_MODE in a mode
(step 11), `params` the cause of BAD_PARAM (step 13), `slots` step 15, and `check` and `leafOk` step 16 for the command or for each of its leaves; `run`
and `leafRun` are what it does; `most` is how many leaves one reply may report; `accept` acts when the command is scheduled; `refused` when it is refused; `after` follows
the reply; `lead` is how long after its acceptance a command may execute at the earliest (R91), and `extra` is what the audit keeps of each leaf beside the parameters. -/
structure OpSpec where
  read    : Bool := false
  sched   : Bool := false
  path    : PathKind := .root
  world   : State → Ctx → Option Nat := fun _ _ => none
  mode    : State → Ctx → Mode → Option Nat := fun _ _ _ => none
  params  : State → Ctx → Option Nat := fun _ _ => none
  slots   : State → Ctx → Option Rej := fun _ _ => none
  check   : State → Ctx → Option Rej := fun _ _ => none
  leafOk  : State → Ctx → Leaf → Option Rej := fun _ _ _ => none
  run     : State → Ctx → Res := fun s _ => { st := s }
  leafRun : State → Ctx → Leaf → State × List Byte := fun s _ _ => (s, [])
  most    : Ctx → Nat := fun _ => 256
  accept  : State → Ctx → State := fun s _ => s
  lead    : State → Nat := fun _ => 0
  after   : State → Ctx → State := fun s _ => s
  refused : State → Rej → State := fun s _ => s
  extra   : State → Leaf → List Byte := fun _ _ => []

/-- Replies of more than 1,400 bytes of parameters are permitted (R79). A worker knows a session's flags from the manager (log entry 25); of a
session that it has not been told of it assumes none (DESIGN CHOICE). -/
def Ctx.jumbo (c : Ctx) : Bool := decide (1400 < c.p.params.length) || c.wide || (match c.se with | some se => se.jumbo | none => false)

/-- What a worker knows of a session that the manager keeps: its client and JUMBO_REPLIES. -/
def State.remoteOf (s : State) (p : Packet) : Option (Word × Word × Bool) :=
  if p.port = .rafter then s.front.remote.find? fun x => x.1 == p.session else none

/-- The client of the session that a packet names. -/
def State.clientOf (s : State) (p : Packet) : Word := ((s.remoteOf p).map (·.2.1)).getD 0

/-- What the manager told of a packet that it forwarded: when it accepted it, and the number of the port at which it came. -/
def State.acceptance (s : State) (p : Packet) : Option (Nat × Nat) :=
  (s.front.accepted.find? fun x => x.1 == p.session && x.2.1 == p.sequence).map (·.2.2)

/-- The time from which a packet may execute at the earliest (R91, R92): its acceptance, or in worker d the manager's acceptance and 20 µs × d. -/
def State.firstAt (s : State) (p : Packet) : Nat :=
  if p.port = .rafter then
    match s.acceptance p with
    | some x => x.1 + 20 * micro * s.chain.index
    | none => s.now
  else s.now

/-- The packet buffers (R26): 4 MiB. -/
def bufRoom : Nat := 4194304

/-- The bytes that the packet buffers hold between commands: packets that the SPI port has still to send, and packets of the chain whose segments are
not all there (log entry 51). -/
def State.bufBytes (s : State) : Nat :=
  (s.front.spiOut.map (·.length)).sum + (s.up.segs.map (·.2.length)).sum + (s.down.segs.map (·.2.length)).sum

/-- Whether a block of SEC_WORLD is in the secure world (R479). -/
def State.blockS (s : State) (k : Nat) : Bool := s.regB 0x0A000004 k

/-- The world check of an opcode that belongs to a block. -/
def ofBlock (k : Nat) (s : State) (c : Ctx) : Option Nat := if s.blockS k && !c.secure then some 0 else none

/-- The world check of an opcode that is always secure. -/
def always (_ : State) (c : Ctx) : Option Nat := if c.secure then none else some 0

/-- The mode check of an opcode that some modes alone accept: WRONG_MODE with cause 0x01 elsewhere. -/
def onlyIn (ms : List Mode) (_ : State) (_ : Ctx) (m : Mode) : Option Nat := if ms.contains m then none else some 1

/-- An executed command that the audit keeps with its parameters. -/
def Ctx.params (c : Ctx) : List Byte := c.p.params
def Ctx.done (c : Ctx) (s : State) : Res := { st := s, audit := some (.params c.p.params) }

/-- A leaf takes up a motion or an exposure: R38 asks whether a fanned-out command brought it. -/
def State.fanMark (s : State) (c : Ctx) (u : Leaf) : State :=
  let rest := s.front.fanned.filter (· ≠ u)
  { s with front := { s.front with fanned := match c.target with | .leaf _ => rest | _ => u :: rest } }

/-! ## Replies and sessions (R85-R90) -/

def State.session (s : State) (id : Word) : Option Session := if id = 0 then none else s.front.sessions.find? fun x => x.id == id

/-- A reply's bytes leave for its places; TX_REPLIES counts each. -/
def State.sendBytes (s : State) (ds : List (Port × HostAddr)) (bs : List Byte) : State :=
  ds.foldl (fun st d => (st.sendAt d.1 d.2 bs).count rTxReplies) s

/-- Where the reply to a packet goes. -/
def State.replyTo (s : State) (p : Packet) (se : Option Session) : List (Port × HostAddr) :=
  match se with
  | some x => if p.port = .rafter then [(p.port, p.origin)] else match x.dests s p.port p.origin with
    | [] => [(p.port, p.origin)]
    | l => l
  | none => [(p.port, p.origin)]

/-- A reply's bytes kept for a retransmission: the last 64 of a session (R89). -/
def Session.keep (se : Session) (seq : Word) (bs : List Byte) : Session :=
  let l := se.seen.map fun x => if x.seq = seq then { x with reply := some bs, waits := false } else x
  let cached := l.filter fun x => x.reply.isSome
  -- the newest come first
  let old := (cached.drop 64).map (·.seq)
  { se with seen := l.map fun x => if old.contains x.seq then { x with reply := none } else x }

/-- A worker keeps its latest replies to the manager's packets: 64 for each of eight sessions (R88, R89). -/
def State.keepReplied (s : State) (session seq : Word) (bs : List Byte) : State :=
  { s with front := { s.front with replied := ((session, seq, bs) :: s.front.replied).take 512 } }

/-- A reply is made, sent and kept. -/
def State.reply (s : State) (op : Nat) (p : Packet) (secure : Bool) (kept : Bool) (r : Rej) (body : List Byte) : State :=
  let rep : Reply := { port := p.port, origin := p.origin, opcode := op, version := p.version, sequence := p.sequence, rpath := p.path, session := p.session
                       time := s.now, secure := secure, status := r.status, cause := r.cause, value := r.value, path := r.path.getD p.path, body := body }
  let bs := rep.bytes s.sec.key
  let se := s.session p.session
  let s := s.sendBytes (s.replyTo p se) bs
  match se with
  | some x => if kept then s.setSession (x.keep p.sequence bs) else s
  | none => if p.port = .rafter ∧ kept = true ∧ p.session ≠ 0 then s.keepReplied p.session p.sequence bs else s

/-- What step 8 finds of a sequence number (R89, R90). -/
inductive SeqCase where
  | fresh
  | resend (bs : List Byte)
  | forward
  | dual
  | stale
deriving DecidableEq, Repr

/-- Step 8 in a session. -/
def Session.seqCase (se : Session) (port : Port) (q : Word) : SeqCase :=
  match se.seen.find? fun x => x.seq == q with
  | some x =>
    if se.dual && x.port != port && (x.port == .eth0 || x.port == .eth1) && (port == .eth0 || port == .eth1) then .dual
    else match x.reply with
      | some bs => .resend bs
      | none => if x.waits then .forward else .stale
  | none =>
    match se.highest with
    | none => .fresh
    | some h =>
      let ahead := (q - h).toNat
      if ahead ≠ 0 ∧ ahead < 2 ^ 31 then .fresh
      else if (h - q).toNat ≤ 1024 then .fresh else .stale

/-- A new sequence number is marked as seen, and alerts go where it came from (R89, R90). -/
def Session.mark (se : Session) (p : Packet) (waits : Bool) (now : Nat) : Session :=
  let h := match se.highest with
    | none => p.sequence
    | some h => if (p.sequence - h).toNat < 2 ^ 31 then p.sequence else h
  let seen := (⟨p.sequence, p.port, p.origin, none, waits⟩ :: se.seen).filter fun x => decide ((h - x.seq).toNat ≤ 1024)
  { se with highest := some h, seen := seen, lastPort := p.port, lastAddr := p.origin, lastAt := now }

/-- A port's address is learned from the first packet of the session that arrives on it, new or not (R90). -/
def Session.learn (se : Session) (p : Packet) : Session :=
  { se with
    addr0 := if p.port = .eth0 && se.addr0.isNone then some p.origin else se.addr0
    addr1 := if p.port = .eth1 && se.addr1.isNone then some p.origin else se.addr1 }

/-- A session as a packet of it leaves it before step 8: it has not timed out, and the port's address is learned (R88, R90). -/
def Session.arrive (se : Session) (p : Packet) (now : Nat) : Session := { se.learn p with lastAt := now }

/-- A retransmission that is forwarded again: the reply goes to the copy answered (R77, R90). -/
def Session.again (se : Session) (p : Packet) : Session :=
  { se with seen := se.seen.map fun x => if x.seq = p.sequence then { x with port := p.port, origin := p.origin } else x }

/-! ## Denials (R481) -/

/-- The EVENT record of a refusal at step 10. -/
def State.denied (s : State) (op : Nat) (p : Packet) (secure : Bool) (addr : Nat) : State :=
  (s.count rRxDenied).note 0x0084 1 0 [] (leBytes 2 op ++ leBytes 1 (portCode p.port) ++ leBytes 1 (bit secure) ++ leBytes 4 p.session.toNat ++ leBytes 8 addr)

/-! ## Modes and the schedule (R45, R93, R94) -/

/-- The pending commands in execution order. -/
def State.schedule (s : State) : List Sched := sortBy (fun (e : Sched) => e.due) s.front.sched

/-- The moves that are scheduled, in the order of their times: MODE_SETs of this device, and in a worker those of the manager, which move the whole chain
(R46). -/
def State.planned (s : State) : List (Nat × Nat) :=
  sortBy (fun (m : Nat × Nat) => m.1)
    (s.front.moves ++ (s.schedule.filter fun e => e.opcode == 0x0010).map fun e => (e.due, byteAt e.packet.params 0))

/-- The mode that will be in force at a time when every earlier MODE_SET succeeds. -/
def State.predicted (s : State) (due : Nat) : Mode :=
  ((s.planned.filter fun m => decide (m.1 ≤ due)).getLast?.bind fun m => modeOf m.2).getD s.mode.mode

/-- A transfer by its identifier. -/
def State.transfer (s : State) (id : Nat) : Option Transfer := s.front.transfers.find? fun t => t.id == id

/-- Whether a bulk opcode passes in UPDATE or with session 0, judged by its transfer (R87). -/
def State.bulkPasses (s : State) (op : Nat) (ps : List Byte) : Bool :=
  if op = 0x0200 then byteAt ps 0 == 4
  else match s.transfer (leAt ps 0 2) with
    | some t => t.kind == 4
    | none => true

/-- Whether an opcode is a bulk opcode that a transfer judges. -/
def isBulk (op : Nat) : Bool := decide (0x0200 ≤ op) && decide (op ≤ 0x0204)

/-- What UPDATE accepts (R45). -/
def State.updateAccepts (s : State) (op : Nat) (ps : List Byte) : Bool :=
  op / 256 == 0x0E || (isBulk op && s.bulkPasses op ps) || [0x0205, 0x0000, 0x0001, 0x0002, 0x0003, 0x0004, 0x0030, 0x0031, 0x0100].contains op
    || (op == 0x0010 && byteAt ps 0 == 2)

/-- What session 0 may send (R87). -/
def State.openTo0 (s : State) (op : Nat) (ps : List Byte) : Bool :=
  op == 0x0000 || op == 0x0001 || op == 0x0003
    || (s.mode.mode == .update && (op / 256 == 0x0E || (isBulk op && s.bulkPasses op ps) || (op == 0x0010 && byteAt ps 0 == 2)))

/-! ## Fan-out (R39, R40) -/

/-- A command's leaves: rejections of members that are not there, the leaves that receive it, and how many were skipped. -/
structure Fan where
  reject : Option Rej
  leaves : List (List Nat × Leaf)
  skipped : Nat

/-- One more leaf of the fan-out, in member order. -/
def OpSpec.fanStep (o : OpSpec) (s : State) (c : Ctx) (k : Leaf → Bool) (every : Bool) (f : Fan) (x : List Nat × Leaf × Option Bool) : Fan :=
  if f.reject.isSome then f
  else
    let st := s.unitState x.2.1
    let away := st == stAbsent || st == stDisabled
    let here := some (s.fullPath x.1)
    if !every && x.2.2 == some true && away then { f with skipped := f.skipped + 1 }
    else if !every && x.2.2 == some false && (away || st == stFault) then { f with reject := some { Rej.noUnit with path := here } }
    else if k x.2.1 = false then { f with reject := some { Rej.param 0xFFFF with path := here } }
    else match o.leafOk s c x.2.1 with
      | some r => { f with reject := some { r with path := here } }
      | none => { f with leaves := f.leaves ++ [(x.1, x.2.1)] }

/-- The whole fan-out of a command, checked. -/
def OpSpec.fan (o : OpSpec) (s : State) (c : Ctx) (k : Leaf → Bool) (every : Bool) : Fan :=
  let f := (s.leavesUnder c.target c.lv).foldl (fun f x => o.fanStep s c k every f x) ⟨none, [], 0⟩
  if f.reject.isNone ∧ o.most c < f.leaves.length then { f with reject := some (Rej.param 0xFFFF) } else f

/-- Step 16: the command's own check, then its targets'. -/
def OpSpec.step16 (o : OpSpec) (s : State) (c : Ctx) : Option Rej :=
  match o.check s c with
  | some r => some r
  | none => match o.path with
    | .fan k every => (o.fan s c k every).reject
    | _ => none

/-- The clock of a gated block restarts before a command to the block executes (R25): the opcodes of layers, beams, Truss, Plumb, Grain and Scribe
(groups 0x03 to 0x07) and of Veneer (group 0x08) find every waiting register write of those blocks applied, and what they write themselves does not wait. -/
def State.clocked (s : State) (op : Nat) : State :=
  if decide (0x0300 ≤ op) && decide (op < 0x0800) then { s.beamClock with blockOn := true }
  else if decide (0x0800 ≤ op) && decide (op < 0x0900) then { s.pixelClock with blockOn := true } else s

/-- What the command does; a fanned-out one acts on each of its leaves and answers their results in order. -/
def OpSpec.effect (o : OpSpec) (s : State) (c : Ctx) : Res :=
  match o.path with
  | .fan k every =>
    let f := o.fan s c k every
    let q := f.leaves.foldl (fun (q : State × List Byte) x => let z := o.leafRun q.1 c x.2; (z.1, q.2 ++ z.2)) (s, [])
    { st := q.1, value := f.skipped, body := q.2
      audit := if o.read then none else some (.params (c.p.params ++ f.leaves.flatMap fun x => o.extra s x.2)) }
  | _ => o.run s c

/-! ## The path (R35, R101) -/

/-- Step 12 in this device: what the path names, or how it fails. -/
def State.resolve (s : State) (kind : PathKind) (p : Packet) : Except Rej (Target × List Nat) :=
  let lv := levelsOf p.path
  if pathFormed p.path = false then .error (Rej.param 0xFFFF)
  else if byteAt p.path 0 ≠ s.chain.index ∧ ((match kind with | .device => s.chain.manager && s.chain.present.getLsbD (byteAt p.path 0) | _ => false) = false) then
    .error Rej.noUnit
  else
    match kind with
    | .root => if lv.isEmpty then .ok (.root, []) else .error (Rej.param 0xFFFF)
    | .manager => if lv.isEmpty ∧ s.chain.manager = true then .ok (.root, []) else .error (Rej.param 0xFFFF)
    | .device => if lv.isEmpty then .ok (.root, []) else .error (Rej.param 0xFFFF)
    | .unit => match s.walk .root lv with
      | some t => .ok (t, lv)
      | none => .error Rej.noUnit
    | .frame => .ok ((s.walk .root lv).getD .root, lv)
    | .single k => match s.walk .root lv with
      | some (.leaf u) => if k u then .ok (.leaf u, lv) else .error (Rej.param 0xFFFF)
      | some _ => .error (Rej.param 0xFFFF)
      | none => .error Rej.noUnit
    | .fan k _ => match s.walk .root lv with
      | some (.leaf u) => if k u then .ok (.leaf u, lv) else .error (Rej.param 0xFFFF)
      | some t => .ok (t, lv)
      | none => .error Rej.noUnit

/-! ## Steps 9-16 -/

/-- What becomes of a command that has passed its sequence check. -/
inductive Verdict where
  /-- Refused, with the address when it is a denial. -/
  | refuse (r : Rej) (denied : Option Nat)
  /-- Accepted for a later time. -/
  | later (c : Ctx) (due : Nat) (skipped : Nat)
  /-- Executes now, `late` ns after its time when IF_LATE lets it. -/
  | now (c : Ctx) (late : Option Nat)

/-- Whether a packet waits for its execute-at time: the time can still be reached (R91). -/
def OpSpec.ahead (o : OpSpec) (s : State) (p : Packet) : Bool := p.hasAt && decide (s.firstAt p + o.lead s ≤ p.due)

/-- A command as its checks see it. -/
def OpSpec.ctx (o : OpSpec) (s : State) (op : Nat) (p : Packet) (secure : Bool) (client : Word) : Ctx :=
  let t := match s.resolve o.path p with
    | .ok x => x
    | .error _ => (.root, [])
  { op := op, p := p, secure := secure, client := client, se := s.session p.session, target := t.1, lv := t.2
    due := if o.ahead s p then some p.due else none, wide := ((s.remoteOf p).map (·.2.2)).getD false }

/-- Steps 10-16 of R84 for an opcode, in their order. -/
def OpSpec.judge (o : OpSpec) (s : State) (op : Nat) (p : Packet) (secure : Bool) (client : Word) : Verdict :=
  let first := s.firstAt p + o.lead s
  let ahead := o.ahead s p
  let m := if ahead then s.predicted p.due else s.mode.mode
  let c := o.ctx s op p secure client
  let w := o.world s c
  let late := p.hasAt && decide (p.due < first)
  if w.isSome then .refuse { status := .denied } w
  else if m = .update ∧ s.updateAccepts op p.params = false then .refuse (Rej.mode 1) none
  else match o.mode s c m with
    | some cause => .refuse (Rej.mode cause) none
    | none => match s.resolve o.path p with
      | .error r => .refuse r none
      | .ok _ => match o.params s c with
        | some cause => .refuse (Rej.param cause) none
        | none =>
          if p.hasAt ∧ o.sched = false then .refuse (Rej.param 0xFFFF) none
          else if p.hasAt = true ∧ s.firstAt p + 3600 * second < p.due then .refuse { status := .tooFar } none
          else if late ∧ p.ifLate = false then .refuse { status := .late, value := min (first - p.due) 0xFFFFFFFF } none
          else if (ahead ∧ 1024 ≤ s.front.sched.length) ∨ bufRoom < s.bufBytes then .refuse Rej.busy none
          else match o.slots s c with
            | some r => .refuse r none
            | none => match o.step16 s c with
              | some r => .refuse r none
              | none =>
                let skipped := match o.path with
                  | .fan k every => (o.fan s c k every).skipped
                  | _ => 0
                if ahead then .later c p.due skipped else .now c (if late then some (first - p.due) else none)

/-- The audit entry of an executed command (R105, R463); a forwarded one carries the manager's port (log entry 25). -/
def State.auditCmd (s : State) (op : Nat) (p : Packet) (secure : Bool) (client : Word) (scheduled : Bool) (d : Option Detail) : State :=
  match d with
  | some d => s.audit (if p.port = .rafter then p.origin.udp else portCode p.port) secure (p.port == .rafter) scheduled p.session client p.sequence op p.path d
  | none => s

/-- REFUSE_CAUSE follows a refused move, latch clear, shutdown or resume (R48, R61, R67). -/
def setsRefuse (op : Nat) : Bool := op == 0x0010 || op == 0x0013 || op == 0x0015 || op == 0x0304

/-- A rejection is answered. -/
def State.rejectCmd (s : State) (op : Nat) (p : Packet) (secure : Bool) (r : Rej) (addr : Option Nat) : State :=
  let s := match addr with
    | some a => s.denied op p secure a
    | none => if r.status = Status.denied then s.denied op p secure 0 else s
  let s := if r.status = .wrongMode && setsRefuse op then s.setRefuse r.cause else s
  s.reply op p secure true r []

/-- What follows an execution: the audit, the reply with the status, and what comes after it. -/
def OpSpec.finish (o : OpSpec) (op : Nat) (p : Packet) (secure : Bool) (client : Word) (c : Ctx) (late : Option Nat) (r : Res) : State :=
  let status := if r.status = .ok ∧ late.isSome = true then .okLate else r.status
  let value := match late with
    | some n => if r.status = .ok then min n 0xFFFFFFFF else r.value
    | none => r.value
  let s := if r.status.done then r.st.auditCmd op p secure client false r.audit else r.st
  let s := if r.status = Status.denied then s.denied op p secure 0 else s
  let s := s.reply op p secure true { status := status, cause := r.cause, value := value, path := r.path } r.body
  if r.status.done then o.after s c else s

/-- Steps 9-16, execution and the reply. A command is judged and carried out with its block's clock running (R25); a refused one leaves the waiting writes
waiting. -/
def OpSpec.perform (o : OpSpec) (s : State) (op : Nat) (p : Packet) (secure : Bool) (client : Word) : State :=
  let u := s.clocked op
  match o.judge u op p secure client with
  | .refuse r a => (o.refused s r).rejectCmd op p secure r a
  | .later c due skipped =>
    let s : State := { s with front := { s.front with sched := s.front.sched ++ [⟨due, op, p, secure, c.client⟩] } }
    (o.accept s c).reply op p secure true { status := .ok, value := skipped } []
  | .now c late => o.finish op p secure client c late (o.effect u c)

/-! ## Steps 3-8 -/

/-- Whether a packet's tag verifies under the key in use (R83). -/
def State.tagOk (s : State) (op : Nat) (p : Packet) : Bool := tagOf s.sec.key (rawHead op p) == p.tag

/-- Steps 3-6: the failure that a packet meets, if any. -/
def State.headFails (s : State) (op : Nat) (p : Packet) : Option Rej :=
  if crc32c (rawHead op p ++ p.tag) ≠ p.crc then some { status := .crc }
  else if p.version ≠ 1 then some { status := .badVersion }
  else if p.flags.toNat / 16 ≠ 0 ∨ p.isAlert = true ∨ 0x8000 ≤ op then some (Rej.param 0xFFFF)
  else if p.isSecure = true ∧ s.tagOk op p = false then some { status := .authFail }
  else none

/-- A failure at steps 3-6 is counted and answered (R84, R481). -/
def State.headRefuse (s : State) (op : Nat) (p : Packet) (r : Rej) : State :=
  let s := if r.status = .crc then s.count rRxCrc
    else if r.status = .authFail then (s.count rRxAuthFail).note 0x0085 1 0 [] (leBytes 1 (portCode p.port) ++ leBytes 3 0 ++ leBytes 4 p.session.toNat)
    else s
  s.reply op p false false r []

/-- The worker that a packet's path names, when the manager is to forward it (R76, R92). -/
def State.forwardTo (s : State) (op : Nat) (p : Packet) : Option Nat :=
  let d := byteAt p.path 0
  let here := [0x0001, 0x0002, 0x0030, 0x0031].contains op
  if s.chain.manager && !here && d != 0 && pathFormed p.path && s.chain.present.getLsbD d then some d else none

/-- A packet is forwarded to a worker at once (R92, R363); before it goes what the worker must know of it, the time at which the manager accepted it and the port at which it
came (log entry 25). -/
def State.forward (s : State) (d op : Nat) (p : Packet) : State :=
  let s : State := if p.session = 0 then { s with front := { s.front with asked := ((d, p.sequence, p.port, p.origin) :: s.front.asked).take 64 } } else s
  let s := s.sendControl .down ctlAccepted d (leBytes 4 p.session.toNat ++ leBytes 4 p.sequence.toNat ++ timeBytes s.now ++ leBytes 1 (portCode p.port) ++ leBytes 3 0)
  s.sendTirril .down d (rawPacket op p)

/-- Step 9 on: an opcode that does not exist is BAD_OPCODE. A reply echoes the path as received. -/
def State.dispatch (s : State) (o : Option OpSpec) (op : Nat) (p : Packet) (secure : Bool) (client : Word) : State :=
  match o with
  | none => s.reply op p secure true { status := .badOpcode } []
  | some o => o.perform s op p secure client

/-- A packet that has come over the chain: its session lies in the manager (R363). One that was answered before and comes again is answered with the reply
kept, and does not execute again (R89). -/
def State.fromManager (s : State) (o : Option OpSpec) (op : Nat) (p : Packet) : State :=
  match s.front.replied.find? fun x => x.1 == p.session && x.2.1 == p.sequence with
  | some x => s.sendBytes [(p.port, p.origin)] x.2.2
  | none => s.dispatch o op p p.isSecure (s.clientOf p)

/-- Whether the sequence of a packet of session 0 is kept: in UPDATE, of a packet with a valid tag (R482). -/
def State.keepsSeq0 (s : State) (p : Packet) : Bool := s.mode.mode == .update && p.isSecure

/-- Whether the sequence of a packet of session 0 is kept and not above the highest kept one: it is a repetition (R482). -/
def State.repeats0 (s : State) (p : Packet) : Bool :=
  match s.sec.seq0 with
  | some h => s.keepsSeq0 p && decide (p.sequence.toNat ≤ h.toNat)
  | none => false

/-- Steps 7 and 8 with session 0 (R87, R482). -/
def State.sessionless (s : State) (o : Option OpSpec) (op : Nat) (p : Packet) : State :=
  if s.openTo0 op p.params = false then s.reply op p p.isSecure false { status := .badSession } []
  else if s.repeats0 p then (s.count rRxDuplicate).reply op p p.isSecure false { status := .duplicate } []
  else
    let s : State := if s.keepsSeq0 p then { s with sec := { s.sec with seq0 := some p.sequence } } else s
    let s := s.count rRxOk
    match s.forwardTo op p with
    | some d => s.forward d op p
    | none => s.dispatch o op p p.isSecure 0

/-- Steps 7 and 8 in a session (R88-R90). -/
def State.inSession (s : State) (o : Option OpSpec) (op : Nat) (p : Packet) (se : Session) : State :=
  let se := se.arrive p s.now
  let s := s.setSession se
  match se.seqCase p.port p.sequence with
  | .dual => s.count rRxDualDropped
  | .resend bs => (s.count rRxDuplicate).sendBytes (s.replyTo p (some se)) bs
  | .stale => (s.count rRxDuplicate).reply op p p.isSecure false { status := .duplicate } []
  | .forward => match s.forwardTo op p with
    | some d => (s.setSession (se.again p)).forward d op p
    | none => s
  | .fresh =>
    let to_ := s.forwardTo op p
    let s := (s.setSession (se.mark p to_.isSome s.now)).count rRxOk
    match to_ with
    | some d => s.forward d op p
    | none => s.dispatch o op p p.isSecure se.client

/-- Whether a packet can come in at a port now: only the manager terminates Ethernet connections (R76), SPI may be disabled (R78), and the
rafter port brings a worker the manager's packets. -/
def State.takes (s : State) (port : Port) : Bool :=
  match port with
  | .eth0 => s.chain.manager && s.time.linkUp0
  | .eth1 => s.chain.manager && s.time.linkUp1
  | .spi => s.regB 0x3000 16
  | .rafter => !s.chain.manager

/-- The Ethernet port of a packet's port. -/
def ethOf : Port → Option (Fin 2)
  | .eth0 => some 0
  | .eth1 => some 1
  | _ => none

/-- Whether a datagram with `n` bytes of data fits a frame of an Ethernet port (R376): 1,518 bytes, or 9,018 with JUMBO, of which the headers and the FCS take 46. -/
def State.fits (s : State) (port : Port) (n : Nat) : Bool :=
  match ethOf port with
  | some e => decide (n + 46 ≤ if s.regB (ethReg e 4) 3 then 9018 else 1518)
  | none => true

/-- RX_DISCARDED counts a frame that the MAC discards (R377). -/
def State.frameLost (s : State) (port : Port) : State :=
  match ethOf port with
  | some e => s.count (ethReg e 0x24)
  | none => s

/-- The bytes of a packet (R79). -/
def packetSize (p : Packet) : Nat := 36 + p.params.length + p.tag.length

/-- Whether a packet is one for the block: at an Ethernet port, a datagram in a frame of permitted length to the UDP port that PKT_CONFIG names (R76, R111, R376). -/
def State.hears (s : State) (p : Packet) : Bool :=
  s.takes p.port && s.fits p.port (packetSize p) && (!(p.port == .eth0 || p.port == .eth1) || decide (p.dport.toNat = s.regF 0x3000 0 16))

/-- RX_FRAMES counts the frame that a datagram comes in (R398). -/
def State.frameAt (s : State) (port : Port) : State :=
  match port with
  | .eth0 => s.count (ethReg 0 0x20)
  | .eth1 => s.count (ethReg 1 0x20)
  | _ => s

/-- A received packet with its opcode, through every step of R84. `o` is the opcode's meaning, none when it does not exist. -/
def State.receive (s : State) (o : Option OpSpec) (op : Nat) (p : Packet) : State :=
  if p.wellFormed = false then s.count rRxMalformed
  else match s.headFails op p with
    | some r => if p.port = .rafter ∧ r.status = .crc then s else s.headRefuse op p r
    | none =>
      if p.port = .rafter then s.fromManager o op p
      else if p.session = 0 then s.sessionless o op p
      else match s.session p.session with
        | none => s.reply op p p.isSecure false { status := .badSession } []
        | some se => s.inSession o op p se

/-- A packet of an opcode reaches the block at time `t`: until start-up is past it is discarded without reply (R52). A datagram to another UDP port is a
frame and no packet, and one in too long a frame is discarded by the MAC. -/
def State.packet (s : State) (t : Nat) (o : Option OpSpec) (op : Nat) (p : Packet) : State :=
  s.act t fun s => if s.hears p then (s.frameAt p.port).receive o op p else if s.takes p.port = false then s
    else if s.fits p.port (packetSize p) then s.frameAt p.port else s.frameLost p.port

/-! ## Scheduled execution (R94) -/

/-- A fanned-out command runs from the schedule: a leaf that would now refuse it writes a record, the others execute (R39). -/
def OpSpec.lateFan (o : OpSpec) (s : State) (c : Ctx) (k : Leaf → Bool) (every : Bool) : Res :=
  let all := (s.leavesUnder c.target c.lv).filter fun x => every || !(x.2.2 == some true && (s.unitState x.2.1 == stAbsent || s.unitState x.2.1 == stDisabled))
  let step (q : State × Option Rej) (x : List Nat × Leaf × Option Bool) : State × Option Rej :=
    match ((o.fanStep q.1 c k every ⟨none, [], 0⟩ x).reject) with
    | some r =>
      (q.1.note 0x0005 1 0 x.1 (leBytes 4 c.p.session.toNat ++ leBytes 4 c.p.sequence.toNat ++ leBytes 2 r.status.code ++ leBytes 6 0),
       if q.2.isSome then q.2 else some r)
    | none => ((o.leafRun q.1 c x.2.1).1, q.2)
  let q := all.foldl step (s, none)
  match q.2 with
  | some r => { st := q.1, status := r.status, cause := r.cause, path := r.path, audit := some (.params c.p.params) }
  | none => { st := q.1, audit := some (.params c.p.params) }

/-- The execution of a command taken from the schedule: steps 11 and 16 are checked again. -/
def OpSpec.execLater (o : OpSpec) (s : State) (c : Ctx) : Res :=
  let s := s.clocked c.op
  let wrong : Option Nat := if s.mode.mode = .update ∧ s.updateAccepts c.op c.p.params = false then some 1 else o.mode s c s.mode.mode
  match wrong with
  | some cause => { st := s, status := .wrongMode, cause := cause }
  | none => match s.resolve o.path c.p with
    | .error r => { st := s, status := r.status, cause := r.cause }
    | .ok t =>
      let c := { c with target := t.1, lv := t.2 }
      match o.check s c with
      | some r => { st := s, status := r.status, cause := r.cause, path := r.path }
      | none => match o.path with
        | .fan k every => o.lateFan s c k every
        | _ => match o.slots s c with
          | some r => { st := s, status := r.status, cause := r.cause }
          | none => o.run s c

/-- A scheduled command ends (R49, R94): EXEC_RESULT, or for a MODE_SET MODE_REFUSED when it fails, which for a closed session goes to the Tally alone (R88); the
workers then keep the manager's mode (R46). -/
def State.endSched (s : State) (e : Sched) (r : Res) : State :=
  let late := s.now - e.due
  if e.opcode = 0x0010 then
    if r.status.done then s
    else
      let pl := leBytes 1 (byteAt e.packet.params 0) ++ leBytes 1 r.cause ++ leBytes 2 0
      let s := (s.setRefuse r.cause).toWorkers ctlMode (s.modeNotice s.mode.mode s.mode.holdCause.toNat)
      if s.sessionOpen e.packet.session then s.raise 0x0004 1 0 [] pl else s.note 0x0004 1 0 [] pl
  else
    let lv := match r.path with
      | some p => levelsOf p
      | none => levelsOf e.packet.path
    s.execResult e.packet.session e.packet.sequence lv r.status late

/-- The earliest scheduled command runs at its time, or as soon as the block gets to it. -/
def State.runSched (s : State) (spec : Nat → Option OpSpec) (e : Sched) : State :=
  let s := { s with front := { s.front with sched := s.front.sched.erase e } }.reach e.due
  match spec e.opcode with
  | none => s
  | some o =>
    let c : Ctx := { op := e.opcode, p := e.packet, secure := e.secure, client := e.client, se := s.session e.packet.session, target := .root, lv := []
                     due := none, later := true }
    let r := o.execLater s c
    let st := if r.status.done || r.audit.isSome then r.st.auditCmd e.opcode e.packet e.secure e.client true r.audit else r.st
    let st := st.endSched e r
    if r.status.done then o.after st c else st

end Sys2Proof.Machine
end

