-- ==== Sys2Proof/Machine/Device.lean ====
section
/-! DEFINITION. The opcodes of group 0x00 (03_tirril_packets.md R87-R100, 02 R47-R51, R59, R61, R69): sessions, status, modes, the schedule and alerts. -/

namespace Sys2Proof.Machine

open Sys2Proof

/-! ## Reads and sessions -/

/-- A reading opcode with no parameters. -/
def readOp (k : PathKind) (body : State → Ctx → List Byte) : OpSpec :=
  { read := true, path := k, params := fun _ c => firstBad [exactLen c.params 0], run := fun s c => { st := s, body := body s c } }

/-- PING (R97). -/
def opPing : OpSpec := readOp .root fun s _ => timeBytes s.now

/-- The version of the running image, 0 in the ROM loader (R97). -/
def State.firmware (s : State) : Word :=
  match s.sec.running with
  | some b => (s.sec.slot b).fwVer
  | none => 0

/-- DEVICE_INFO (R97). -/
def opDeviceInfo : OpSpec := readOp .root fun s _ =>
  leBytes 4 (regView s 0).toNat ++ leBytes 4 (regView s 4).toNat ++ leBytes 4 s.firmware.toNat ++ leBytes 4 (regView s 0x1C).toNat

/-- STATUS_GET (R43). -/
def opStatusGet : OpSpec := readOp .unit fun s c =>
  match c.target with
  | .leaf u => leBytes 4 (regView s (statusReg u)).toNat
  | t => s.aggregate t c.lv

/-- A session's free slot. -/
def State.freeSlot (s : State) : Option (Fin 8) := (List.finRange 8).find? fun k => s.front.sessions.all fun x => x.slot != k

/-- An identifier drawn at random, not 0 and not in use (R87). -/
def freshId (used : List Word) (d : Nat) : Nat → Word
  | 0 => BitVec.ofNat 32 (d % 0xFFFFFFFF + 1)
  | fuel + 1 =>
    let w : Word := BitVec.ofNat 32 (d % 0xFFFFFFFF + 1)
    if used.contains w then freshId used (d + 1) fuel else w

/-- SESSION_OPEN (R87); the chain hears of the session. DESIGN CHOICE (log entry 25): one over a worker's own SPI port opens a session that the
worker holds itself. -/
def opSessionOpen : OpSpec :=
  { path := .device
    params := fun _ c => firstBad [exactLen c.params 8, (decide (3 < leAt c.params 4 2), 4), (decide (600 < leAt c.params 6 2), 6)]
    slots := fun s _ => if s.freeSlot.isNone then some Rej.busy else none
    run := fun s c =>
      match s.freeSlot with
      | none => { st := s, status := .busy }
      | some slot =>
        let d := s.draw
        let id := freshId (s.front.sessions.map (·.id)) d.1 8
        let n := leAt c.params 6 2
        let se : Session :=
          { slot := slot, id := id, client := leWord c.params 0, dual := (byteAt c.params 4).testBit 0, jumbo := (byteAt c.params 4).testBit 1
            timeout := if n = 0 then 10 else n, highest := none, seen := [], alertMask := 0xFFFF, alertSeq := 1, alerts := [], lostNow := 0, addr0 := none
            addr1 := none, lastPort := c.p.port, lastAddr := c.p.origin, lastAt := s.now }
        let s := d.2
        { st := ({ s with front := { s.front with sessions := s.front.sessions ++ [se] } } : State).toWorkers ctlSession (se.notice true), body := leBytes 4 id.toNat ++ timeBytes s.now
          audit := some (.params c.params) } }

/-- A transfer is aborted with its alert (R108): reason 1 timeout, 2 session closed, 3 target activated. -/
def State.abortTransfer (s : State) (t : Transfer) (reason : Nat) : State :=
  ({ s with front := { s.front with transfers := s.front.transfers.erase t } }).raise 0x0200 1 0 [] (leBytes 2 t.id ++ leBytes 2 reason)

/-- A session closes (R88): its transfers are aborted, in every device of the chain; its scheduled commands stay. -/
def State.closeSession (s : State) (id : Word) : State :=
  let gone := s.front.sessions.filter fun x => x.id == id
  let s : State := { s with front := { s.front with sessions := s.front.sessions.filter fun x => x.id != id } }
  let s := gone.foldl (fun st x => st.toWorkers ctlSession (x.notice false)) s
  (s.front.transfers.filter fun t => t.session == id).foldl (fun st t => st.abortTransfer t 2) s

/-- SESSION_CLOSE (R88): the session ends after the reply. -/
def opSessionClose : OpSpec :=
  { path := .device, params := fun _ c => firstBad [exactLen c.params 0], run := fun s c => c.done s, after := fun s c => s.closeSession c.p.session }

/-- A session's idle timeout has passed (R88). -/
def State.sessionTimeout (s : State) (slot : Fin 8) : State :=
  match s.front.sessions.find? fun x => x.slot == slot with
  | some se => (s.reach (se.lastAt + se.timeout * second)).closeSession se.id
  | none => s

/-! ## Faults and modes -/

/-- FAULT_ACK (R42). -/
def opFaultAck : OpSpec :=
  { path := .unit, sched := true, params := fun _ c => firstBad [exactLen c.params 0]
    run := fun s c => c.done ((s.leavesUnder c.target c.lv).foldl (fun st x => st.ackAny x.2.1) s) }

/-- The target of MODE_SET. -/
def modeArg (c : Ctx) : Option Mode := if c.params.isEmpty then none else modeOf (byteAt c.params 0)

/-- The mode that a MODE_SET leaves. -/
def State.moveFromMode (s : State) (c : Ctx) : Mode :=
  match c.due with
  | some d => s.predicted d
  | none => s.mode.mode

/-- Step 10 of MODE_SET (R97, R479): moves into and out of SERVICE and UPDATE are secure, and those into the four laser modes as block 0. -/
def modeWorld (s : State) (c : Ctx) : Option Nat :=
  match modeArg c with
  | none => none
  | some d =>
    if c.secure then none
    else if moveSecure (s.moveFromMode c) d then some 0
    else if s.blockS 0 && (d == .calibrate || d == .preheat || d == .recoat || d == .expose) then some 0 else none

/-- Step 11 of MODE_SET: the move is in the table; a worker's own root moves into and out of UPDATE alone (R46, R49). -/
def modeStep (s : State) (c : Ctx) (m : Mode) : Option Nat :=
  match modeArg c with
  | none => none
  | some d =>
    if moveInTable m d = false then some 1
    else if s.chain.manager = false ∧ d ≠ .update ∧ m ≠ .update then some 1 else none

/-- Step 16 of MODE_SET: a transition in progress is BUSY; the conditions of the move are checked when it executes (R48, R49). -/
def modeCheck (s : State) (c : Ctx) : Option Rej :=
  if s.mode.transition.isSome then some Rej.busy
  else if c.due.isSome then none
  else match modeArg c with
    | none => none
    | some d => let k := s.moveCause d; if k = 0 then none else some (Rej.mode k)

/-- MODE_SET (R49); a DRIVE domain that starts takes the register writes that waited for it (R25). A scheduled one is told to the workers when it is
accepted, so that every device moves at the same execute-at time (R46). -/
def opModeSet : OpSpec :=
  { sched := true, world := modeWorld, mode := modeStep, check := modeCheck
    accept := fun s c => s.toWorkers ctlPlan (planNotice (byteAt c.params 0) (c.due.getD 0) true)
    params := fun _ c => firstBad [exactLen c.params 4, ((modeArg c).isNone, 0), reservedBad c.params 1 3]
    run := fun s c => match modeArg c with
      | some d => c.done (s.makeMove d).driveClock
      | none => { st := s, status := .badParam } }

/-- HOLD (R51): the host's hold cause. -/
def opHold : OpSpec := { sched := true, params := fun _ c => firstBad [exactLen c.params 0], run := fun s c => c.done (s.holdCause 7) }

/-- SAFE (R59): the laser-safety latch is set, which is a hold cause too. -/
def opSafe : OpSpec := { sched := true, params := fun _ c => firstBad [exactLen c.params 0], run := fun s c => c.done ((s.setLaser 5).holdCause 7) }

/-- LATCH_CLEAR (R61). -/
def opLatchClear : OpSpec :=
  { world := ofBlock 0, mode := onlyIn [.config, .idle, .pause, .hold]
    params := fun _ c => firstBad [exactLen c.params 4, (decide (3 < byteAt c.params 0), 0), reservedBad c.params 1 3]
    check := fun s c => let k := s.clearCause (byteAt c.params 0); if k = 0 then none else some (Rej.mode k)
    run := fun s c => c.done (s.clearLatches (byteAt c.params 0)) }

/-- RESET (R54): a device reset after the reply. -/
def opReset : OpSpec :=
  { world := ofBlock 0, mode := onlyIn [.config, .idle, .recoat, .pause, .hold], params := fun _ c => firstBad [exactLen c.params 0]
    run := fun s c => c.done s, after := fun s _ => s.deviceReset 0x10 }

/-- SHUTDOWN (R69): BUSY while an earlier one is being carried out. -/
def opShutdown : OpSpec :=
  { sched := true, path := .manager, world := ofBlock 0, mode := onlyIn [.config, .idle, .pause, .hold]
    check := fun s _ => if s.power.closing.isSome then some Rej.busy else none
    params := fun _ c => firstBad [exactLen c.params 12, (decide (1 < leAt c.params 0 4), 0)]
    run := fun s c => c.done s
    after := fun s c => s.shutdown (if leAt c.params 0 4 = 1 then some (timeAt c.params 4) else none) }

/-! ## The schedule -/

/-- One entry of SCHEDULE_LIST (R98). -/
def Sched.entry (e : Sched) : List Byte :=
  leBytes 4 e.packet.session.toNat ++ leBytes 4 e.packet.sequence.toNat ++ leBytes 2 e.opcode ++ leBytes 2 0 ++ timeBytes e.due ++ e.packet.path

/-- SCHEDULE_LIST (R98). -/
def opScheduleList : OpSpec :=
  { read := true, params := fun _ c => firstBad [exactLen c.params 4, reservedBad c.params 2 2]
    run := fun s c =>
      let l := (s.schedule.drop (leAt c.params 0 2)).take (if c.jumbo then 291 else 49)
      { st := s, body := leBytes 2 s.front.sched.length ++ leBytes 2 l.length ++ l.flatMap Sched.entry } }

/-- The pending command that SCHEDULE_CANCEL names. -/
def State.cancelled (s : State) (c : Ctx) : Option Sched :=
  let se := if leAt c.params 0 4 = 0 then c.p.session else leWord c.params 0
  s.front.sched.find? fun e => e.packet.session == se && e.packet.sequence == leWord c.params 4 && decide (s.now < e.due)

/-- SCHEDULE_CANCEL (R94). -/
def opScheduleCancel : OpSpec :=
  { world := fun _ c => if leAt c.params 0 4 ≠ 0 ∧ leWord c.params 0 ≠ c.p.session ∧ c.secure = false then some 0 else none
    params := fun s c => firstBad [exactLen c.params 8, ((s.cancelled c).isNone, 4)]
    run := fun s c => match s.cancelled c with
      | some e => c.done (s.abortSched e)
      | none => { st := s, status := .badParam, cause := 4 } }

/-! ## Alerts (R100) -/

/-- ALERT_LOST for one session: the number lost since the last one. DESIGN CHOICE (log entry 92): it is queued whatever the session's ALERT_MASK, since it tells of
the session's own queue. -/
def State.alertLost (s : State) (slot : Fin 8) : State :=
  match s.front.sessions.find? fun x => x.slot == slot with
  | none => s
  | some se =>
    if se.lostNow = 0 ∨ 256 ≤ se.alerts.length then s
    else
      let pl := leBytes 4 se.lostNow
      let q := (s.setSession { se with lostNow := 0 }).tallyEvent 0x0008 1 0 [] pl
      q.1.queueAlert slot 0x0008 1 (tallyLow q.2) (q.1.fullPath []) q.1.now pl

/-- ALERT_MASK (R98). -/
def opAlertMask : OpSpec :=
  { path := .device, params := fun _ c => firstBad [exactLen c.params 4, reservedBad c.params 2 2]
    run := fun s c => match s.session c.p.session with
      | some se => c.done (s.setSession { se with alertMask := BitVec.ofNat 16 (leAt c.params 0 2) })
      | none => c.done s }

/-- ALERT_ACK (R98, R100): every alert up to the number is acknowledged, and an ALERT_LOST that waited for room is queued. -/
def opAlertAck : OpSpec :=
  { path := .device, params := fun _ c => firstBad [exactLen c.params 4]
    run := fun s c => match s.session c.p.session with
      | some se => c.done ((s.setSession { se with alerts := se.alerts.filter fun a => decide (leAt c.params 0 4 < a.seq) }).alertLost se.slot)
      | none => c.done s }

/-- An unacknowledged alert's 200 ms have passed: it is sent again, or dropped after its fifth retransmission. -/
def State.alertRetry (s : State) (slot : Fin 8) (seq : Word) : State :=
  match s.front.sessions.find? fun x => x.slot == slot with
  | none => s
  | some se =>
    match se.alerts.find? fun a => a.seq == seq.toNat with
    | none => s
    | some a =>
      let s := s.reach (a.sentAt + 200 * milli)
      if a.resent < 5 then
        let a' := { a with resent := a.resent + 1, sentAt := s.now }
        (s.setSession { se with alerts := se.alerts.map fun x => if x.seq = a.seq then a' else x }).sendAlert se a'
      else
        ((s.setSession { se with alerts := se.alerts.filter fun x => x.seq != a.seq, lostNow := se.lostNow + 1 }).count rAlertsLost).alertLost slot

/-! ## The meanings -/

def execPing (t : Nat) (p : Packet) (s : State) : Host.Outcome State Fault Refusal := .next (s.packet t (some opPing) 0x0000 p)
def execSessionOpen (t : Nat) (p : Packet) (s : State) : Host.Outcome State Fault Refusal := .next (s.packet t (some opSessionOpen) 0x0001 p)
def execSessionClose (t : Nat) (p : Packet) (s : State) : Host.Outcome State Fault Refusal := .next (s.packet t (some opSessionClose) 0x0002 p)
def execDeviceInfo (t : Nat) (p : Packet) (s : State) : Host.Outcome State Fault Refusal := .next (s.packet t (some opDeviceInfo) 0x0003 p)
def execStatusGet (t : Nat) (p : Packet) (s : State) : Host.Outcome State Fault Refusal := .next (s.packet t (some opStatusGet) 0x0004 p)
def execFaultAck (t : Nat) (p : Packet) (s : State) : Host.Outcome State Fault Refusal := .next (s.packet t (some opFaultAck) 0x0005 p)
def execModeSet (t : Nat) (p : Packet) (s : State) : Host.Outcome State Fault Refusal := .next (s.packet t (some opModeSet) 0x0010 p)
def execHold (t : Nat) (p : Packet) (s : State) : Host.Outcome State Fault Refusal := .next (s.packet t (some opHold) 0x0011 p)
def execSafe (t : Nat) (p : Packet) (s : State) : Host.Outcome State Fault Refusal := .next (s.packet t (some opSafe) 0x0012 p)
def execLatchClear (t : Nat) (p : Packet) (s : State) : Host.Outcome State Fault Refusal := .next (s.packet t (some opLatchClear) 0x0013 p)
def execReset (t : Nat) (p : Packet) (s : State) : Host.Outcome State Fault Refusal := .next (s.packet t (some opReset) 0x0014 p)
def execShutdown (t : Nat) (p : Packet) (s : State) : Host.Outcome State Fault Refusal := .next (s.packet t (some opShutdown) 0x0015 p)
def execScheduleList (t : Nat) (p : Packet) (s : State) : Host.Outcome State Fault Refusal := .next (s.packet t (some opScheduleList) 0x0020 p)
def execScheduleCancel (t : Nat) (p : Packet) (s : State) : Host.Outcome State Fault Refusal := .next (s.packet t (some opScheduleCancel) 0x0021 p)
def execAlertMask (t : Nat) (p : Packet) (s : State) : Host.Outcome State Fault Refusal := .next (s.packet t (some opAlertMask) 0x0030 p)
def execAlertAck (t : Nat) (p : Packet) (s : State) : Host.Outcome State Fault Refusal := .next (s.packet t (some opAlertAck) 0x0031 p)
/-- A session's timeout has passed without a packet (R88). -/
def execSessionTimeout (t : Nat) (slot : Fin 8) (s : State) : Host.Outcome State Fault Refusal := .next (s.act t fun s => s.sessionTimeout slot)
def execAlertRetransmit (t : Nat) (slot : Fin 8) (alert : Word) (s : State) : Host.Outcome State Fault Refusal :=
  .next (s.act t fun s => s.alertRetry slot alert)
def execPauseReached (t : Nat) (s : State) : Host.Outcome State Fault Refusal := .next (s.act t State.pauseReached)
def execLayerEndMove (t : Nat) (s : State) : Host.Outcome State Fault Refusal := .next (s.act t State.layerEndMove)

end Sys2Proof.Machine
end

