-- ==== Sys2Proof/Machine/Registers.lean ====
section
/-! DEFINITION. The register opcodes (03_tirril_packets.md R102-R105) and the commands that are one register access: acknowledging a fault, reading a
register that clears or latches, enabling a beam, arming a trace, changing the Grain window. -/

namespace Sys2Proof.Machine

open Sys2Proof

/-! ## Reads (R102) -/

/-- Consecutive addresses. -/
def addrsFrom (a n : Nat) : List Nat := tabulate n fun i => a + 4 * i

/-- The addresses of a REG_READ. -/
def readAddrs (c : Ctx) : List Nat := addrsFrom (leAt c.params 0 8) (leAt c.params 8 2)

/-- The addresses of a REG_READ_LIST. -/
def listAddrs (c : Ctx) : List Nat := tabulate (min (leAt c.params 0 2) 64) fun i => leAt c.params (4 + 8 * i) 8

/-- The first address that the host may not read at all (R26, R27). -/
def unreadable (l : List Nat) : Option Nat := l.find? fun a => sramAddr a && !sramRead a

/-- Whether an address can be read as a register. -/
def readable (a : Nat) : Bool := (sramAddr a && sramRead a && a % 4 == 0) || isRegister a

/-- The reads of a command: their values, with what they clear, latch and detect. -/
def State.readRegs (s : State) (l : List Nat) : Res :=
  let q := s.regReads l
  { st := q.2.memMet ((l.filter sramAddr).flatMap fun a => s.ueIn a 4), body := q.1 }

/-- The causes of a consecutive access: its address, or its count when a later address is at fault. -/
def rangeBad (ok : Nat → Bool) (a n : Nat) : Bool × Nat :=
  match (List.range n).find? fun i => !ok (a + 4 * i) with
  | some 0 => (true, 0)
  | some _ => (true, 8)
  | none => (false, 0)

/-- REG_READ (R102). -/
def opRegRead : OpSpec :=
  { read := true
    world := fun _ c => unreadable (readAddrs c)
    params := fun _ c =>
      let n := leAt c.params 8 2
      firstBad [exactLen c.params 12, (n == 0 || decide ((if c.jumbo then 2040 else 256) < n), 8), reservedBad c.params 10 2, rangeBad readable (leAt c.params 0 8) n]
    run := fun s c => s.readRegs (readAddrs c) }

/-- The first entry of a list whose address fails. -/
def listBad (ok : Nat → Bool) (l : List Nat) (off step : Nat) : Bool × Nat :=
  match l.findIdx? fun a => !ok a with
  | some i => (true, off + step * i)
  | none => (false, 0)

/-- REG_READ_LIST (R102). -/
def opRegReadList : OpSpec :=
  { read := true
    world := fun _ c => unreadable (listAddrs c)
    params := fun _ c =>
      let n := leAt c.params 0 2
      firstBad [(n == 0 || decide (64 < n), 0), exactLen c.params (4 + 8 * n), reservedBad c.params 2 2, listBad readable (listAddrs c) 4 8]
    run := fun s c => s.readRegs (listAddrs c) }

/-! ## Writes (R103, R104) -/

/-- The writes of a REG_WRITE, a REG_WRITE_LIST and a REG_MODIFY. -/
def writeOps (c : Ctx) : List RegWr :=
  tabulate (min (leAt c.params 8 2) ((c.params.length - 12) / 4)) fun i =>
    { addr := leAt c.params 0 8 + 4 * i, val := leWord c.params (12 + 4 * i), mask := allBits, causeA := if i = 0 then 0 else 8, causeV := 12 + 4 * i }
def listOps (c : Ctx) : List RegWr :=
  tabulate (min (leAt c.params 0 2) ((c.params.length - 4) / 12)) fun i =>
    { addr := leAt c.params (4 + 12 * i) 8, val := leWord c.params (12 + 12 * i), mask := allBits, causeA := 4 + 12 * i, causeV := 12 + 12 * i }
def modifyOp (c : Ctx) : List RegWr :=
  [{ addr := leAt c.params 0 8, val := leWord c.params 12, mask := leAt c.params 8 4, causeA := 0, causeV := 12 }]

/-- The first address of a command's writes that step 10 refuses. -/
def State.deniedAt (s : State) (secure : Bool) (ws : List RegWr) : Option Nat := (ws.find? fun w => s.writesDenied secure [w]).map (·.addr)

/-- The state as it will be in a mode, for the check of a mode that is not yet in force (R94). -/
def State.inMode (s : State) (m : Mode) : State := s.onMode fun c => { c with mode := m }

/-- The registers whose writes take effect after the reply to the write: PKT_CONFIG (R111), and ETH_CONFIG, ETH_IP and ETH_NETMASK (R378). -/
def afterReply (a : Nat) : Bool := a == 0x3000 || [0, 1].any fun n : Fin 2 => a == ethReg n 4 || a == ethReg n 0x10 || a == ethReg n 0x14

/-- A register-writing opcode: every check covers the whole command before any register is written. -/
def writeOp (form : State → Ctx → Option Nat) (ws : Ctx → List RegWr) : OpSpec :=
  { sched := true
    world := fun s c => s.deniedAt c.secure (ws c)
    mode := fun s c m => if (s.inMode m).writesMode (ws c) then some 1 else none
    params := fun s c => match form s c with
      | some k => some k
      | none => s.writesBad (ws c)
    check := fun s c => if s.writesBusy (ws c) then some Rej.busy else none
    run := fun s c =>
      let q := s.doWrites (ws c)
      { st := if (ws c).any fun w => afterReply w.addr then (s.doWrites ((ws c).filter fun w => !afterReply w.addr)).1 else q.1, audit := some (.regs q.2) }
    after := fun s c => if (ws c).any fun w => afterReply w.addr then (s.doWrites ((ws c).filter fun w => afterReply w.addr)).1 else s }

/-- REG_WRITE. -/
def opRegWrite : OpSpec :=
  writeOp (fun _ c =>
    let n := leAt c.params 8 2
    firstBad [minLen c.params 12, (n == 0 || decide ((if 1400 < c.params.length then 2040 else 256) < n), 8)
             , (c.params.length != 12 + 4 * n, 8), reservedBad c.params 10 2]) writeOps

/-- REG_WRITE_LIST. -/
def opRegWriteList : OpSpec :=
  writeOp (fun _ c =>
    let n := leAt c.params 0 2
    firstBad [(n == 0 || decide (64 < n), 0), exactLen c.params (4 + 12 * n), reservedBad c.params 2 2]) listOps

/-- REG_MODIFY. -/
def opRegModify : OpSpec := writeOp (fun _ c => firstBad [exactLen c.params 16]) modifyOp

/-! ## Single accesses -/

/-- The audit entry of register writes that come as an event of their own: the row names no packet, so the entry's port, session, client and sequence number
are free values (R105, log entry 33). -/
def State.eventAudit (s : State) (secure : Bool) (d : List (Nat × Word × Word)) : State :=
  let f (i : Nat) : Nat := Config.freeNat (s.draws + i)
  ({ s with draws := s.draws + 4 } : State).audit (f 0 % 4) secure false false (BitVec.ofNat 32 (f 1)) (BitVec.ofNat 32 (f 2)) (BitVec.ofNat 32 (f 3)) 0x0101
    (s.fullPath []) (.regs d)

/-- A register write as an event of its own that step 10 refuses (R103, R481). -/
def State.eventDenied (s : State) (a : Nat) : State :=
  let f (i : Nat) : Nat := Config.freeNat (s.draws + i)
  (({ s with draws := s.draws + 2 } : State).count rRxDenied).note 0x0084 1 0 []
    (leBytes 2 0x0101 ++ leBytes 1 (f 0 % 4) ++ leBytes 1 0 ++ leBytes 4 (f 1) ++ leBytes 8 a)

/-- One register write as an event of its own, under the checks of R84; a write that they refuse changes no register (log entry 33). -/
def State.eventWrite (s : State) (secure : Bool) (w : RegWr) : State :=
  if s.writesDenied secure [w] then s.eventDenied w.addr
  else if s.writesMode [w] || (s.writesBad [w]).isSome || s.writesBusy [w] then s
  else
    let q := s.doWrites [w]
    q.1.eventAudit secure q.2

/-- ACK_PENDING of a unit is written 1 (R42): its UNIT_STATUS has no S field, so the world, which the row does not name, is a free value in the audit. -/
def State.ackWrite (s : State) (u : Leaf) : State :=
  let a := statusReg u
  let r := s.ackAny u
  ({ r with draws := r.draws + 1 } : State).eventAudit (Config.freeNat r.draws % 2 == 1) [(a, regView s a, regView r a)]

/-- The write of ENABLE of a beam's MT_CONFIG (R138). -/
def State.enableWrite (s : State) (b : Fin 48) (secure on : Bool) : State :=
  s.eventWrite secure { addr := mtConfig b, val := word (bit on), mask := 1, causeA := 0, causeV := 0 }

/-- The write of TRACE_CTRL with ARM and a profile (R245). -/
def State.armWrite (s : State) (b : Fin 48) (secure : Bool) (profile : Fin 8) : State :=
  s.eventWrite secure { addr := beamReg b 0x5030, val := word (1 + 2 * profile.val), mask := allBits, causeA := 0, causeV := 0 }

/-- The registers of E_LSB, the Grain origin and the Grain size (R271, R274). -/
def grainWindowReg (a : Nat) : Bool := a == 0x04800018 || within a 0x0480001C 12

/-- The write of one of them. -/
def State.windowWrite (s : State) (secure : Bool) (a : Nat) (v : Word) : State :=
  if grainWindowReg a then s.eventWrite secure { addr := a, val := v, mask := allBits, causeA := 0, causeV := 0 } else s

/-! ## The meanings -/

def execRegRead (t : Nat) (p : Packet) (s : State) : Host.Outcome State Fault Refusal := .next (s.packet t (some opRegRead) 0x0100 p)
def execRegWrite (t : Nat) (p : Packet) (s : State) : Host.Outcome State Fault Refusal := .next (s.packet t (some opRegWrite) 0x0101 p)
def execRegModify (t : Nat) (p : Packet) (s : State) : Host.Outcome State Fault Refusal := .next (s.packet t (some opRegModify) 0x0102 p)
def execRegReadList (t : Nat) (p : Packet) (s : State) : Host.Outcome State Fault Refusal := .next (s.packet t (some opRegReadList) 0x0103 p)
def execRegWriteList (t : Nat) (p : Packet) (s : State) : Host.Outcome State Fault Refusal := .next (s.packet t (some opRegWriteList) 0x0104 p)
def execAckPendingWrite (t : Nat) (unit : Leaf) (s : State) : Host.Outcome State Fault Refusal := .next (s.act t fun s => s.ackWrite unit)
def execRefuseCauseRead (t : Nat) (s : State) : Host.Outcome State Fault Refusal := .next (s.act t fun s => (s.regRead 0x10).2)
def execVinMinRead (t : Nat) (s : State) : Host.Outcome State Fault Refusal := .next (s.act t fun s => (s.regRead 0x0B000008).2)
def execDevTimeEraRead (t : Nat) (s : State) : Host.Outcome State Fault Refusal := .next (s.act t fun s => (s.regRead 0x08801050).2)
def execMtConfigEnableWrite (t : Nat) (b : Fin 48) (secure enable : Bool) (s : State) : Host.Outcome State Fault Refusal :=
  .next (s.act t fun s => s.enableWrite b secure enable)
def execTraceArm (t : Nat) (b : Fin 48) (secure : Bool) (profile : Fin 8) (s : State) : Host.Outcome State Fault Refusal :=
  .next (s.act t fun s => s.armWrite b secure profile)
def execGrainWindowWrite (t : Nat) (secure : Bool) (address : Nat) (value : Word) (s : State) : Host.Outcome State Fault Refusal :=
  .next (s.act t fun s => s.windowWrite secure address value)

end Sys2Proof.Machine
end

