-- ==== Sys2Proof/Machine/Bulk.lean ====
section
/-! DEFINITION. Bulk transfers and memory reads (03_tirril_packets.md R106-R109, 10 R318, R324, 09 R285, 16 R486). -/

namespace Sys2Proof.Machine

open Sys2Proof

/-- The ranges of a transfer that have not been received. -/
def Transfer.missing (t : Transfer) : List (Nat × Nat) := gapsFrom 0 t.length t.got

/-! ## The kinds (R106) -/

/-- The base and length of a kind's area; a firmware slot is the one being written. -/
def State.bulkArea (s : State) (kind : Nat) : Nat × Nat :=
  match kind with
  | 1 => (halfBase (!s.layers.halfB), halfLen)
  | 2 => (0x280000000, 0x100000000)
  | 3 => (0, 48 * 0x40000)
  | 4 => ((match s.sec.find .writing with | some true => 0x1000000 | _ => 0), 0x1000000)
  | 5 => (blobBase, 0x100000)
  | 6 => (0, 4 * 1792)
  | _ => (0, 0)

/-- The world check of a kind (R106, R478, R479). -/
def kindWorld (kind : Nat) (s : State) (c : Ctx) : Option Nat :=
  match kind with
  | 1 => ofBlock 1 s c
  | 2 | 6 => ofBlock 5 s c
  | 3 | 4 | 5 => always s c
  | _ => none

def State.onFront (s : State) (f : Front → Front) : State := { s with front := f s.front }

/-- Bytes of a kind's area. -/
def State.bulkRead (s : State) (kind off n : Nat) : List Byte :=
  let a := (s.bulkArea kind).1 + off
  match kind with
  | 1 | 2 => s.readMem a n
  | 3 => Memory.reads s.front.stage a n
  | 6 => Memory.reads s.front.coefs a n
  | _ => Memory.reads s.nv a n

/-- Bytes written into a kind's area. They are not valid until their transfer closes (R106), and
stay so when it is aborted (R108). -/
def State.bulkWrite (s : State) (kind off : Nat) (bs : List Byte) : State :=
  let a := (s.bulkArea kind).1 + off
  match kind with
  | 1 | 2 => (s.hostWrites a bs).onFront fun f => { f with areaOk := cutRange a (a + bs.length) f.areaOk }
  | 3 => { s with front := { s.front with stage := Memory.writes s.front.stage a bs, stageOk := cutRange a (a + bs.length) s.front.stageOk } }
  | 6 => { s with front := { s.front with coefs := Memory.writes s.front.coefs a bs, coefOk := cutRange a (a + bs.length) s.front.coefOk } }
  | 5 => { s with nv := Memory.writes s.nv a bs, blobOk := cutRange off (off + bs.length) s.blobOk }
  | _ => { s with nv := Memory.writes s.nv a bs }

/-- The surface within which a range of the surfaces region lies (R318). -/
def State.surfaceOf (s : State) (off n : Nat) : Option Nat :=
  (List.range 64).find? fun i =>
    let f := s.surface i
    f.size != 0 && decide (f.addr ≤ 0x280000000 + off) && decide (0x280000000 + off + n ≤ f.addr + f.size)

/-! ## Opening (R106) -/

/-- An identifier that no open transfer has. -/
def freeXfer (l : List Transfer) (n : Nat) : Nat → Nat
  | 0 => n
  | fuel + 1 => if l.any fun t => t.id == n then freeXfer l (n % 0xFFFF + 1) fuel else n

/-- BULK_OPEN. -/
def opBulkOpen : OpSpec :=
  { world := fun s c => kindWorld (byteAt c.params 0) s c
    params := fun s c =>
      let kind := byteAt c.params 0
      let off := leAt c.params 4 8
      let n := leAt c.params 12 4
      let len := (s.bulkArea kind).2
      firstBad [exactLen c.params 20, (kind == 0 || decide (6 < kind), 0), reservedBad c.params 1 3, (off % 4 != 0 || decide (len < off), 4)
               , (n % 4 != 0 || decide (len < off + n) || (kind == 2 && (s.surfaceOf off n).isNone), 12)]
    slots := fun s c =>
      if 16 ≤ s.front.transfers.length ∨ 4 ≤ (s.front.transfers.filter fun t => t.session == c.p.session).length then some Rej.busy else none
    check := fun s c =>
      match byteAt c.params 0 with
      | 2 => match s.surfaceOf (leAt c.params 4 8) (leAt c.params 12 4) with
        | some i => if s.isShown i then some Rej.busy else none
        | none => none
      | 4 => if (s.sec.find .writing).isNone then some (Rej.mode 1) else none
      | _ => none
    run := fun s c =>
      let kind := byteAt c.params 0
      let id := freeXfer s.front.transfers s.front.nextXfer 17
      let t : Transfer := { id := id, session := c.p.session, kind := kind, offset := leAt c.params 4 8, length := leAt c.params 12 4
                            crc := leWord c.params 16, got := [], secure := c.secure, lastAt := s.now }
      let s := s.onFront fun f => { f with transfers := f.transfers ++ [t], nextXfer := id % 0xFFFF + 1 }
      { st := if kind = 1 then s.onLayers fun l => { l with inactive := .empty, inactPkg := none } else s, body := leBytes 2 id } }

/-! ## Chunks, closing and status (R107, R108) -/

/-- The transfer that a command names: one of its own session. -/
def State.named (s : State) (c : Ctx) : Option Transfer :=
  (s.transfer (leAt c.params 0 2)).bind fun t => if t.session = c.p.session then some t else none

/-- Step 10 by the transfer's kind. -/
def xferWorld (s : State) (c : Ctx) : Option Nat :=
  match s.transfer (leAt c.params 0 2) with
  | some t => kindWorld t.kind s c
  | none => none

/-- An open transfer replaced by its number. -/
def State.setTransfer (s : State) (t : Transfer) : State :=
  s.onFront fun f => { f with transfers := f.transfers.map fun x => if x.id = t.id then t else x }

/-- A packet for a transfer has come. -/
def State.xferSeen (s : State) (t : Transfer) : State := s.setTransfer { t with lastAt := s.now }

/-- BULK_DATA: BUSY while the packet buffers are more than 90 % full (R107). DESIGN CHOICE (log entry 51): one that is refused does not restart the 10 s
of its transfer (R108). -/
def opBulkData : OpSpec :=
  { world := xferWorld
    params := fun s c =>
      let off := leAt c.params 4 4
      firstBad [minLen c.params 8, ((s.named c).isNone, 0), reservedBad c.params 2 2
               , (off % 4 != 0 || (match s.named c with | some t => decide (t.length < off + (c.params.length - 8)) | none => false), 4)]
    slots := fun s _ => if 9 * bufRoom < 10 * s.bufBytes then some Rej.busy else none
    run := fun s c => match s.named c with
      | none => { st := s, status := .badParam }
      | some t =>
        let off := leAt c.params 4 4
        let bs := c.params.drop 8
        { st := (s.bulkWrite t.kind (t.offset + off) bs).setTransfer { t with got := addRange off (off + bs.length) t.got, lastAt := s.now } } }

/-- The parameters of the other opcodes: an identifier and 2 bytes of 0. -/
def xferParams (s : State) (c : Ctx) : Option Nat := firstBad [exactLen c.params 4, ((s.named c).isNone, 0), reservedBad c.params 2 2]

/-- A transfer leaves the list of open ones. -/
def State.dropXfer (s : State) (t : Transfer) : State := s.onFront fun f => { f with transfers := f.transfers.filter fun x => x.id != t.id }

/-- A whole transfer becomes valid. -/
def State.xferDone (s : State) (t : Transfer) : State :=
  let s := s.dropXfer t
  match t.kind with
  | 1 | 2 =>
    let a := (s.bulkArea t.kind).1 + t.offset
    s.onFront fun f => { f with areaOk := addRange a (a + t.length) f.areaOk }
  | 5 => { s with blobOk := addRange t.offset (t.offset + t.length) s.blobOk }
  | 3 => s.onFront fun f => { f with stageOk := addRange t.offset (t.offset + t.length) f.stageOk }
  | 6 => s.onFront fun f => { f with coefOk := addRange t.offset (t.offset + t.length) f.coefOk }
  | _ => s

/-- BULK_CLOSE. -/
def opBulkClose : OpSpec :=
  { world := xferWorld, params := xferParams
    run := fun s c => match s.named c with
      | none => { st := s, status := .badParam }
      | some t => match t.missing with
        | g :: _ => { st := s.xferSeen t, status := .incomplete, value := g.1 }
        | [] =>
          -- the data is read for its CRC, with the errors that the read meets (R527)
          let ok := crc32c (s.bulkRead t.kind t.offset t.length) == t.crc
          let s := s.memMet (if t.kind = 1 ∨ t.kind = 2 then s.ueIn ((s.bulkArea t.kind).1 + t.offset) t.length else [])
          if ok = false then { st := s.xferSeen t, status := .crc }
          else { st := s.xferDone t, audit := some (.bulk t.kind t.offset t.length t.crc) } }

/-- BULK_ABORT. -/
def opBulkAbort : OpSpec :=
  { world := xferWorld, params := xferParams
    run := fun s c => match s.named c with
      | none => { st := s, status := .badParam }
      | some t => { st := s.dropXfer t } }

/-- BULK_STATUS. -/
def opBulkStatus : OpSpec :=
  { read := true, params := xferParams
    run := fun s c => match s.named c with
      | none => { st := s, status := .badParam }
      | some t =>
        let gs := t.missing
        { st := s.xferSeen t, body := leBytes 2 (min gs.length 64) ++ leBytes 1 (bit (decide (64 < gs.length))) ++ leBytes 1 0
            ++ (gs.take 64).flatMap fun g => leBytes 4 g.1 ++ leBytes 4 (g.2 - g.1) } }

/-- A transfer has had no packet for 10 s (R108). -/
def State.bulkTimeout (s : State) (id : Nat) : State :=
  match s.transfer id with
  | some t => (s.reach (t.lastAt + 10 * second)).abortTransfer t 1
  | none => s

/-! ## BULK_READ (R109) -/

/-- The regions that the host may not read, as first address and end (R26, R28). -/
def closedRegions : List (Nat × Nat) :=
  [(0x10000000, 0x11000000), (0x12A00000, 0x12E00000), (0x13AA0000, 0x14000000), (0x480000000, 0x4C0000000), (0x4C0000000, 0x500000000)]

/-- The regions that it may. -/
def openRegions : List (Nat × Nat) :=
  [(0x11000000, 0x11C00000), (0x11C00000, 0x12400000), (0x12400000, 0x12A00000), (0x12E00000, 0x13000000), (0x13000000, 0x13100000)
  , (0x13100000, 0x13AA0000), (0x100000000, 0x200000000), (0x200000000, 0x280000000), (0x280000000, 0x380000000), (0x380000000, 0x480000000)]

/-- BULK_READ. -/
def opBulkRead : OpSpec :=
  { read := true
    world := fun _ c =>
      let a := leAt c.params 0 8
      let n := max 1 (leAt c.params 8 4)
      if closedRegions.any fun r => decide (a < r.2) && decide (r.1 < a + n) then some a else none
    params := fun _ c =>
      let a := leAt c.params 0 8
      let n := leAt c.params 8 4
      let has (r : Nat × Nat) (n : Nat) : Bool := decide (r.1 ≤ a) && decide (a + n ≤ r.2)
      firstBad [exactLen c.params 12, (!(openRegions.any fun r => has r 1), 0)
               , (n % 4 != 0 || n == 0 || decide ((if c.jumbo then 8176 else 1384) < n) || !(openRegions.any fun r => has r n), 8)]
    run := fun s c => let q := s.hostReads (leAt c.params 0 8) (leAt c.params 8 4); { st := q.2, body := q.1 } }

/-! ## The meanings -/

def execBulkOpen (t : Nat) (p : Packet) (s : State) : Host.Outcome State Fault Refusal := .next (s.packet t (some opBulkOpen) 0x0200 p)
def execBulkData (t : Nat) (p : Packet) (s : State) : Host.Outcome State Fault Refusal := .next (s.packet t (some opBulkData) 0x0201 p)
def execBulkClose (t : Nat) (p : Packet) (s : State) : Host.Outcome State Fault Refusal := .next (s.packet t (some opBulkClose) 0x0202 p)
def execBulkAbort (t : Nat) (p : Packet) (s : State) : Host.Outcome State Fault Refusal := .next (s.packet t (some opBulkAbort) 0x0203 p)
def execBulkStatus (t : Nat) (p : Packet) (s : State) : Host.Outcome State Fault Refusal := .next (s.packet t (some opBulkStatus) 0x0204 p)
def execBulkRead (t : Nat) (p : Packet) (s : State) : Host.Outcome State Fault Refusal := .next (s.packet t (some opBulkRead) 0x0205 p)
def execBulkTimeout (t : Nat) (id : BitVec 16) (s : State) : Host.Outcome State Fault Refusal := .next (s.act t fun s => s.bulkTimeout id.toNat)

end Sys2Proof.Machine
end

