-- ==== Sys2Proof/Machine/Jobs.lean ====
section
/-! DEFINITION. The opcodes of group 0x03 (05_kerf_exposure.md R162-R164, R183, R184, 02 R66, R67): jobs, packages and the active layer. -/

namespace Sys2Proof.Machine

open Sys2Proof

/-! ## Jobs (R164) -/

/-- JOB_BEGIN: the generation is newer than the last job's, or that of the interrupted job. Another generation than RESUME_INFO.JOB_GEN gives
up the resume point (R66). -/
def opJobBegin : OpSpec :=
  { sched := true, world := ofBlock 1, mode := onlyIn [.config, .idle]
    params := fun s c =>
      let g : BitVec 16 := BitVec.ofNat 16 (leAt c.params 0 2)
      let ok := (match s.layers.lastGen with | none => true | some h => newerGen g h) || (s.resume.valid && s.resume.jobGen == g)
      firstBad [exactLen c.params 4, (!ok, 0), reservedBad c.params 2 2]
    check := fun s _ => if s.layers.jobOpen then some Rej.busy else none
    run := fun s c =>
      let g : BitVec 16 := BitVec.ofNat 16 (leAt c.params 0 2)
      let s := s.onLayers fun l => { l with jobOpen := true, jobGen := g, lastGen := some g }
      c.done (if g = s.resume.jobGen then s else s.clearResume) }

/-- JOB_END. -/
def opJobEnd : OpSpec :=
  { sched := true, world := ofBlock 1, mode := onlyIn [.config, .idle, .recoat], params := fun _ c => firstBad [exactLen c.params 0]
    run := fun s c => c.done (s.onLayers fun l => { l with jobOpen := false }) }

/-! ## Packages (R162, R163) -/

/-- Whether a transfer into the inactive half is open (R106). -/
def State.halfOpen (s : State) : Bool := s.front.transfers.any fun t => t.kind == 1

/-- LAYER_DECLARE: the check of the inactive half starts. A header that no closed transfer wrote does not count, and has no length (R106). -/
def opLayerDeclare : OpSpec :=
  { world := ofBlock 1
    params := fun s c =>
      firstBad [exactLen c.params 8, (leAt c.params 0 4 != (s.readPkg (halfBase (!s.layers.halfB))).length || !s.halfCovers 64, 0), reservedBad c.params 4 4]
    slots := fun s _ => if s.halfOpen || s.layers.inactive == .checking then some Rej.busy else none
    run := fun s c =>
      let s := s.memMet (s.ueIn (halfBase (!s.layers.halfB)) 64)
      c.done (s.onLayers fun l => { l with inactive := .checking, inactPkg := none }) }

/-- LAYER_CHECKED: the check has read the whole package, with the errors that it met (R162, R527). -/
def State.packageChecked (s : State) : State :=
  if s.layers.inactive = .checking then
    let base := halfBase (!s.layers.halfB)
    s.layerChecked.memMet (s.ueIn base (s.readPkg base).length)
  else s

/-- Whether the inactive half can be activated (R163). -/
def State.canActivate (s : State) : Bool :=
  s.layers.inactive == .valid && s.layers.jobOpen && (match s.layers.inactPkg with
    | some p => p.jobGen == s.layers.jobGen && s.pkgFits p
    | none => false)

/-- LAYER_ACTIVATE. -/
def opLayerActivate : OpSpec :=
  { sched := true, world := ofBlock 1, mode := onlyIn [.config, .idle, .calibrate, .recoat], params := fun _ c => firstBad [exactLen c.params 0]
    slots := fun s _ => if s.halfOpen then some Rej.busy else none
    check := fun s _ => if s.canActivate then none else some (Rej.mode 6)
    run := fun s c =>
      let s := s.activate
      { c.done s with body := leBytes 1 (bit s.layers.halfB) ++ leBytes 3 0 } }

/-! ## LAYER_RESUME (R66, R67, R201) -/

/-- The index of the main record at which a beam continues. -/
def Resume.nextOf (r : Resume) (b : Fin 48) : Nat :=
  let w := r.index.getD b.val 0xFFFFFFFF
  if w = 0xFFFFFFFF then 0 else w.toNat + 1

/-- Whether a beam of a package has records left at the resume point. -/
def State.recordsLeft (s : State) (p : Pkg) (b : Fin 48) : Bool :=
  decide (s.resume.nextOf b < (p.beam b.val).mainCount)
    || s.layers.sticks.zipIdx.any fun x => x.1.eligible.getLsbD b.val && !s.resume.sticks.getLsbD x.2

/-- The first failing condition of LAYER_RESUME in the order of REFUSE_CAUSE (R48), 0 when it is accepted. -/
def State.resumeCause (s : State) : Nat :=
  match s.layers.activePkg with
  | none => 6
  | some p =>
    if (maskBeams p.beamMask).any fun b => s.recordsLeft p b && (s.scribe b).table != .loaded then 5
    else if s.resume.valid && p.layer == s.resume.layer && p.jobGen == s.resume.jobGen then 0
    else 6

/-- The active layer stands where the resume block says: the sticks whose bits are set are DONE, and each beam stops before its next record. -/
def State.takeResume (s : State) : State :=
  match s.layers.activePkg with
  | none => s
  | some p =>
    let r := s.resume
    let s := s.clearResume.onLayers fun l => { l with
      active := .paused, mainBegun := true, resumed := true, uncovered := [], mainUncov := false, sentDone := false
      sticks := l.sticks.zipIdx.map fun x => { x.1 with state := if r.sticks.getLsbD x.2 then .done else .free, owner := none, grants := 0 } }
    beams.foldl (fun st b =>
      if p.beamMask.getLsbD b.val then
        let st := st.setReg (kfLastDone b) (r.index.getD b.val 0xFFFFFFFF)
        let st := st.onKerf b fun k => { initKerf with
          engine := .stopped, pos := k.pos, raw := k.raw, coast := k.coast, frontier := k.frontier, tagSentAt := k.tagSentAt, tagMerged := k.tagMerged, onNs := k.onNs }
        st.rewind b (r.nextOf b)
      else st) s

/-- LAYER_RESUME. -/
def opLayerResume : OpSpec :=
  { world := ofBlock 1, mode := onlyIn [.idle], params := fun _ c => firstBad [exactLen c.params 0]
    check := fun s _ => if s.resumeCause = 0 then none else some (Rej.mode s.resumeCause)
    run := fun s c => c.done (s.takeResume.enterMode .pause 0) }

/-! ## LAYER_STATUS and LAYER_ABORT (R183, R184) -/

/-- One beam's 16 bytes of LAYER_STATUS. -/
def State.beamProgress (s : State) (b : Fin 48) : List Byte :=
  let k := s.kerf b
  let last := s.reg (kfLastDone b)
  let all := ((s.layers.activePkg.map fun p => (p.beam b.val).mainCount)).getD 0
  let left := if last = 0xFFFFFFFF then all else all - (last.toNat + 1)
  leBytes 1 k.shown ++ leBytes 1 (bit k.held + 2 * bit k.starved + 4 * bit (s.stickInUse b).isSome) ++ leBytes 2 (((s.stickInUse b).map (·.1)).getD 0xFFFF)
    ++ leBytes 4 last.toNat ++ leBytes 4 left ++ leBytes 4 (s.reg (kfTag b)).toNat

/-- LAYER_STATUS. -/
def opLayerStatus : OpSpec := readOp .root fun s _ =>
  let p := s.layers.activePkg
  leBytes 1 s.layers.active.code ++ leBytes 1 s.layers.inactive.code ++ leBytes 2 ((p.map fun p => p.jobGen.toNat).getD 0) ++ leBytes 4 s.layerNo
    ++ leBytes 2 s.layers.sticks.length ++ leBytes 2 s.layers.doneCount ++ timeBytes s.layers.layerStart ++ beams.flatMap s.beamProgress

/-- LAYER_ABORT: a COMPLETE layer becomes ABANDONED too; with no layer active there is none to abandon. -/
def opLayerAbort : OpSpec :=
  { sched := true, world := ofBlock 1, mode := onlyIn [.idle, .pause, .hold], params := fun _ c => firstBad [exactLen c.params 0]
    run := fun s c =>
      let s := s.abandon
      let s : State := if s.layers.active = .complete then s.onLayers fun l => { l with active := .abandoned } else s
      c.done (if s.mode.mode = .idle then s else s.enterMode .idle 0) }

/-! ## The meanings -/

def execJobBegin (t : Nat) (p : Packet) (s : State) : Host.Outcome State Fault Refusal := .next (s.packet t (some opJobBegin) 0x0300 p)
def execJobEnd (t : Nat) (p : Packet) (s : State) : Host.Outcome State Fault Refusal := .next (s.packet t (some opJobEnd) 0x0301 p)
def execLayerDeclare (t : Nat) (p : Packet) (s : State) : Host.Outcome State Fault Refusal := .next (s.packet t (some opLayerDeclare) 0x0302 p)
def execLayerChecked (t : Nat) (s : State) : Host.Outcome State Fault Refusal := .next (s.act t State.packageChecked)
def execLayerActivate (t : Nat) (p : Packet) (s : State) : Host.Outcome State Fault Refusal := .next (s.packet t (some opLayerActivate) 0x0303 p)
def execLayerResume (t : Nat) (p : Packet) (s : State) : Host.Outcome State Fault Refusal := .next (s.packet t (some opLayerResume) 0x0304 p)
def execLayerStatus (t : Nat) (p : Packet) (s : State) : Host.Outcome State Fault Refusal := .next (s.packet t (some opLayerStatus) 0x0305 p)
def execLayerAbort (t : Nat) (p : Packet) (s : State) : Host.Outcome State Fault Refusal := .next (s.packet t (some opLayerAbort) 0x0306 p)

end Sys2Proof.Machine
end

