-- ==== Sys2Proof/Machine/Ports.lean ====
section
/-! DEFINITION. The opcodes of group 0x04 (04_beam_ports.md R138-R141) and what happens at the ports of a beam and in its Kerf engine: frames, lock,
checks, inputs, raster sync, the scanner tick, fetches and completed records. -/

namespace Sys2Proof.Machine

open Sys2Proof

/-! ## Commands that write registers of each of their leaves -/

/-- A list of whole-register writes: addresses with values, and the offset in the parameters that each value comes from. -/
def leafWrites (l : List (Nat × Word × Nat)) : List RegWr :=
  l.map fun x => { addr := x.1, val := x.2.1, mask := allBits, causeA := x.2.2, causeV := x.2.2 }

/-- The check of such writes: ranges, then what is under way. -/
def State.writesOk (s : State) (ws : List RegWr) : Option Rej :=
  match s.writesBad ws with
  | some k => some (Rej.param k)
  | none => if s.writesBusy ws then some Rej.busy else none

/-! ## Group 0x04 -/

/-- A beam's leaf. -/
def isBeam : Leaf → Bool
  | .beam _ => true
  | _ => false

/-- The beam of a leaf; another leaf does not reach a command of this group. -/
def leafBeam : Leaf → Fin 48
  | .beam n => n
  | _ => 0

/-- The modes of BEAM_ENABLE and BEAM_DISABLE (R138). -/
def enableModes : List Mode := [.config, .idle, .pause, .hold]

/-- BEAM_ENABLE. -/
def opBeamEnable : OpSpec :=
  { sched := true, path := .fan isBeam false, world := ofBlock 2, mode := onlyIn enableModes, params := fun _ c => firstBad [exactLen c.params 0]
    leafRun := fun s _ u => (s.enableBeam (leafBeam u), []) }

/-- BEAM_DISABLE. -/
def opBeamDisable : OpSpec :=
  { sched := true, path := .fan isBeam false, world := ofBlock 2, mode := onlyIn enableModes, params := fun _ c => firstBad [exactLen c.params 0]
    leafRun := fun s _ u => (s.disableBeam (leafBeam u), []) }

/-- The set numbers of a PARAM_SET_LOAD with their offsets in its parameters. -/
def loadedSets (c : Ctx) : List (Nat × Nat) := tabulate (min (leAt c.params 2 2) 63) fun i => (leAt c.params 0 2 + i, 4 + 128 * i)

/-- The writes of a PARAM_SET_LOAD to one beam. -/
def setWrites (c : Ctx) (b : Fin 48) : List RegWr :=
  (loadedSets c).flatMap fun x => leafWrites (tabulate 32 fun k => (beamReg b (0x8000 + 0x80 * x.1 + 4 * k), leWord c.params (x.2 + 4 * k), x.2))

/-- PARAM_SET_LOAD (R140, R160, R161): 10 sets fit a standard packet. -/
def opParamSetLoad : OpSpec :=
  { sched := true, path := .fan isBeam false, world := ofBlock 1
    params := fun _ c =>
      let n := leAt c.params 2 2
      let bad := ((loadedSets c).filterMap fun x => (psetBad ((c.params.drop x.2).take 128)).map fun k => x.2 + k).head?
      firstBad [minLen c.params 4, (decide (255 < leAt c.params 0 2), 0), (n == 0 || decide (63 < n) || decide (256 < leAt c.params 0 2 + n), 2)
               , exactLen c.params (4 + 128 * n), (bad.isSome, bad.getD 0)]
    leafOk := fun s c u => s.writesOk (setWrites c (leafBeam u))
    leafRun := fun s c u => ((s.doWrites (setWrites c (leafBeam u))).1, []) }

/-- A beam's entry of BEAM_STATUS (R140). -/
def State.beamStatus (s : State) (b : Fin 48) : List Byte :=
  [0x0000, 0x1008, 0x200C, 0x100C, 0x1010, 0x1014, 0x1018, 0x101C, 0x1020, 0x600C].flatMap fun off =>
    leBytes 4 (if off = 0x600C ∧ s.isRaster b = false then 0 else (regView s (beamReg b off)).toNat)

/-- BEAM_STATUS. -/
def opBeamStatus : OpSpec :=
  { read := true, path := .fan isBeam false, params := fun _ c => firstBad [exactLen c.params 0], most := fun c => if c.jumbo then 204 else 34
    leafRun := fun s _ u => (s, s.beamStatus (leafBeam u)) }

/-- LASER_SAFETY_SET. -/
def opLaserSafetySet : OpSpec :=
  { path := .fan isBeam false, world := always, mode := onlyIn [.config, .idle], params := fun _ c => firstBad [exactLen c.params 4]
    leafRun := fun s c u => ((s.doWrites (leafWrites [(beamReg (leafBeam u) 0x201C, leWord c.params 0, 0)])).1, []) }

/-- Whether a value lies in the s24 range. -/
def isS24 (v : Int) : Bool := decide (-8388608 ≤ v) && decide (v ≤ 8388607)

/-- SCANNER_JOG. -/
def opScannerJog : OpSpec :=
  { path := .fan isBeam false, world := ofBlock 2, mode := onlyIn [.service]
    params := fun _ c =>
      firstBad [exactLen c.params 16, (!isS24 (leS32 c.params 0), 0), (!isS24 (leS32 c.params 4), 4), (!isS24 (leS32 c.params 8), 8)
               , (leAt c.params 12 4 == 0 || decide (65535 < leAt c.params 12 4), 12)]
    leafOk := fun s _ u => if s.rxLock (leafBeam u) then none else some Rej.noUnit
    leafRun := fun s c u =>
      ((s.onChan (leafBeam u) fun ch => { ch with jog := some (leS32 c.params 0, leS32 c.params 4, leS32 c.params 8, leAt c.params 12 4) }).fanMark c u, []) }

/-! ## The meanings -/

def execBeamEnable (t : Nat) (p : Packet) (s : State) : Host.Outcome State Fault Refusal := .next (s.packet t (some opBeamEnable) 0x0400 p)
def execBeamDisable (t : Nat) (p : Packet) (s : State) : Host.Outcome State Fault Refusal := .next (s.packet t (some opBeamDisable) 0x0401 p)
def execParamSetLoad (t : Nat) (p : Packet) (s : State) : Host.Outcome State Fault Refusal := .next (s.packet t (some opParamSetLoad) 0x0402 p)
def execBeamStatus (t : Nat) (p : Packet) (s : State) : Host.Outcome State Fault Refusal := .next (s.packet t (some opBeamStatus) 0x0403 p)
def execLaserSafetySet (t : Nat) (p : Packet) (s : State) : Host.Outcome State Fault Refusal := .next (s.packet t (some opLaserSafetySet) 0x0404 p)
def execScannerJog (t : Nat) (p : Packet) (s : State) : Host.Outcome State Fault Refusal := .next (s.packet t (some opScannerJog) 0x0405 p)
def execJogDone (t : Nat) (b : Fin 48) (s : State) : Host.Outcome State Fault Refusal := .next (s.beamAct t fun s => s.jogDone b)
/-- An attachment check starts the beam's clock while BEAM is gated, and writes that waited for it are applied (R25, R120). -/
def State.runCheck (s : State) (b : Fin 48) (locked rdy alm : Bool) : State :=
  (if s.beamEnabled b && s.unitState (.beam b) == stAbsent then s.beamClock else s).attachCheck b locked rdy alm

/-- The port clock also runs for an attachment check while BEAM is gated (R120). -/
def execReturnFrame (t : Nat) (b : Fin 48) (frame : BitVec 50) (s : State) : Host.Outcome State Fault Refusal := .next (s.act t fun s => s.returnFrame b frame)
def execReturnLinkLock (t : Nat) (b : Fin 48) (tap : BitVec 6) (s : State) : Host.Outcome State Fault Refusal :=
  .next (s.act t fun s => s.returnLock b tap.toNat)
def execLockTimeout (t : Nat) (b : Fin 48) (s : State) : Host.Outcome State Fault Refusal := .next (s.beamAct t fun s => s.lockTimeout b)
def execAttachmentCheck (t : Nat) (b : Fin 48) (locked rdy alm : Bool) (s : State) : Host.Outcome State Fault Refusal :=
  .next (s.act t fun s => s.runCheck b locked rdy alm)
def execLinkEscalation (t : Nat) (b : Fin 48) (s : State) : Host.Outcome State Fault Refusal := .next (s.beamAct t fun s => s.linkEscalation b)
def execScannerTracking (t : Nat) (b : Fin 48) (s : State) : Host.Outcome State Fault Refusal := .next (s.beamAct t fun s => s.trackFail b)
def execAlmActive (t : Nat) (b : Fin 48) (s : State) : Host.Outcome State Fault Refusal := .next (s.act t fun s => s.almActive b)
def execAlmInactive (t : Nat) (b : Fin 48) (s : State) : Host.Outcome State Fault Refusal := .next (s.act t fun s => s.almInactive b)
def execRdyInactive (t : Nat) (b : Fin 48) (s : State) : Host.Outcome State Fault Refusal := .next (s.act t fun s => s.rdyInactive b)
def execRdyActive (t : Nat) (b : Fin 48) (s : State) : Host.Outcome State Fault Refusal := .next (s.act t fun s => s.rdyActive b)
def execRdyGraceEnd (t : Nat) (b : Fin 48) (s : State) : Host.Outcome State Fault Refusal := .next (s.beamAct t fun s => s.rdyGraceEnd b)
def execFacetEdge (t : Nat) (b : Fin 48) (stamp : Nat) (s : State) : Host.Outcome State Fault Refusal := .next (s.driveAct t fun s => s.facetEdge b stamp)
def execRasterLock (t : Nat) (b : Fin 48) (s : State) : Host.Outcome State Fault Refusal := .next (s.driveAct t fun s => s.rasterLock b)
def execRasterSyncLoss (t : Nat) (b : Fin 48) (s : State) : Host.Outcome State Fault Refusal := .next (s.driveAct t fun s => s.rasterLoss b)
def execRasterLossLimit (t : Nat) (b : Fin 48) (s : State) : Host.Outcome State Fault Refusal := .next (s.beamAct t fun s => s.rasterLimit b)
def execFifoRefill (t : Nat) (b : Fin 48) (count : Nat) (s : State) : Host.Outcome State Fault Refusal := .next (s.act t fun s => s.refill b count)
/-- A record completes (R177), which may end the layer or the preheat streams (R181, R182). -/
def execRecordComplete (t : Nat) (b : Fin 48) (s : State) : Host.Outcome State Fault Refusal :=
  .next (s.beamAct t fun s => s.endsLayer fun s => ((s.recordComplete b).completeLayer).preheatDone)
def execScannerTick (t : Nat) (s : State) : Host.Outcome State Fault Refusal := .next (s.act t State.scannerTick)

end Sys2Proof.Machine
end

