-- ==== Sys2Proof/Machine/Overlap.lean ====
section
/-! DEFINITION. The opcodes of group 0x05 (06_truss_overlap.md R207, R213, R214) and the events of Truss in one device. -/

namespace Sys2Proof.Machine

open Sys2Proof

/-! ## Rules, territories and the gas flow -/

/-- The mode check of writes, in a mode that may not be in force yet. -/
def modeWrites (ws : Ctx → List RegWr) (s : State) (c : Ctx) (m : Mode) : Option Nat := if (s.inMode m).writesMode (ws c) then some 1 else none

/-- The writes of a command without leaves, audited with its parameters. -/
def runWrites (ws : Ctx → List RegWr) (s : State) (c : Ctx) : Res := c.done (s.doWrites (ws c)).1

/-- The writes of TRUSS_CONFIG. -/
def trussWrites (c : Ctx) : List RegWr :=
  leafWrites [(0x04000004, leWord c.params 0, 0), (0x04000008, leWord c.params 4, 4)]
    ++ [{ addr := 0x04000000, val := leWord c.params 8, mask := 7, causeA := 8, causeV := 8 }]

/-- TRUSS_CONFIG. -/
def opTrussConfig : OpSpec :=
  { sched := true, world := ofBlock 3, mode := modeWrites trussWrites
    params := fun _ c =>
      firstBad [exactLen c.params 12, (decide (10000000 < leAt c.params 0 4), 0), (decide (8000 < leAt c.params 4 2), 4)
               , (decide (1000 < leAt c.params 6 2), 6), (decide (7 < leAt c.params 8 4), 8)]
    run := runWrites trussWrites }

/-- The rectangles of TERRITORY_LOAD: their offsets in the parameters, four for each beam. -/
def rectOffs (c : Ctx) : List Nat := tabulate (4 * min (byteAt c.params 1) 48) fun i => 4 + 16 * i

/-- Its writes. -/
def territoryWrites (c : Ctx) : List RegWr :=
  leafWrites ((rectOffs c).flatMap fun off => tabulate 4 fun k => (0x04001000 + 0x40 * byteAt c.params 0 + off - 4 + 4 * k, leWord c.params (off + 4 * k), off + 4 * k))

/-- The offset of the field with which a rectangle's minimum exceeds its maximum (R213, R86). -/
def rectBad (c : Ctx) (off : Nat) : Option Nat :=
  let v (k : Nat) : Int := leS32 c.params (off + 4 * k)
  if v 2 < v 0 then some (off + 8) else if v 3 < v 1 then some (off + 12) else none

/-- TERRITORY_LOAD: 21 beams fit a standard packet. -/
def opTerritoryLoad : OpSpec :=
  { world := ofBlock 3, mode := onlyIn [.config, .idle, .calibrate, .recoat]
    params := fun _ c =>
      let n := byteAt c.params 1
      let bad := (rectOffs c).filterMap (rectBad c)
      firstBad [minLen c.params 4, (decide (47 < byteAt c.params 0), 0), (n == 0 || decide (48 < byteAt c.params 0 + n), 1), exactLen c.params (4 + 64 * n), reservedBad c.params 2 2,
        (!bad.isEmpty, bad.headD 0)]
    check := fun s _ => if s.layerLive then some Rej.busy else none
    run := runWrites territoryWrites }

/-- The writes of GASFLOW_SET. -/
def gasWrites (c : Ctx) : List RegWr :=
  leafWrites [(0x0400000C, word (leAt c.params 2 2 + 65536 * byteAt c.params 0 + 1048576 * byteAt c.params 1), 0), (0x04000010, leWord c.params 8, 8)
             , (0x04000014, word (leAt c.params 4 2), 4)]

/-- GASFLOW_SET. -/
def opGasflowSet : OpSpec :=
  { sched := true, world := ofBlock 3
    params := fun s c =>
      let src := byteAt c.params 0
      firstBad [exactLen c.params 12, (decide (2 < src) || (src != 0 && (s.gasTable.isEmpty || !rising s.gasTable)), 0), (decide (15 < byteAt c.params 1), 1)
               , (decide (35999 < leAt c.params 2 2), 2), (decide (1000 < leAt c.params 4 2), 4), reservedBad c.params 6 2
               , (decide (50000000 < leAt c.params 8 4), 8)]
    run := runWrites gasWrites }

/-! ## Status -/

/-- One beam's 8 bytes of TRUSS_STATUS. -/
def State.trussEntry (s : State) (b : Fin 48) : List Byte :=
  let k := s.kerf b
  leBytes 4 ((k.waitSince.map fun t => min ((s.now - t) / micro) 0xFFFFFFFF).getD 0) ++ leBytes 2 (min k.refusals 0xFFFF) ++ leBytes 2 (min k.sticks 0xFFFF)

/-- TRUSS_STATUS. -/
def opTrussStatus : OpSpec := readOp .root fun s _ =>
  leBytes 4 (regView s 0x04000020).toNat ++ leBytes 8 s.heldMask ++ leBytes 1 (beams.filter fun b => (s.kerf b).held).length ++ leBytes 1 s.truss.token
    ++ leBytes 2 0 ++ leBytes 4 (regView s 0x0400011C).toNat ++ beams.flatMap s.trussEntry

/-- The code of a stick's state (R201). -/
def StickState.code : StickState → Nat
  | .free => 0
  | .granted => 1
  | .running => 2
  | .done => 3
  | .uncovered => 4

/-- One stick's 8 bytes of STICK_QUERY. -/
def State.stickInfo (s : State) (n : Nat) : List Byte :=
  let t := s.layers.stick n
  let at_ := match t.owner with
    | some b => match s.stickInUse b with
      | some (m, i) => if m = n then i else 0xFFFF
      | none => 0xFFFF
    | none => 0xFFFF
  leBytes 1 (s.stickNow n).code ++ leBytes 1 ((t.owner.map (·.val)).getD 0xFF) ++ leBytes 1 (s.eligibleWorking n).length ++ leBytes 1 0 ++ leBytes 2 at_
    ++ leBytes 2 (min t.grants 0xFFFF)

/-- STICK_QUERY. -/
def opStickQuery : OpSpec :=
  { read := true
    params := fun s c =>
      let n := leAt c.params 2 2
      firstBad [exactLen c.params 4, (n == 0 || decide ((if c.jumbo then 1020 else 128) < n) || decide (s.layers.sticks.length < leAt c.params 0 2 + n), 2)]
    run := fun s c => { st := s, body := (tabulate (leAt c.params 2 2) fun i => leAt c.params 0 2 + i).flatMap s.stickInfo } }

/-! ## Events -/

/-- A wait longer than WAIT_ALERT_MS (R200, R214): one alert for each beam and layer. -/
def State.waitLong (s : State) (b : Fin 48) : State :=
  let k := s.kerf b
  match k.waitSince with
  | none => s
  | some t =>
    if k.waitSent then s
    else
      let s := s.reach (t + s.regF 0x04000000 16 8 * milli)
      (s.onKerf b fun k => { k with waitSent := true }).raise 0x0502 1 0 [0, b]
        (leBytes 1 b ++ leBytes 1 ((k.lastRule.map Rule.code).getD 0) ++ leBytes 1 k.blocker ++ leBytes 1 0 ++ leBytes 4 (min ((s.now - t) / micro) 0xFFFFFFFF))

/-- The head's value is older than 100 ms (R207): one alert for each value. -/
def State.gasStale (s : State) : State :=
  match s.headBlower with
  | none => s
  | some (_, t) =>
    if s.gasSource ≠ 2 ∨ s.truss.gasSent = some t then s
    else
      let s := s.reach (t + 100 * milli)
      let s : State := { s with truss := { s.truss with gasSent := some t } }
      s.raise 0x0505 1 0 [] (leBytes 1 s.gasLane ++ leBytes 3 0 ++ leBytes 4 (min ((s.now - t) / milli) 0xFFFFFFFF))

/-! ## The meanings -/

/-- A round may complete the layer (R181). -/
def execTrussRound (t : Nat) (s : State) : Host.Outcome State Fault Refusal := .next (s.act t fun s => s.endsLayer State.trussRound)
def execTrussConfig (t : Nat) (p : Packet) (s : State) : Host.Outcome State Fault Refusal := .next (s.packet t (some opTrussConfig) 0x0500 p)
def execTerritoryLoad (t : Nat) (p : Packet) (s : State) : Host.Outcome State Fault Refusal := .next (s.packet t (some opTerritoryLoad) 0x0501 p)
def execGasflowSet (t : Nat) (p : Packet) (s : State) : Host.Outcome State Fault Refusal := .next (s.packet t (some opGasflowSet) 0x0502 p)
def execTrussStatus (t : Nat) (p : Packet) (s : State) : Host.Outcome State Fault Refusal := .next (s.packet t (some opTrussStatus) 0x0503 p)
def execStickQuery (t : Nat) (p : Packet) (s : State) : Host.Outcome State Fault Refusal := .next (s.packet t (some opStickQuery) 0x0504 p)
def execWaitLong (t : Nat) (b : Fin 48) (s : State) : Host.Outcome State Fault Refusal := .next (s.act t fun s => s.waitLong b)
def execGasStale (t : Nat) (s : State) : Host.Outcome State Fault Refusal := .next (s.act t State.gasStale)

end Sys2Proof.Machine
end

