-- ==== Sys2Proof/Machine/Sensing.lean ====
section
/-! DEFINITION. The opcodes of group 0x06 (07_plumb_meltpool.md R246-R248, 08_grain_map.md R272-R274) and the events of Plumb and of the Grain map. -/

namespace Sys2Proof.Machine

open Sys2Proof

/-! ## PLUMB_CONFIG (R246) -/

/-- Words of the parameters from an offset on, given to consecutive registers. -/
def wordsTo (c : Ctx) (off : Nat) (regs : List Nat) : List RegWr :=
  leafWrites (regs.zipIdx.map fun x => (x.1, leWord c.params (off + 4 * x.2), off + 4 * x.2))

/-- The registers of a section, and its length. -/
def sectionRegs (c : Ctx) (b : Fin 48) : List Nat :=
  match byteAt c.params 0 with
  | 0 => tabulate 8 fun k => profReg b (byteAt c.params 1 % 8) k
  | 1 => [0x5000, 0x5004, 0x3000, 0x3004, 0x3008].map (beamReg b)
  | 2 => tabulate 129 fun j => beamReg b (0x3200 + 4 * j)
  | _ => [0x3100, 0x3104, 0x3108].map (beamReg b)

/-- The writes of a section to one beam. -/
def plumbWrites (c : Ctx) (b : Fin 48) : List RegWr := wordsTo c 4 (sectionRegs c b)

/-- The leaves that a fanned-out command reaches (R40). -/
def State.reached (s : State) (c : Ctx) : List Leaf :=
  ((s.leavesUnder c.target c.lv).filter fun x => !(x.2.2 == some true && (s.unitState x.2.1 == stAbsent || s.unitState x.2.1 == stDisabled))).map (·.2.1)

/-- A BEAM section that changes AIN_CONFIG outside CONFIG and IDLE. -/
def plumbMode (s : State) (c : Ctx) (m : Mode) : Option Nat :=
  let ain (u : Leaf) : Nat := beamReg (leafBeam u) 0x3000
  if byteAt c.params 0 = 1 ∧ m ≠ .config ∧ m ≠ .idle ∧ (s.reached c).any (fun u => newValue (ain u) (s.reg (ain u)) (leWord c.params 12) allBits != s.reg (ain u)) then some 1
  else none

/-- PLUMB_CONFIG. -/
def opPlumbConfig : OpSpec :=
  { sched := true, path := .fan isBeam false, world := ofBlock 4, mode := plumbMode
    params := fun s c =>
      let sec := byteAt c.params 0
      let prof := profBad ((c.params.drop 4).take 32)
      let range := s.writesBad (plumbWrites c 0)
      firstBad [minLen c.params 4, (decide (3 < sec), 0), (decide ((if sec = 0 then 7 else 0) < byteAt c.params 1), 1), reservedBad c.params 2 2
               , exactLen c.params (4 + 4 * (sectionRegs c 0).length), (sec == 0 && prof.isSome, 4 + prof.getD 0), (range.isSome, range.getD 0)
               , (sec == 2 && !zeroAt c.params 518 2, 518)]
    leafRun := fun s c u => ((s.doWrites (plumbWrites c (leafBeam u))).1, []) }

/-! ## PLUMB_FEATURES (R247) -/

/-- The 32-byte record of a beam. -/
def State.features (s : State) (b : Fin 48) : List Byte :=
  let c := s.plumb b
  ([0x3018, 0x3010, 0x3014, 0x310C, 0x3110].flatMap fun off => leBytes 4 (regView s (beamReg b off)).toNat)
    ++ leBytes 2 c.m ++ leBytes 2 c.fOut ++ leBytes 2 c.g ++ leBytes 1 c.profile ++ leBytes 1 0 ++ leBytes 4 (nsOf c.windowNs)

/-- PLUMB_FEATURES. -/
def opPlumbFeatures : OpSpec :=
  { read := true, path := .fan isBeam false, most := fun c => if byteAt c.params 0 = 0 then (if c.jumbo then 48 else 43) else 256
    params := fun _ c =>
      let sel := byteAt c.params 0
      let n := byteAt c.params 2
      let one := match c.target with
        | .leaf _ => true
        | _ => false
      firstBad [(sel == 1 && !one, 0xFFFF), exactLen c.params 4, (decide (1 < sel), 0)
               , (sel == 1 && (n == 0 || decide ((if c.jumbo then 128 else 86) < n) || decide (128 < byteAt c.params 1 + n)), 2), reservedBad c.params 3 1]
    leafRun := fun s c u =>
      let b := leafBeam u
      (s, if byteAt c.params 0 = 0 then s.features b
          else (tabulate (byteAt c.params 2) fun i => ((s.plumb b).trace.getD (byteAt c.params 1 + i) []) ++ List.replicate 16 0).flatMap fun e => e.take 16) }

/-! ## Grain opcodes (R272-R274) -/

/-- The material registers with the values that GRAIN_MATERIAL gives them. -/
def materialWords (s : State) (c : Ctx) : List (Nat × Word) :=
  let p := c.params
  [(0x04800004, leWord p 0), (0x04800008, leWord p 4), (0x0480000C, word (leAt p 8 2)), (0x04800010, leWord p 10), (0x04800014, word (leAt p 14 2))
  , (grConfig, putField (s.reg grConfig) 8 4 (byteAt p 16))]
    ++ tabulate 17 fun j => (0x04800200 + 4 * j, if j = 16 then word (leAt p 84 2) else leWord p (20 + 4 * j))

/-- GRAIN_MATERIAL. -/
def opGrainMaterial : OpSpec :=
  { sched := true, world := ofBlock 4
    params := fun _ c =>
      let p := c.params
      let g := (List.range 33).find? fun j => decide (0x8000 < leAt p (20 + 2 * j) 2)
      firstBad [exactLen p 88, (leAt p 0 4 == 0 || decide (10000000 < leAt p 0 4), 0), (leAt p 4 4 == 0 || decide (3600000 < leAt p 4 4), 4)
               , (decide (15 < byteAt p 16), 16), reservedBad p 17 3, (g.isSome, 20 + 2 * g.getD 0), reservedBad p 86 2]
    run := fun s c => c.done ((materialWords s c).foldl (fun st e => st.setMaterial e.1 e.2) s) }

/-- The cells of a GRAIN_READ, in row order. -/
def readCells (c : Ctx) : List (Nat × Nat) :=
  let p := c.params
  (List.range (leAt p 10 2)).flatMap fun j => (List.range (leAt p 8 2)).map fun i => (leAt p 4 2 + i, leAt p 6 2 + j)

/-- The words in error that reading a cell meets. -/
def State.cellErrors (s : State) (plane : Nat) (c : Nat × Nat) : List Nat :=
  ((List.range 4).filter fun k => plane == k || plane == 4).flatMap fun k =>
    let slot := s.slotOf k
    let tile := tileOf c.1 c.2
    s.ueIn (tileAddr slot tile + 2 * cellIn c.1 c.2) 2 ++ s.ueIn (dirAddr slot tile) 8

/-- GRAIN_READ. -/
def opGrainRead : OpSpec :=
  { read := true
    params := fun s c =>
      let p := c.params
      let w := leAt p 8 2
      let h := leAt p 10 2
      firstBad [exactLen p 12, (decide (4 < byteAt p 0), 0), reservedBad p 1 3, (w == 0 || decide (s.sizeX < leAt p 4 2 + w), 8)
               , (h == 0 || decide (s.sizeY < leAt p 6 2 + h) || decide ((if c.jumbo then 2044 else 346) < w * h), 10)]
    run := fun s c =>
      let plane := byteAt c.params 0
      let l := readCells c
      { st := s.memMet (l.flatMap (s.cellErrors plane)).dedup, body := l.flatMap fun x => leBytes 4 (s.grainCell plane x.1 x.2) } }

/-- GRAIN_CLEAR. -/
def opGrainClear : OpSpec :=
  { sched := true, world := ofBlock 4, mode := onlyIn [.config, .idle, .calibrate, .recoat]
    params := fun _ c => firstBad [exactLen c.params 4, (decide (15 < byteAt c.params 0), 0), reservedBad c.params 1 3]
    check := fun s _ => if s.grain.rolling then some Rej.busy else none
    run := fun s c => c.done (s.grainClear (byteAt c.params 0)) }

/-! ## Events -/

/-- A window of 20 samples closes (R223, R224): its control frame comes 800 ns after the last sample. A mark scan of the beam takes its AIN1 samples (R290). -/
def State.featureWindow (s : State) (b : Fin 48) (smp : List Sample) : State :=
  if smp.length = 20 then (s.window b smp (s.gControl b (s.lastSample s.now + 800))).scanSamples b (s.lastSample s.now) smp else s

/-- What CAM_TIMEOUT counts from (R241): the beam's last valid frame, or the layer start, where that is later or there is none. -/
def State.cameraSince (s : State) (b : Fin 48) : Nat := max ((s.plumb b).cam.lastGood.getD 0) s.layers.layerStart

/-- Whether the beam's gate has been open, since a time, for at least one whole frame period (R241). -/
def State.litPeriod (s : State) (b : Fin 48) (since : Nat) : Bool :=
  (pulsesOf (s.kerf b).gates).any fun p =>
    let a := max since ((p.head?.map (·.start)).getD 0)
    let z := min s.now ((p.getLast?.map (·.stop)).getD 0)
    decide (a + (s.plumb b).cam.period ≤ z)

/-- No valid camera frame for CAM_TIMEOUT periods (R241). Before two frames have come there is no measured period, and no such loss (log 86). -/
def State.cameraTimeout (s : State) (b : Fin 48) : State :=
  let c := (s.plumb b).cam
  let since := s.cameraSince b
  let s := s.reach (since + s.regF (beamReg b 0x3100) 8 8 * c.period)
  if c.period ≠ 0 ∧ s.litPeriod b since = true then s.cameraLost b 3 else s

/-- An excursion closes after EXC_MIN tests that do not qualify (R239). -/
def State.excClose (s : State) (b : Fin 48) (kind : Nat) : State :=
  match (s.plumb b).exc[kind]? with
  | some x => if s.excMin b ≤ x.runOut then s.excEnd b kind else s
  | none => s

/-! What the map's own reads meet in error (R527) is handled before they act: the tiles are INVALID for them. -/

/-- The words in error of a tile and of its directory entry in a role. -/
def State.tileUe (s : State) (role tile : Nat) : List Nat := s.ueIn (tileAddr (s.slotOf role) tile) 2048 ++ s.ueIn (dirAddr (s.slotOf role) tile) 8

/-- A column is fetched into a beam's cache. -/
def State.columnFetch (s : State) (b : Fin 48) (tile : Nat) : State :=
  let reads := s.nextFetch b == some tile && s.fetchTurn b && (s.keptColumns b).isSome && !s.ue.isEmpty
  (if reads then s.memMet ((List.range 4).flatMap fun k => s.tileUe k tile).dedup else s).prefetch b tile

/-- A query, with the P0 copies that it fetches again. -/
def State.queryRun (s : State) (b : Fin 48) : State :=
  let again : List Nat := if s.ue.isEmpty || !s.refreshRoom then [] else match s.queryTick b with
    | some n => (s.queryTiles b n).filter fun t => (s.columnsOf b).any fun c => c.tile == t && s.overtaken c
    | none => []
  (s.memMet (again.flatMap fun t => s.tileUe 0 t).dedup).grainQuery b

/-- Merges: the cell and the directory entry of each deposit are read, and the whole tile where it is renormalised. -/
def State.mergeRun (s : State) : State :=
  let met : List Nat := if s.ue.isEmpty then [] else (s.grain.deposits.filter fun d => decide (d.time ≤ s.now)).flatMap fun d =>
    let tile := tileOf d.cx d.cy
    let e := s.dir (s.slotOf 0) tile
    if e.occupied = false ∨ e.invalid = true then s.ueIn (dirAddr (s.slotOf 0) tile) 8
    else if s.regF 0x04800018 16 16 * 1000 ≤ d.time - e.tRef then s.tileUe 0 tile
    else s.ueIn (tileAddr (s.slotOf 0) tile + 2 * cellIn d.cx d.cy) 2 ++ s.ueIn (dirAddr (s.slotOf 0) tile) 8
  (s.memMet met.dedup).mergeDeposits

/-- The words in error that a roll reads: the directories, and the tiles that it decays and folds. -/
def State.rollUe (s : State) : List Nat :=
  let whole (role tile : Nat) : Bool := let e := s.dir (s.slotOf role) tile; e.occupied && !e.invalid
  (List.range 4).flatMap (fun k => s.ueIn (dirAddr (s.slotOf k) 0) 2000000)
    ++ [0, 2, 3].flatMap fun k => s.ue.filter fun w =>
      let a := tileAddr (s.slotOf k) 0
      decide (a ≤ w) && decide (w < a + 0x1E848000) && whole k ((w - a) / 2048)

/-- The roll starts when it may (R265). -/
def State.rollStart (s : State) : State := if s.rollReady then (s.memMet s.rollUe).grainRoll else s

/-- The roll ends; after a complete layer the heat renderer draws (R317). -/
def State.rollFinish (s : State) : State :=
  if s.grain.rolling then (if s.grain.whole then s.rollEnd.heatStart else s.rollEnd) else s

/-! ## The meanings -/

def execPlumbConfig (t : Nat) (p : Packet) (s : State) : Host.Outcome State Fault Refusal := .next (s.packet t (some opPlumbConfig) 0x0600 p)
def execPlumbFeatures (t : Nat) (p : Packet) (s : State) : Host.Outcome State Fault Refusal := .next (s.packet t (some opPlumbFeatures) 0x0601 p)
def execGrainMaterial (t : Nat) (p : Packet) (s : State) : Host.Outcome State Fault Refusal := .next (s.packet t (some opGrainMaterial) 0x0602 p)
def execGrainRead (t : Nat) (p : Packet) (s : State) : Host.Outcome State Fault Refusal := .next (s.packet t (some opGrainRead) 0x0603 p)
def execGrainClear (t : Nat) (p : Packet) (s : State) : Host.Outcome State Fault Refusal := .next (s.packet t (some opGrainClear) 0x0604 p)
def execFeatureWindow (t : Nat) (b : Fin 48) (samples : List Sample) (s : State) : Host.Outcome State Fault Refusal :=
  .next (s.beamAct t fun s => s.featureWindow b samples)
def execCameraTimeout (t : Nat) (b : Fin 48) (s : State) : Host.Outcome State Fault Refusal := .next (s.act t fun s => s.cameraTimeout b)
def execExcursionOpen (t : Nat) (b : Fin 48) (kind : ExcKind) (s : State) : Host.Outcome State Fault Refusal :=
  .next (s.beamAct t fun s => s.excOpen b (excIndex kind))
def execExcursionClose (t : Nat) (b : Fin 48) (kind : ExcKind) (s : State) : Host.Outcome State Fault Refusal :=
  .next (s.beamAct t fun s => s.excClose b (excIndex kind))
def execTraceDone (t : Nat) (b : Fin 48) (s : State) : Host.Outcome State Fault Refusal := .next (s.beamAct t fun s => s.traceFinish b)
def execDepositMerge (t : Nat) (s : State) : Host.Outcome State Fault Refusal := .next (s.act t State.mergeRun)
def execTilePrefetch (t : Nat) (b : Fin 48) (tile : Nat) (s : State) : Host.Outcome State Fault Refusal :=
  .next (s.act t fun s => if tile < 250000 then s.columnFetch b tile else s)
def execGrainQuery (t : Nat) (b : Fin 48) (s : State) : Host.Outcome State Fault Refusal := .next (s.beamAct t fun s => s.queryRun b)
def execGrainRoll (t : Nat) (s : State) : Host.Outcome State Fault Refusal := .next (s.act t State.rollStart)
def execRollEnd (t : Nat) (s : State) : Host.Outcome State Fault Refusal := .next (s.act t State.rollFinish)

end Sys2Proof.Machine
end

