-- ==== Sys2Proof/Machine/Calib.lean ====
section
/-! DEFINITION. The opcodes of group 0x07 (09_scribe_calibration.md R285-R299) and the events of Scribe. -/

namespace Sys2Proof.Machine

open Sys2Proof

/-! ## Tables (R285, R287) -/

/-- The modes that accept a table; in PAUSE and HOLD every target must be RESTORE_NEEDED. -/
def tableMode (s : State) (c : Ctx) (m : Mode) : Option Nat :=
  if [Mode.config, .idle, .calibrate, .recoat].contains m then none
  else if (m = .pause ∨ m = .hold) ∧ (s.reached c).all (fun u => isBeam u && (s.scribe (leafBeam u)).table == .restoreNeeded) then none
  else some 1

/-- The beam that a refusal names. -/
def State.rejBeam (s : State) (r : Rej) : Option (Fin 48) :=
  match r.path.bind fun p => s.walk .root (levelsOf p) with
  | some (.leaf (.beam b)) => some b
  | _ => none

/-- SCB_LOAD_ERR of the first rejecting beam names the failing field (R285). -/
def State.tableRefused (s : State) (r : Rej) : State :=
  match s.rejBeam r with
  | some b => match s.tableFail b with
    | some e => if r.status = .badParam ∧ r.cause = 0 then s.setReg (scb b 0x2C) (word (e.2 + e.1 * 2 ^ 24)) else s
    | none => s
  | none => s

/-- SCRIBE_TABLE_WRITE. -/
def opScribeTableWrite : OpSpec :=
  { path := .fan isBeam false, world := always, mode := tableMode
    params := fun _ c => firstBad [exactLen c.params 4, reservedBad c.params 0 4]
    leafOk := fun s _ u =>
      let b := leafBeam u
      if (s.tableFail b).isSome then some (Rej.param 0) else if (s.scribe b).scan.isSome then some Rej.busy else none
    leafRun := fun s _ u => (s.loadTable (leafBeam u), []), refused := State.tableRefused
    extra := fun s u => leBytes 4 (leAt (s.stageBytes (leafBeam u)) 200800 4) }

/-- The beam of a single-leaf command. -/
def Ctx.beam (c : Ctx) : Fin 48 :=
  match c.target with
  | .leaf u => leafBeam u
  | _ => 0

/-- SCRIBE_TABLE_READ. -/
def opScribeTableRead : OpSpec :=
  { read := true, path := .single isBeam
    mode := fun s c _ => match c.target with
      | .leaf (.beam b) => if (s.scribe b).table = .loaded then none else some 5
      | _ => none
    params := fun _ c =>
      let o := leAt c.params 0 4
      let n := leAt c.params 4 4
      firstBad [exactLen c.params 8, (o % 4 != 0, 0)
               , (n % 4 != 0 || n == 0 || decide ((if c.jumbo then 8172 else 1380) < n) || decide (tableLen < o + n), 4)]
    run := fun s c =>
      let q := s.hostReads (tableBase c.beam + leAt c.params 0 4) (leAt c.params 4 4)
      { st := q.2, body := leBytes 4 (s.reg (scb c.beam 4)).toNat ++ q.1 } }

/-! ## Fiducials (R288) -/

/-- The writes of SCRIBE_FIDUCIALS. -/
def fidWrites (c : Ctx) : List RegWr :=
  (List.range (min (leAt c.params 2 2) 255)).flatMap fun i =>
    leafWrites (tabulate 7 fun w => (fidReg (leAt c.params 0 2 + i) w, leWord c.params (4 + 32 * i + 4 * w), 4 + 32 * i + 4 * w))

/-- SCRIBE_FIDUCIALS. -/
def opScribeFiducials : OpSpec :=
  { world := always, mode := onlyIn [.config, .idle, .calibrate]
    params := fun _ c =>
      let k := leAt c.params 0 2
      let n := leAt c.params 2 2
      let bad := ((List.range (min n 255)).filterMap fun i => (fidBad ((c.params.drop (4 + 32 * i)).take 32)).map fun o => 4 + 32 * i + o).head?
      firstBad [minLen c.params 4, (n == 0 || decide (255 < n) || decide (256 < k + n), 2), exactLen c.params (4 + 32 * n)
               , (bad.isSome, bad.getD 0)]
    run := fun s c => c.done (s.doWrites (fidWrites c)).1 }

/-! ## Passes (R299) -/

/-- SCRIBE_PASS. -/
def opScribePass : OpSpec :=
  { sched := true, path := .fan isBeam false, world := always
    params := fun _ c => firstBad [exactLen c.params 4, (decide (3 < byteAt c.params 0), 0), (decide (1 < byteAt c.params 1), 1), reservedBad c.params 2 2]
    leafOk := fun s _ u => if (s.scribe (leafBeam u)).busy then some Rej.busy else none
    leafRun := fun s c u => ((s.requestPass (leafBeam u) (byteAt c.params 0) ((byteAt c.params 1).testBit 0)).fanMark c u, []) }

/-- SCRIBE_CONFIRM. -/
def opScribeConfirm : OpSpec :=
  { path := .single isBeam, world := always
    params := fun s c =>
      let a := byteAt c.params 0
      firstBad [exactLen c.params 8, (a != 1 && a != 2, 0), reservedBad c.params 1 3, (!s.holds c.beam (leWord c.params 4), 4)]
    run := fun s c => c.done (s.confirm c.beam (byteAt c.params 0)) }

/-- A beam's entry of SCRIBE_QUALITY. -/
def State.quality (s : State) (b : Fin 48) : List Byte :=
  [0x00, 0x04, 0x08, 0x0C, 0x10, 0x14, 0x18, 0x1C].flatMap fun o => leBytes 4 (regView s (scb b o)).toNat

/-- SCRIBE_QUALITY. -/
def opScribeQuality : OpSpec :=
  { read := true, path := .fan isBeam false, params := fun _ c => firstBad [exactLen c.params 0], most := fun c => if c.jumbo then 48 else 43
    leafRun := fun s _ u => (s, s.quality (leafBeam u)) }

/-! ## Events -/

/-- The samples of a beam that have come since its last window closed (R223) enter its scan. -/
def State.lateSamples (s : State) (b : Fin 48) (late : List Sample) : State :=
  let last := s.sampleInstant s.now
  if late.length ≤ (last - s.lastSample s.now) / 50 then s.scanSamples b last late else s

/-- A mark scan ends at its plan's end, with the samples that no window has brought yet. -/
def State.scanEnd (s : State) (b : Fin 48) (late : List Sample) : State :=
  match (s.scribe b).scan with
  | some sc => ((s.reach sc.ends).lateSamples b late).scanDone b
  | none => s

/-! ## The meanings -/

def execScribeTableWrite (t : Nat) (p : Packet) (s : State) : Host.Outcome State Fault Refusal := .next (s.packet t (some opScribeTableWrite) 0x0700 p)
def execScribeTableRead (t : Nat) (p : Packet) (s : State) : Host.Outcome State Fault Refusal := .next (s.packet t (some opScribeTableRead) 0x0701 p)
def execScribeFiducials (t : Nat) (p : Packet) (s : State) : Host.Outcome State Fault Refusal := .next (s.packet t (some opScribeFiducials) 0x0702 p)
def execScribePass (t : Nat) (p : Packet) (s : State) : Host.Outcome State Fault Refusal := .next (s.packet t (some opScribePass) 0x0703 p)
def execScribeConfirm (t : Nat) (p : Packet) (s : State) : Host.Outcome State Fault Refusal := .next (s.packet t (some opScribeConfirm) 0x0704 p)
def execScribeQuality (t : Nat) (p : Packet) (s : State) : Host.Outcome State Fault Refusal := .next (s.packet t (some opScribeQuality) 0x0705 p)
def execMarkScanStart (t : Nat) (b : Fin 48) (s : State) : Host.Outcome State Fault Refusal := .next (s.beamAct t fun s => s.scanStart b)
def execMarkScanDone (t : Nat) (b : Fin 48) (late : List Sample) (_ _ : Unit) (s : State) : Host.Outcome State Fault Refusal :=
  .next (s.beamAct t fun s => s.scanEnd b late)
def execPassFit (t : Nat) (b : Fin 48) (s : State) : Host.Outcome State Fault Refusal := .next (s.act t fun s => s.passFit b)
def execResultApply (t : Nat) (b : Fin 48) (s : State) : Host.Outcome State Fault Refusal := .next (s.act t fun s => s.applyPending b)
def execPassTimeout (t : Nat) (b : Fin 48) (s : State) : Host.Outcome State Fault Refusal := .next (s.act t fun s => s.passTimeout b)

end Sys2Proof.Machine
end

