-- ==== Sys2Proof/Machine/Image.lean ====
section
/-! DEFINITION. The opcodes of group 0x08 (10_veneer_compositor.md R326, R333) and the events of Veneer. -/

namespace Sys2Proof.Machine

open Sys2Proof

/-! ## Layers and fences -/

/-- VENEER_LAYER_CONFIG: nothing is checked beyond the layer number (R326). -/
def opVeneerLayerConfig : OpSpec :=
  { world := ofBlock 5, params := fun _ c => firstBad [exactLen c.params 64, (decide (15 < byteAt c.params 0), 0)]
    run := fun s c => c.done (s.onVeneer fun n => { n with staged := updAt n.staged (byteAt c.params 0) fun _ => some c.params }) }

/-- Whether a mask names a layer whose staging slot is empty. -/
def State.emptySlot (s : State) (mask : Nat) : Bool := (List.range 16).any fun l => mask.testBit l && (s.veneer.staged.getD l none).isNone

/-- VENEER_COMMIT (R320, R321, R326). -/
def opVeneerCommit : OpSpec :=
  { sched := true, world := ofBlock 5
    params := fun s c => firstBad [exactLen c.params 4, (s.emptySlot (leAt c.params 0 2), 0), reservedBad c.params 2 2
                            , match s.commitCheck (leAt c.params 0 2) with | some (false, l) => (true, l) | _ => (false, 0)]
    check := fun s c => (s.commitCheck (leAt c.params 0 2)).map fun e => { status := if e.1 then .bufShort else .badParam, cause := e.2 }
    run := fun s c =>
      if s.emptySlot (leAt c.params 0 2) then { st := s, status := .badParam } else c.done (s.commitLayers (leAt c.params 0 2)) }

/-- VENEER_FENCE. -/
def opVeneerFence : OpSpec :=
  { world := ofBlock 5
    params := fun _ c =>
      let f := byteAt c.params 0
      let o := byteAt c.params 1
      firstBad [exactLen c.params 8, (decide (f < 18) || decide (31 < f), 0), (o != 1 && o != 2, 1), reservedBad c.params 2 2]
    run := fun s c =>
      let f := byteAt c.params 0
      let s := if byteAt c.params 1 = 1 then s.advance f else s.setFence f (leWord c.params 4)
      { c.done s with body := leBytes 4 (s.fence f).toNat } }

/-! ## Coefficients and the live period -/

/-- VENEER_COEFF_LOAD (R324). -/
def opVeneerCoeffLoad : OpSpec :=
  { world := ofBlock 5
    params := fun s c =>
      let m := byteAt c.params 0
      let lacks := (List.range 4).any fun k => m.testBit k && !coversRange s.front.coefOk (1792 * k) (1792 * k + 1792)
      firstBad [exactLen c.params 4, (decide (15 < m) || lacks, 0), reservedBad c.params 1 3]
    run := fun s c => c.done (s.onVeneer fun n => { n with
      pendCoeff := n.pendCoeff.zipIdx.map fun e => if (byteAt c.params 0).testBit e.2 then some (Memory.reads s.front.coefs (1792 * e.2) 1792) else e.1 }) }

/-- VENEER_LIVE: its first boundary falls at its execution (R327). -/
def opVeneerLive : OpSpec :=
  { sched := true, world := ofBlock 5
    params := fun _ c =>
      let p := leAt c.params 0 2
      firstBad [exactLen c.params 4, (p != 0 && (decide (p < 100) || decide (60000 < p)), 0), reservedBad c.params 2 2]
    run := fun s c => c.done ((s.setReg 0x06000028 (word (leAt c.params 0 2))).onVeneer fun n => { n with nextLive := s.now }) }

/-! ## The front surface (R330, R333) -/

/-- The front surface. -/
def State.frontSurf (s : State) : Nat := s.outSurf (s.regB vnStatus 1)

/-- VENEER_FRAME_READ: the lock acts before the bytes are read, the unlock after. -/
def opVeneerFrameRead : OpSpec :=
  { read := true, mode := fun s _ _ => if s.reg vnFrame = 0 then some 1 else none
    params := fun s c =>
      let o := leAt c.params 0 4
      let n := leAt c.params 4 4
      let size := (s.surface s.frontSurf).size
      firstBad [exactLen c.params 12, (o % 4 != 0, 0)
               , (n % 4 != 0 || n == 0 || decide ((if c.jumbo then 8168 else 1376) < n) || decide (size < o + n), 4), (decide (3 < byteAt c.params 8), 8)
               , reservedBad c.params 9 3]
    run := fun s c =>
      let fl := byteAt c.params 8
      let s : State := if fl.testBit 0 then s.onVeneer fun n => { n with lockUntil := some (s.now + 2 * second) } else s
      let q := s.hostReads ((s.surface s.frontSurf).addr + leAt c.params 0 4) (leAt c.params 4 4)
      { st := if fl.testBit 1 then q.2.unlock else q.2
        body := leBytes 4 (s.reg vnFrame).toNat ++ leBytes 1 s.frontSurf ++ leBytes 3 0 ++ q.1 } }

/-- The lock of the front surface reaches its 2 s. -/
def State.lockExpiry (s : State) : State :=
  match s.veneer.lockUntil with
  | some t => (s.reach t).unlock
  | none => s

/-- The words in error that a composition reads (R527): in the tiles, or the lines, of the enabled layers' source rectangles. -/
def State.composeMeets (s : State) : List Nat :=
  if s.ue.isEmpty || s.veneer.compose.isNone then []
  else ((List.range 16).flatMap fun l => match s.shownBy l with
    | none => []
    | some si =>
      let f := s.surface si
      let c := s.layer l
      if f.tiled then
        (List.range (f.tw * f.th)).flatMap fun t =>
          let tx := t % f.tw * 64
          let ty := t / f.tw * 64
          let ent := s.readMem (f.addr + 8 * t) 8
          if tx < c.sx + c.sw ∧ c.sx < tx + 64 ∧ ty < c.sy + c.sh ∧ c.sy < ty + 64 then
            s.ueIn (f.addr + 8 * t) 8 ++ s.ueIn (f.addr + leAt ent 0 4) (leAt ent 4 2 % 32768)
          else []
      else s.linearLost c f).dedup

/-- The words still in error after a tiled surface was written whole: its payloads would merge into them (R527). -/
def State.tiledMet (s : State) (f : Surface) : List Nat :=
  if s.ue.isEmpty || f.tw * f.th == 0 then []
  else
    let ent := s.readMem (f.addr + 8 * (f.tw * f.th - 1)) 8
    s.ueIn f.addr (leAt ent 0 4 + leAt ent 4 2 % 32768)

/-- A composition ends; what it read in error, and what its frame would merge into, are fresh detections (R527). -/
def State.composeEnd (s : State) : State :=
  let u := s.composeDone
  let back := s.outSurf !(s.regB vnStatus 1)
  (u.memMet s.composeMeets).memMet (if s.veneer.compose.isSome && s.outOk back then u.tiledMet (s.surface back) else [])

/-- The words in error of the Grain map that a heat rendering reads. -/
def State.heatMeets (s : State) : List Nat :=
  if (s.ring 17).writing.isNone then []
  else s.ue.filter fun w => (List.range 4).any fun k =>
    let off := w - slotBase (s.slotOf k)
    let seen (t : Nat) : Bool := decide (t % 500 * 32 < s.sizeX) && decide (t / 500 * 32 < s.sizeY)
    (s.regF 0x0600002C 0 4).testBit k && decide (slotBase (s.slotOf k) ≤ w) && decide (off < 0x20000000)
      && (if off < 0x1E848000 then seen (off / 2048) && (s.dir (s.slotOf k) (off / 2048)).occupied
          else (List.range 8).any fun i => seen ((off - 0x1E848000) / 8 + i))

/-- A heat rendering ends, with what it met in error (R527). -/
def State.heatEnd (s : State) : State :=
  let s := s.memMet s.heatMeets
  let u := s.heatDone
  match (s.ring 17).writing with
  | none => u
  | some i =>
    let f := s.surface i
    u.memMet (if f.tiled then u.tiledMet f else ((List.range f.h).flatMap fun y => s.ueMerge (f.addr + y * f.pitch) f.w).dedup)

/-- The footprint is drawn, with the words in error that its bits would merge into (R527). -/
def State.footprintEnd (s : State) : State :=
  let u := s.footprintDone
  match (s.ring 16).writing, (u.ring 16).writing with
  | some i, none =>
    let f := s.surface i
    u.memMet (if s.ue.isEmpty then [] else s.ue.filter fun w => (List.range (eccLen w)).any fun k =>
      let a := w + k
      decide (f.addr ≤ a) && decide (a < f.addr + f.pitch * f.h) && (List.range 8).any fun j =>
        let x := (a - f.addr) % f.pitch * 8 + j
        let y := (a - f.addr) / f.pitch
        decide (x < f.w) && (let c := s.pixelCentre x y; s.veneer.footprint.any fun q => nearPiece q (s.regF 0x0600001C 0 24) c.1 c.2))
  | _, _ => u

/-! ## The meanings -/

def execVeneerLayerConfig (t : Nat) (p : Packet) (s : State) : Host.Outcome State Fault Refusal := .next (s.packet t (some opVeneerLayerConfig) 0x0800 p)
def execVeneerCommit (t : Nat) (p : Packet) (s : State) : Host.Outcome State Fault Refusal := .next (s.packet t (some opVeneerCommit) 0x0801 p)
def execVeneerFence (t : Nat) (p : Packet) (s : State) : Host.Outcome State Fault Refusal := .next (s.packet t (some opVeneerFence) 0x0802 p)
def execVeneerCoeffLoad (t : Nat) (p : Packet) (s : State) : Host.Outcome State Fault Refusal := .next (s.packet t (some opVeneerCoeffLoad) 0x0803 p)
def execVeneerFrameRead (t : Nat) (p : Packet) (s : State) : Host.Outcome State Fault Refusal := .next (s.packet t (some opVeneerFrameRead) 0x0804 p)
def execVeneerLive (t : Nat) (p : Packet) (s : State) : Host.Outcome State Fault Refusal := .next (s.packet t (some opVeneerLive) 0x0805 p)
def execLiveBoundary (t : Nat) (s : State) : Host.Outcome State Fault Refusal := .next (s.act t State.liveBoundary)
def execLayerEndBoundary (t : Nat) (s : State) : Host.Outcome State Fault Refusal := .next (s.act t State.endBoundary)
def execCompositionDone (t : Nat) (s : State) : Host.Outcome State Fault Refusal := .next (s.act t State.composeEnd)
def execFrameLockExpiry (t : Nat) (s : State) : Host.Outcome State Fault Refusal := .next (s.act t State.lockExpiry)
def execFootprintDone (t : Nat) (s : State) : Host.Outcome State Fault Refusal := .next (s.act t State.footprintEnd)
def execHeatRenderDone (t : Nat) (s : State) : Host.Outcome State Fault Refusal := .next (s.act t State.heatEnd)

end Sys2Proof.Machine
end

