-- ==== Sys2Proof/Machine/LaneOps.lean ====
section
/-! DEFINITION. The opcodes of group 0x09 (11_lanes_links.md R369) and the events of the lanes and of the joist heads. -/

namespace Sys2Proof.Machine

open Sys2Proof

/-! ## Lanes and ports as leaves -/

/-- A joist lane or a rafter port. -/
def isLane : Leaf → Bool
  | .joist _ => true
  | .rafter _ => true
  | _ => false
def isJoist : Leaf → Bool
  | .joist _ => true
  | _ => false

/-- The lane of a single-leaf command. -/
def Ctx.joist (c : Ctx) : Fin 16 :=
  match c.target with
  | .leaf (.joist n) => n
  | _ => 0

/-- The port of a rafter leaf. -/
def rafterOf (p : Fin 2) : RPort := if p.val = 0 then .up else .down

/-- The lanes of a leaf. -/
def leafLanes : Leaf → List Lane
  | .joist n => [.joist n]
  | .rafter p => lanesOf (rafterOf p)
  | _ => []

/-! ## LANE_CONFIG -/

/-- The write of a LANE_CONFIG to one leaf. -/
def laneWrites (c : Ctx) (u : Leaf) : List RegWr :=
  match u with
  | .joist n => leafWrites [(jlReg n 4, leWord c.params 0, 0)]
  | .rafter p => leafWrites [(rpReg (rafterOf p) 4, leWord c.params 0, 0)]
  | _ => []

/-- LANE_CONFIG. -/
def opLaneConfig : OpSpec :=
  { path := .fan isLane false, world := ofBlock 6, mode := onlyIn [.config, .idle], params := fun _ c => firstBad [exactLen c.params 4]
    leafOk := fun s c u => s.writesOk (laneWrites c u), leafRun := fun s c u => ((s.doWrites (laneWrites c u)).1, []) }

/-! ## LANE_BITSLIP (R343) -/

/-- The lane that a LANE_BITSLIP names. -/
def Ctx.slipLane (c : Ctx) : Option Lane :=
  match c.target with
  | .leaf u => (leafLanes u)[byteAt c.params 0]?
  | _ => none

/-- The slips move the boundary; whether the sync headers are then valid is the line's. DONE ends the search: from it the 20 ms run, and an aligned lane
goes to HELLO, where a rafter lane sends its PORT_HELLO. -/
def State.bitslip (s : State) (l : Lane) (slips : Nat) (done : Bool) : State :=
  let d := s.draw
  let ok := d.1 % 2 == 1
  let s := d.2.onLane l fun x =>
    let x := { x with slip := (x.slip + slips) % 66, syncOk := ok }
    if done then { x with since := s.now, manualDone := true, link := if ok then .hello else .align } else x
  match lanePort l with
  | some (p, _) => if done && ok then s.sendHello p else s
  | none => s

/-- LANE_BITSLIP. -/
def opLaneBitslip : OpSpec :=
  { path := .single isLane, world := ofBlock 6
    mode := fun s c _ => match c.slipLane with
      | some l => if (s.lane l).link = .align ∧ s.alignManual l = true then none else some 1
      | none => none
    params := fun _ c =>
      firstBad [exactLen c.params 4, (c.slipLane.isNone, 0), (decide (65 < byteAt c.params 1), 1), (decide (1 < byteAt c.params 2), 2), reservedBad c.params 3 1]
    run := fun s c => match c.slipLane with
      | some l =>
        let s := s.bitslip l (byteAt c.params 1) ((byteAt c.params 2).testBit 0)
        { c.done s with body := leBytes 1 (bit (s.lane l).syncOk) ++ leBytes 1 (s.lane l).slip ++ leBytes 2 0 }
      | none => { st := s } }

/-! ## LANE_STATUS -/

/-- A leaf's 32 bytes. What stands for a port's maker and serial number is open. -/
def State.laneStatus (s : State) (u : Leaf) : State × List Byte :=
  let w (a : Nat) : List Byte := leBytes 4 (regView s a).toNat
  match u with
  | .joist n =>
    let h := (s.joist n).head ++ List.replicate 32 0
    (s, w (jlReg n 0) ++ w (jlReg n 8) ++ w (jlReg n 0x20) ++ w (jlReg n 0x10) ++ w (jlReg n 0xC) ++ h.take 1 ++ (h.drop 2).take 1 ++ (h.drop 4).take 2
      ++ (h.drop 8).take 8)
  | .rafter p =>
    let p := rafterOf p
    let r := s.rport p
    let d := s.draw
    let role := match r.partner with
      | some x => bit x.manager
      | none => 0
    (d.2, w (rpReg p 0) ++ w (rpReg p 8) ++ w (rpReg p 0x2C) ++ w (rpReg p 0x28) ++ w (rpReg p (0x30 + 4 * field (regView s (rpReg p 8)) 3 3)) ++ leBytes 1 role
      ++ leBytes 1 r.striped ++ leBytes 10 d.1)
  | _ => (s, [])

/-- LANE_STATUS. -/
def opLaneStatus : OpSpec :=
  { read := true, path := .fan isLane false, params := fun _ c => firstBad [exactLen c.params 0], most := fun c => if c.jumbo then 48 else 43
    leafRun := fun s _ u => s.laneStatus u }

/-! ## LANE_BOND (R353) -/

/-- Bonds or unbonds a pair; a pair at half rate leaves it with the bond. -/
def State.bond (s : State) (n : Fin 16) (on : Bool) : State :=
  let half := (s.joist n).half
  let s := (s.onJoist n fun j => { j with bonded := on, half := j.half && on }).onJoist (pairOther n) fun j => { j with bonded := on }
  if half && !on then (s.camHalf n false).settle (.joist n) else s

/-- LANE_BOND. -/
def opLaneBond : OpSpec :=
  { path := .single isJoist, world := ofBlock 6, mode := onlyIn [.config, .idle]
    params := fun _ c =>
      firstBad [(c.joist.val % 2 == 1, 0xFFFF), exactLen c.params 4, (decide (1 < byteAt c.params 0), 0), reservedBad c.params 1 3]
    check := fun s c =>
      let named (st : State) (n : Fin 16) : Bool := beams.any fun b => st.regB (beamReg b 0x3100) 0 && st.regF (beamReg b 0x3100) 1 4 == n.val
      let used (n : Fin 16) : Bool := s.ringOn n || named s n || named s.withHeld n
      if used c.joist || used (pairOther c.joist) then some Rej.busy else none
    run := fun s c => c.done (s.bond c.joist (byteAt c.params 0 == 1)) }

/-! ## DISCOVERY_SCAN (R344) -/

/-- The message that has the chain's last worker scan its downstream port (log entry 25). -/
def ctlScan : Nat := 0x06

/-- What the command scans: every lane at the root, and for the manager the chain's end; else the lanes of a leaf or a frame. -/
def State.discover (s : State) (c : Ctx) : State :=
  match c.target with
  | .root =>
    let s := s.rescan
    match (s.workers.map (·.1)).max? with
    | some d => if s.chain.manager then s.sendControl .down ctlScan d [] else s
    | none => s
  | t => ((s.leavesUnder t c.lv).flatMap fun x => leafLanes x.2.1).foldl (fun st l => st.rescanLane l) s

/-- DISCOVERY_SCAN: it reaches members that are ABSENT; BUSY while the chain of start-up step 7 still forms (R364, R368). -/
def opDiscoveryScan : OpSpec :=
  { path := .unit, world := ofBlock 6
    params := fun s c => firstBad [(c.target != .root && (s.leavesUnder c.target c.lv).any fun x => !isLane x.2.1, 0xFFFF), exactLen c.params 0]
    check := fun s _ => if s.chain.forming then some Rej.busy else none
    run := fun s c => c.done (s.discover c) }

/-! ## HEAD_COMMAND (R352) -/

/-- The command leaves as one message on the head's lane, or on the pair's other lane while the head's is lost. -/
def State.headCommand (s : State) (n : Fin 16) (tag : BitVec 16) (bs : List Byte) : State :=
  let h := s.headLane n
  let out := if (s.joist h).lane.link = .up then h else n
  (s.onJoist h fun j => { j with command := some (tag, s.now, false) }).sendJoist out 0x43 (leBytes 2 tag.toNat ++ leBytes 2 0 ++ bs)

/-- HEAD_COMMAND. -/
def opHeadCommand : OpSpec :=
  { sched := true, path := .single isJoist, world := ofBlock 6
    params := fun _ c =>
      let n := leAt c.params 2 2
      firstBad [minLen c.params 4, (n == 0 || decide (1024 < n), 2), exactLen c.params (4 + ceilDiv n 4 * 4), reservedBad c.params (4 + n) (ceilDiv n 4 * 4 - n)]
    check := fun s c =>
      if (s.joist c.joist).lane.link ≠ .up then some Rej.noUnit
      else if (s.joist (s.headLane c.joist)).command.isSome then some Rej.busy else none
    run := fun s c => c.done (s.headCommand c.joist (BitVec.ofNat 16 (leAt c.params 0 2)) ((c.params.drop 4).take (leAt c.params 2 2))) }

/-! ## Events -/

/-- The rescans fall at whole seconds after the end of start-up (R344). -/
def State.rescanDue (s : State) : State :=
  (s.reach (s.power.startupEnd + max 1 (ceilDiv (s.now - s.power.startupEnd) second) * second)).rescan

/-- Lane `k` of a port. -/
def portLane (p : RPort) (k : Fin 4) : Lane :=
  match p with
  | .up => .up k
  | .down => .down k

/-- The memory words in error that a frame's rows merge into as the capture writes them, or none when nothing is written (R349, R527). -/
def State.captureMeets (s : State) (n : Fin 16) (m : Msg) : List Nat :=
  let h := s.headLane n
  if s.ue.isEmpty ∨ msgGood 0x04 m = false ∨ byteAt (s.joist h).head 0 ≠ 1 then []
  else match (s.joist h).frame.bind (fun f => f.whole m), (s.ringStart h).2 with
    | some rows, some i =>
      let u := s.surface i
      (rows.zipIdx.flatMap fun r => s.ueMerge (u.addr + r.2 * u.pitch) (u.w * (if u.fmt = 2 then 1 else 2))).dedup
    | _, _ => []

/-- FRAME_END, with the words in error that its capture met. -/
def State.frameTaken (s : State) (n : Fin 16) (m : Msg) : State :=
  let met := s.captureMeets n m
  (s.frameEnd n m).memMet met

/-! ## The meanings -/

def execLaneConfig (t : Nat) (p : Packet) (s : State) : Host.Outcome State Fault Refusal := .next (s.packet t (some opLaneConfig) 0x0900 p)
def execLaneBitslip (t : Nat) (p : Packet) (s : State) : Host.Outcome State Fault Refusal := .next (s.packet t (some opLaneBitslip) 0x0901 p)
def execLaneStatus (t : Nat) (p : Packet) (s : State) : Host.Outcome State Fault Refusal := .next (s.packet t (some opLaneStatus) 0x0902 p)
def execLaneBond (t : Nat) (p : Packet) (s : State) : Host.Outcome State Fault Refusal := .next (s.packet t (some opLaneBond) 0x0903 p)
def execDiscoveryScan (t : Nat) (p : Packet) (s : State) : Host.Outcome State Fault Refusal := .next (s.packet t (some opDiscoveryScan) 0x0904 p)
def execHeadCommand (t : Nat) (p : Packet) (s : State) : Host.Outcome State Fault Refusal := .next (s.packet t (some opHeadCommand) 0x0905 p)
def execLaneSignalLost (t : Nat) (lane : Lane) (cause : LossCause) (s : State) : Host.Outcome State Fault Refusal :=
  .next (s.chainAct t fun s => s.laneSignalLost lane cause)
def execLaneSignalOk (t : Nat) (lane : Lane) (s : State) : Host.Outcome State Fault Refusal := .next (s.chainAct t fun s => s.laneSignalOk lane)
def execLaneAligned (t : Nat) (lane : Lane) (pos : Fin 66) (s : State) : Host.Outcome State Fault Refusal :=
  .next (s.chainAct t fun s => s.laneAligned lane pos)
def execAttemptTimeout (t : Nat) (lane : Lane) (s : State) : Host.Outcome State Fault Refusal := .next (s.chainAct t fun s => s.attemptTimeout lane)
def execBackoffEnd (t : Nat) (lane : Lane) (s : State) : Host.Outcome State Fault Refusal := .next (s.chainAct t fun s => s.backoffEnd lane)
def execDiscoveryRescan (t : Nat) (s : State) : Host.Outcome State Fault Refusal := .next (s.act t State.rescanDue)
def execHello (t : Nat) (n : Fin 16) (m : Msg) (s : State) : Host.Outcome State Fault Refusal := .next (s.chainAct t fun s => s.headHello n m)
def execFrameStart (t : Nat) (n : Fin 16) (m : Msg) (s : State) : Host.Outcome State Fault Refusal := .next (s.act t fun s => s.frameStart n m)
def execLine (t : Nat) (n : Fin 16) (m : Msg) (s : State) : Host.Outcome State Fault Refusal := .next (s.act t fun s => s.lineSeen n m)
def execFrameEnd (t : Nat) (n : Fin 16) (m : Msg) (s : State) : Host.Outcome State Fault Refusal := .next (s.act t fun s => s.frameTaken n m)
def execSensor (t : Nat) (n : Fin 16) (m : Msg) (s : State) : Host.Outcome State Fault Refusal := .next (s.act t fun s => s.sensor n m)
def execReply (t : Nat) (n : Fin 16) (m : Msg) (s : State) : Host.Outcome State Fault Refusal := .next (s.act t fun s => s.replySeen n m)
def execWindow (t : Nat) (n : Fin 16) (m : Msg) (s : State) : Host.Outcome State Fault Refusal := .next (s.act t fun s => s.windowMsg n m)
def execTime (t : Nat) (n : Fin 16) (s : State) : Host.Outcome State Fault Refusal := .next (s.act t fun s => s.sendTime n)
def execTimeEcho (t : Nat) (n : Fin 16) (m : Msg) (s : State) : Host.Outcome State Fault Refusal := .next (s.act t fun s => s.timeEcho n m)
def execTimeMiss (t : Nat) (n : Fin 16) (s : State) : Host.Outcome State Fault Refusal := .next (s.act t fun s => s.timeMiss n)
def execHeadReplyTimeout (t : Nat) (n : Fin 16) (s : State) : Host.Outcome State Fault Refusal := .next (s.act t fun s => s.replyTimeout n)
def execAlign (t : Nat) (port : RPort) (k num : Fin 4) (stripe : Word) (s : State) : Host.Outcome State Fault Refusal :=
  .next (s.chainAct t fun s => s.alignBlock port k num stripe.toNat (portLane port k))
def execLaneErased (t : Nat) (port : RPort) (k : Fin 4) (s : State) : Host.Outcome State Fault Refusal := .next (s.chainAct t fun s => s.laneErased port k (portLane port k))

end Sys2Proof.Machine
end

