-- ==== Sys2Proof/Machine/TimeOps.lean ====
section
/-! DEFINITION. The opcodes of group 0x0A (12_network_time.md R391, R395) and the events of the Ethernet ports and of network time. -/

namespace Sys2Proof.Machine

open Sys2Proof

/-! ## The commands -/

/-- What a worker answers to the commands that act on network time. -/
def managerOnly (s : State) (_ : Ctx) (_ : Mode) : Option Nat := if s.chain.manager then none else some 1

/-- TIME_GET: all values at one instant. -/
def opTimeGet : OpSpec :=
  { read := true, params := fun _ c => firstBad [exactLen c.params 0]
    run := fun s _ =>
      let u := s.time
      let st := s.timeState
      { st := s, body := timeBytes s.now ++ s64 u.offset ++ (if u.valid then s64 ((s.now : Int) + u.offset) else leBytes 8 0) ++ leBytes 4 st
                         ++ leBytes 2 (st / 65536) ++ leBytes 2 0 } }

/-- The writes of TIME_SERVO_CONFIG. -/
def servoWrites (c : Ctx) : List RegWr := wordsTo c 0 [timeConfig, stepThreshold, servoGains, servoLock]

/-- TIME_SERVO_CONFIG: AUTO_STEP and STEP_THRESHOLD belong to the secure world. -/
def opTimeServoConfig : OpSpec :=
  { world := fun s c =>
      let secret := flag (leWord c.params 0) 2 != s.regB timeConfig 2 || leWord c.params 4 != s.reg stepThreshold
      if secret && !c.secure then some 0 else ofBlock 7 s c
    mode := fun s c m =>
      match managerOnly s c m with
      | some k => some k
      | none => if field (leWord c.params 0) 0 2 ≠ s.timeSource ∧ m ≠ .config ∧ m ≠ .idle then some 1 else none
    params := fun s c => let bad := s.writesBad (servoWrites c); firstBad [exactLen c.params 16, (bad.isSome, bad.getD 0)]
    run := fun s c => c.done (s.doWrites (servoWrites c)).1 }

/-- The flags of TIME_STEP. -/
def stepForce (c : Ctx) : Bool := (byteAt c.params 0).testBit 0
def stepPending (c : Ctx) : Bool := (byteAt c.params 0).testBit 1
def stepAbsolute (c : Ctx) : Bool := (byteAt c.params 0).testBit 2

/-- The OFFSET that a TIME_STEP asks for, an s64. -/
def State.stepTarget (s : State) (c : Ctx) : Int :=
  if stepPending c then s.newOffset + s.time.pending.getD 0
  else
    let v := signed 64 (leAt c.params 4 8)
    if stepAbsolute c then v else signed 64 (unsignedOf 64 (s.newOffset + v))

/-- STEP_REFUSED under R391 and R395. -/
def State.stepRefused (s : State) (c : Ctx) : Bool :=
  let small := !(s.time.valid || s.time.apply.isSome) || decide ((s.stepTarget c - s.newOffset).natAbs ≤ (s.reg stepThreshold).toNat)
  !stepForce c && !s.stepMode && (stepPending c || !small)

/-- TIME_STEP. -/
def opTimeStep : OpSpec :=
  { world := fun s c => if stepForce c then always s c else ofBlock 7 s c
    mode := managerOnly
    params := fun s c =>
      firstBad [exactLen c.params 12, (decide (7 < leAt c.params 0 4), 0), (stepPending c && s.time.pending.isNone, 0), (!stepPending c && s.timeSource != 2, 0)]
    check := fun s c => if s.stepRefused c then some { status := .stepRefused } else none
    run := fun s c =>
      let old := s.newOffset
      let new := s.stepTarget c
      let s := s.offsetStep fun s =>
        let s := s.stepTo (if stepForce c then 3 else 2) new
        if s.time.servo = .stepHeld then s.setServo .tracking else s.timeStatus
      { c.done s with body := s64 old ++ s64 new } }

/-- PTP_CONFIG. -/
def opPtpConfig : OpSpec :=
  { world := ofBlock 7
    mode := fun s c m => match managerOnly s c m with
      | some k => some k
      | none => onlyIn [.config, .idle] s c m
    params := fun s c => let bad := s.writesBad (wordsTo c 0 [ptpConfig]); firstBad [exactLen c.params 4, (bad.isSome, bad.getD 0)]
    run := fun s c => c.done (s.doWrites (wordsTo c 0 [ptpConfig])).1 }

/-- TIME_STATUS. -/
def opTimeStatus : OpSpec :=
  { read := true, params := fun _ c => firstBad [exactLen c.params 0]
    run := fun s _ =>
      let w (a : Nat) : List Byte := leBytes 4 (regView s a).toNat
      { st := s, body := w 0x08801014 ++ w 0x08801028 ++ w 0x0880102C ++ w 0x08801030 ++ s64 (s.time.pending.getD 0) ++ s.masterId ++ w stepsApplied
                         ++ w stepsRefused ++ w syncMissed ++ leBytes 1 ((s.time.ptpPort.map (·.val)).getD 0xFF) ++ leBytes 3 0 } }

/-! ## Events -/

/-- A frame that reaches an enabled Ethernet port (R397, R398). -/
def State.ethFrame (s : State) (n : Fin 2) (f : State → State) : State := if s.regB (ethReg n 4) 0 then f (s.count (ethReg n 0x20)) else s

/-! ## The meanings -/

def execTimeGet (t : Nat) (p : Packet) (s : State) : Host.Outcome State Fault Refusal := .next (s.packet t (some opTimeGet) 0x0A00 p)
def execTimeServoConfig (t : Nat) (p : Packet) (s : State) : Host.Outcome State Fault Refusal := .next (s.packet t (some opTimeServoConfig) 0x0A01 p)
def execTimeStep (t : Nat) (p : Packet) (s : State) : Host.Outcome State Fault Refusal := .next (s.packet t (some opTimeStep) 0x0A02 p)
def execPtpConfig (t : Nat) (p : Packet) (s : State) : Host.Outcome State Fault Refusal := .next (s.packet t (some opPtpConfig) 0x0A03 p)
def execTimeStatus (t : Nat) (p : Packet) (s : State) : Host.Outcome State Fault Refusal := .next (s.packet t (some opTimeStatus) 0x0A04 p)
def execEthLinkUp (t : Nat) (n : Fin 2) (s : State) : Host.Outcome State Fault Refusal := .next (s.act t fun s => (s.ethUp n).chooseMaster)
def execEthLinkDown (t : Nat) (n : Fin 2) (s : State) : Host.Outcome State Fault Refusal := .next (s.act t fun s => s.ethDown n)
def execArpRequest (t : Nat) (n : Fin 2) (sender : HostAddr) (target : Word) (s : State) : Host.Outcome State Fault Refusal :=
  .next (s.act t fun s => s.arp n sender target)
def execIcmpEcho (t : Nat) (n : Fin 2) (sender : HostAddr) (target : Word) (data : List Byte) (s : State) : Host.Outcome State Fault Refusal :=
  .next (s.act t fun s => s.echo n sender target data)
def execAnnounce (t : Nat) (n : Fin 2) (a : Announce) (s : State) : Host.Outcome State Fault Refusal :=
  .next (s.act t fun s => s.ethFrame n fun s => s.announce n a)
def execSync (t : Nat) (n : Fin 2) (m : PtpTime) (stamp interval : Int) (s : State) : Host.Outcome State Fault Refusal :=
  .next (s.act t fun s => s.ethFrame n fun s => s.offsetStep fun s => s.ptpSync n m stamp interval)
def execFollowUp (t : Nat) (n : Fin 2) (m : PtpTime) (s : State) : Host.Outcome State Fault Refusal :=
  .next (s.act t fun s => s.ethFrame n fun s => s.offsetStep fun s => s.ptpFollow n m)
def execDelayReq (t : Nat) (s : State) : Host.Outcome State Fault Refusal := .next (s.act t State.ptpDelayReq)
def execDelayResp (t : Nat) (n : Fin 2) (m : PtpTime) (s : State) : Host.Outcome State Fault Refusal :=
  .next (s.act t fun s => s.ethFrame n fun s => s.ptpDelayResp n m)
def execHoldover (t : Nat) (s : State) : Host.Outcome State Fault Refusal := .next (s.act t State.holdover)
def execOffsetBroadcast (t : Nat) (s : State) : Host.Outcome State Fault Refusal := .next (s.act t State.sendOffset)
def execOffsetApply (t : Nat) (s : State) : Host.Outcome State Fault Refusal := .next (s.act t State.offsetApply)

end Sys2Proof.Machine
end

