-- ==== Sys2Proof/Machine/Motors.lean ====
section
/-! DEFINITION. The opcodes of group 0x0B (13_brace_motion.md R411, R428) and the events of Brace. -/

namespace Sys2Proof.Machine

open Sys2Proof

/-! ## Ports and gangs -/

def isMotor : Leaf → Bool
  | .motor _ => true
  | _ => false
def leafMotor : Leaf → Fin 8
  | .motor n => n
  | _ => 0

/-- The custom frames at and below a target. -/
def State.framesUnder (s : State) : Nat → Target → List Nat
  | 0, _ => []
  | fuel + 1, t =>
    (match t with
      | .frame id => [id]
      | _ => []) ++ (s.membersOf t).flatMap fun m => s.framesUnder fuel m.2

/-- The gangs that a command addresses: GANG frames at or below its path (R411). -/
def State.gangsOf (s : State) (c : Ctx) : List (List (Fin 8)) :=
  (s.framesUnder 8 c.target).filterMap fun id => (s.frameOf id).bind fun f => if f.isGang && !f.motors.isEmpty then some f.motors else none

/-- The gang through which a command reaches a port. -/
def State.gangVia (s : State) (c : Ctx) (p : Fin 8) : Option (List (Fin 8)) := (s.gangsOf c).find? fun g => g.contains p

/-- Whether a member keeps its gang from moving: ABSENT, DISABLED or in FAULT. -/
def State.gangOut (s : State) (g : List (Fin 8)) : Bool :=
  g.any fun p => let st := s.unitState (.motor p); st == stAbsent || st == stDisabled || st == stFault

/-- Whether the members of a gang differ in KIND, limits or soft limits (R411). -/
def State.gangDiffers (s : State) (g : List (Fin 8)) : Bool :=
  let key (p : Fin 8) : List Nat := s.mpKind p :: [0x14, 0x18, 0x1C, 0x20, 0x48, 0x4C].map fun o => (s.reg (mpReg p o)).toNat
  match g with
  | [] => false
  | p :: r => r.any fun q => key q != key p

/-- The check of a motion command's gangs. -/
def gangCheck (s : State) (c : Ctx) : Option Rej :=
  if (s.gangsOf c).any s.gangOut then some Rej.noUnit else if (s.gangsOf c).any s.gangDiffers then some (Rej.param 0xFFFF) else none

/-- A check of one port's motion as a rejection. -/
def rejOf (r : Option (Status × Nat)) : Option Rej := r.map fun e => { status := e.1, cause := e.2 }

/-- Per-port work of a motion command: a gang is served once, through its first member, for all of them (R411). -/
def perAxis (s : State) (c : Ctx) (u : Leaf) (one : State → Fin 8 → State) (all : State → List (Fin 8) → State) : State :=
  let p := leafMotor u
  match s.gangVia c p with
  | some g => if g.head? = some p then all s g else s
  | none => one s p

/-- Per-port check of MOVE and HOME: a port of a gang takes them from its gang alone (R411). -/
def axisCheck (s : State) (c : Ctx) (u : Leaf) (one : Fin 8 → Option (Status × Nat)) (all : List (Fin 8) → Option (Status × Nat)) : Option Rej :=
  let p := leafMotor u
  match s.gangVia c p with
  | some g => if g.head? = some p then rejOf (all g) else none
  | none => if s.inGang p then some (Rej.mode 1) else rejOf (one p)

/-! ## MOVE, STOP and HOME -/

/-- The mode, distance and direction of a MOVE. -/
def moveKind (c : Ctx) : Nat := byteAt c.params 0
def moveValue (c : Ctx) : Int := leS32 c.params 4

/-- A gang's move as its members take it: a position move runs every member by the distance that the first member has to go. -/
def State.gangMove (s : State) (g : List (Fin 8)) (kind : Nat) (v : Int) : Nat × Int :=
  if kind = 2 then (2, v)
  else
    let p := g.headD 0
    (1, s.moveTarget p kind v - s.axisPos p)

/-- The checks of a gang's move. -/
def State.gangMoveRefused (s : State) (g : List (Fin 8)) (kind : Nat) (v : Int) : Option (Status × Nat) :=
  let m := s.gangMove g kind v
  if kind = 0 ∧ g.any (fun p => !(s.axis p).homed) = true then some (.wrongMode, 1) else g.findSome? fun p => s.moveRefused p m.1 m.2

/-- MOVE. -/
def opMove : OpSpec :=
  { sched := true, path := .fan isMotor false, world := ofBlock 8, mode := fun s _ m => s.motionCause m, check := gangCheck
    params := fun _ c => firstBad [exactLen c.params 8, (decide (2 < moveKind c), 0), reservedBad c.params 1 3]
    leafOk := fun s c u =>
      axisCheck s c u (fun p => s.moveRefused p (moveKind c) (moveValue c)) fun g => s.gangMoveRefused g (moveKind c) (moveValue c)
    leafRun := fun s c u =>
      ((perAxis s c u (fun st p => st.doMove p (moveKind c) (moveValue c)) fun st g =>
        let m := st.gangMove g (moveKind c) (moveValue c)
        g.foldl (fun x p => x.doMove p m.1 m.2) st).fanMark c u, []) }

/-- STOP: addressed to a member it stops the whole gang. -/
def opStop : OpSpec :=
  { sched := true, path := .fan isMotor false, check := gangCheck, params := fun _ c => firstBad [exactLen c.params 0]
    leafRun := fun s _ u => ((s.gangOf (leafMotor u)).foldl (fun st p => st.doStop p) s, []) }

/-- HOME. -/
def opHome : OpSpec :=
  { sched := true, path := .fan isMotor false, world := ofBlock 8, mode := fun s _ m => s.motionCause m, check := gangCheck
    params := fun _ c => firstBad [exactLen c.params 0]
    leafOk := fun s c u => axisCheck s c u s.homeRefused fun g => g.findSome? s.homeRefused
    leafRun := fun s c u => ((perAxis s c u (fun st p => st.doHome p) fun st g => g.foldl (fun x p => x.doHome p) st).fanMark c u, []) }

/-! ## Settings and status -/

/-- The writes of PORT_CONFIG and LIMITS_SET to one port. -/
def portWrites (c : Ctx) (u : Leaf) : List RegWr := wordsTo c 0 ([4, 8, 0xC, 0x10].map (mpReg (leafMotor u)))
def limitWrites (c : Ctx) (u : Leaf) : List RegWr := wordsTo c 0 ([0x14, 0x18, 0x1C, 0x20].map (mpReg (leafMotor u)))

/-- PORT_CONFIG. -/
def opPortConfig : OpSpec :=
  { path := .fan isMotor false, world := ofBlock 8, mode := onlyIn [.config, .idle], params := fun _ c => firstBad [exactLen c.params 16]
    leafOk := fun s c u => match s.writesBad (portWrites c u) with
      | some k => some (Rej.param k)
      | none => if (s.axis (leafMotor u)).moving then some (Rej.mode 0xB) else none
    leafRun := fun s c u => ((s.doWrites (portWrites c u)).1, []) }

/-- LIMITS_SET. -/
def opLimitsSet : OpSpec :=
  { sched := true, path := .fan isMotor false, world := ofBlock 8, params := fun _ c => firstBad [exactLen c.params 16]
    leafOk := fun s c u => s.writesOk (limitWrites c u), leafRun := fun s c u => ((s.doWrites (limitWrites c u)).1, []) }

/-- An axis's entry of AXIS_STATUS. -/
def State.axisStatus (s : State) (p : Fin 8) : List Byte :=
  ([mpReg p 0, mpReg p 0x80, mpReg p 0x84, mpReg p 0x88, mpReg p 0x8C] ++ [8, 0xC, 0x10].map (fbReg (s.fbSel p))).flatMap fun a =>
    leBytes 4 (regView s a).toNat

/-- AXIS_STATUS. -/
def opAxisStatus : OpSpec :=
  { read := true, path := .fan isMotor false, params := fun _ c => firstBad [exactLen c.params 0], most := fun c => if c.jumbo then 48 else 43
    leafRun := fun s _ u => (s, s.axisStatus (leafMotor u)) }

/-- POSITION_SET. -/
def opPositionSet : OpSpec :=
  { path := .fan isMotor false, world := ofBlock 8, mode := fun _ _ m => if m = .config ∨ m = .idle then none else some 0xB
    params := fun _ c => firstBad [exactLen c.params 8, (decide (1 < leAt c.params 4 4), 4)]
    leafOk := fun s _ u => if (s.axis (leafMotor u)).moving then some (Rej.mode 0xB) else none
    leafRun := fun s c u => (s.setPosition (leafMotor u) (leS32 c.params 0) ((byteAt c.params 4).testBit 0), []) }

/-- PASSTHROUGH_CONFIG: PT_CONFIG of an output takes the source and the enable (R424, R434). -/
def opPassthroughConfig : OpSpec :=
  { world := ofBlock 8
    params := fun _ c =>
      firstBad [exactLen c.params 4, (decide (1 < byteAt c.params 0), 0), (decide (7 < byteAt c.params 1), 1), (decide (1 < byteAt c.params 2), 2)
               , reservedBad c.params 3 1]
    run := fun s c =>
      c.done (s.doWrites (leafWrites [(0x070C0000 + 4 * byteAt c.params 0, word (byteAt c.params 1 + 256 * byteAt c.params 2), 0)])).1 }

/-! ## The meanings -/

def execPortConfig (t : Nat) (p : Packet) (s : State) : Host.Outcome State Fault Refusal := .next (s.packet t (some opPortConfig) 0x0B00 p)
def execMove (t : Nat) (p : Packet) (s : State) : Host.Outcome State Fault Refusal := .next (s.packet t (some opMove) 0x0B01 p)
def execStop (t : Nat) (p : Packet) (s : State) : Host.Outcome State Fault Refusal := .next (s.packet t (some opStop) 0x0B02 p)
def execHome (t : Nat) (p : Packet) (s : State) : Host.Outcome State Fault Refusal := .next (s.packet t (some opHome) 0x0B03 p)
def execLimitsSet (t : Nat) (p : Packet) (s : State) : Host.Outcome State Fault Refusal := .next (s.packet t (some opLimitsSet) 0x0B04 p)
def execAxisStatus (t : Nat) (p : Packet) (s : State) : Host.Outcome State Fault Refusal := .next (s.packet t (some opAxisStatus) 0x0B05 p)
def execPositionSet (t : Nat) (p : Packet) (s : State) : Host.Outcome State Fault Refusal := .next (s.packet t (some opPositionSet) 0x0B06 p)
def execPassthroughConfig (t : Nat) (p : Packet) (s : State) : Host.Outcome State Fault Refusal := .next (s.packet t (some opPassthroughConfig) 0x0B07 p)
def execPlanningTick (t : Nat) (p : Fin 8) (s : State) : Host.Outcome State Fault Refusal := .next (s.driveAct t fun s => (s.planTick p).coverWatch.closeEnd)
def execMoveDone (t : Nat) (p : Fin 8) (s : State) : Host.Outcome State Fault Refusal := .next (s.driveAct t fun s => (s.moveDone p).closeEnd)
def execHoldCurrent (t : Nat) (p : Fin 8) (s : State) : Host.Outcome State Fault Refusal := .next (s.driveAct t fun s => s.holdCurrent p)
def execDriverShort (t : Nat) (p : Fin 8) (s : State) : Host.Outcome State Fault Refusal := .next (s.driveAct t fun s => (s.driverShort p).closeEnd)
def execHomeStall (t : Nat) (p : Fin 8) (s : State) : Host.Outcome State Fault Refusal := .next (s.driveAct t fun s => (s.homeStall p).closeEnd)
def execHomeDone (t : Nat) (p : Fin 8) (s : State) : Host.Outcome State Fault Refusal := .next (s.driveAct t fun s => (s.homeDone p).closeEnd)
def execLimitEdge (t : Nat) (p : Fin 8) (positive level : Bool) (s : State) : Host.Outcome State Fault Refusal :=
  .next (s.driveAct t fun s => (s.limitEdge p positive level).closeEnd)
def execIndexEvent (t : Nat) (f : Fin 8) (quadError : Bool) (s : State) : Host.Outcome State Fault Refusal :=
  .next (s.driveAct t fun s => s.refEvent f quadError)
def execEncoderFault (t : Nat) (f : Fin 8) (s : State) : Host.Outcome State Fault Refusal := .next (s.driveAct t fun s => (s.encoderFault f).closeEnd)
def execFeedbackEdge (t : Nat) (f : Fin 8) (a b z stable : Bool) (s : State) : Host.Outcome State Fault Refusal :=
  .next (s.driveAct t fun s => s.feedbackEdge f a b z stable)
def execChatterQuiet (t : Nat) (p : Fin 8) (positive : Bool) (s : State) : Host.Outcome State Fault Refusal :=
  .next (s.act t fun s => s.chatterQuiet p positive)

end Sys2Proof.Machine
end

