-- ==== Sys2Proof/Machine/Frames.lean ====
section
/-! DEFINITION. The opcodes of group 0x0F: custom frames (01_architecture.md R37, R38, 03 R110). -/

namespace Sys2Proof.Machine

open Sys2Proof

/-! ## Members -/

/-- What a member path names in this device; the root is no member. -/
def State.memberAt (s : State) (path : List Byte) : Option Member :=
  if pathFormed path = true ∧ byteAt path 0 = s.chain.index then
    match s.walk .root (levelsOf path) with
    | some (.leaf u) => some (.leaf u)
    | some (.dflt k) => some (.dflt k)
    | some (.frame id) => some (.frame id)
    | _ => none
  else none

/-- Whether a member is a motor port. -/
def Member.motor : Member → Bool
  | .leaf u => isMotor u
  | _ => false

/-- Whether the custom frame `id` is a target or lies below it. -/
def State.reachesFrame (s : State) (id : Nat) : Nat → Target → Bool
  | 0, _ => false
  | fuel + 1, t => t == .frame id || (s.membersOf t).any fun m => s.reachesFrame id fuel m.2

/-- The levels of the tree below a target. -/
def State.depthIn (s : State) : Nat → Target → Nat
  | 0, _ => 0
  | fuel + 1, t => ((s.membersOf t).map fun m => 1 + s.depthIn fuel m.2).foldl max 0

/-- Whether every limit of R37 on counts and depth holds: no path exceeds eight levels. -/
def State.framingOk (s : State) : Bool :=
  decide (s.front.frames.length ≤ 249) && (s.front.frames.all fun f => decide (f.members.length ≤ 255)) && decide (s.depthIn 9 .root ≤ 7)

/-- A member takes the lowest free index; one that is there already keeps its own. -/
def addMember (l : List (Nat × Member)) (m : Member) : List (Nat × Member) :=
  if l.any fun x => x.2 == m then l
  else (((List.range 255).find? fun i => l.all fun x => x.1 != i).map fun i => l ++ [(i, m)]).getD l

def addMembers (l : List (Nat × Member)) (ms : List Member) : List (Nat × Member) := ms.foldl addMember l

/-- The member paths of a request. -/
def pathsOf (ps : List Byte) : List (List Byte) := tabulate ((ps.length - 4) / 8) fun i => (ps.drop (4 + 8 * i)).take 8
def State.membersIn (s : State) (ps : List Byte) : List Member := (pathsOf ps).filterMap s.memberAt

/-- The offset of the first member path that a request may not name. -/
def State.memberBad (s : State) (ps : List Byte) (bad : Member → Bool) : Option Nat :=
  let l := pathsOf ps
  (List.range l.length).find? (fun i => match s.memberAt (l.getD i []) with
    | some m => bad m
    | none => true) |>.map fun i => 4 + 8 * i

/-! ## Frames -/

def State.setFrames (s : State) (l : List Frame) : State := { s with front := { s.front with frames := l } }
def State.onFrame (s : State) (id : Nat) (f : Frame → Frame) : State := s.setFrames (s.front.frames.map fun x => if x.id = id then f x else x)

/-- The frames that some path still reaches. -/
def State.pruneFrames (s : State) : State := s.setFrames (s.front.frames.filter fun f => s.reachesFrame f.id 9 .root)

/-- A frame is deleted, with its places in other frames. -/
def State.dropFrameOf (s : State) (id : Nat) : State :=
  (s.setFrames ((s.front.frames.filter fun f => f.id != id).map fun f => { f with members := f.members.filter fun m => m.2 != .frame id })).pruneFrames

/-- A member as a path names it best: a unit through its default frame, a frame where it was created. `via` are the levels of the frame that
lists it. -/
def State.memberLevels (s : State) (via : List Nat) (i : Nat) (t : Target) : List Nat :=
  match t with
  | .leaf u => ((List.finRange 6).flatMap fun k => (dfltLeaves k).zipIdx.filterMap fun x => if x.1 = u then some [k.val, x.2] else none).headD (via ++ [i])
  | .dflt k => [k.val]
  | .frame id => match (s.frameOf id).bind (·.level1) with
    | some j => [j]
    | none => via ++ [i]
  | .root => []

/-- FRAME_LIST: attributes, the number of members and their paths; as many paths as the reply holds. -/
def State.listFrame (s : State) (t : Target) (lv : List Nat) (room : Nat) : List Byte :=
  let attrs := match t with
    | .frame id => ((s.frameOf id).map fun f => f.attrs.toNat).getD 0
    | .leaf _ => 0
    | _ => 1
  let ms := s.membersOf t
  leBytes 1 attrs ++ leBytes 1 ms.length ++ leBytes 2 0 ++ (ms.take room).flatMap fun m => s.fullPath (s.memberLevels lv m.1 m.2)

/-! ## World and BUSY (R38, R478, R479) -/

/-- Whether a target is a frame of the safety chain. -/
def State.safetyFrame (s : State) : Target → Bool
  | .frame id => ((s.frameOf id).map fun f => f.attrs.getLsbD 2).getD false
  | _ => false

/-- What a new frame's path leaves when its own index is taken off: the frame that it becomes a member of, or the root. -/
def State.parentOf (s : State) (lv : List Nat) : Option Target := if lv.isEmpty then none else s.walk .root lv.dropLast

/-- Whether a framing change would change or delete a frame of the safety chain: its own, one that holds a frame deleted, or one that no path reaches any more. -/
def State.safetyHit (s u : State) : Bool := s.front.frames.any fun f => f.attrs.getLsbD 2 && !u.front.frames.contains f

/-- The world check: secure for a frame of the safety chain, else block 10; `change` is what the command makes of the framing. -/
def frameWorld (attrs create : Bool) (change : State → Ctx → State) (s : State) (c : Ctx) : Option Nat :=
  let safe := (attrs && (c.params.getD 0 0).getLsbD 2) || s.safetyFrame (if create then (s.parentOf c.lv).getD .root else c.target) || s.safetyHit (change s c)
  if c.secure then none else if safe || s.blockS 10 then some 0 else none

/-- Whether a pending scheduled command names a frame, as its target or on the way to it. -/
def State.schedNames (s : State) (id : Nat) : Bool :=
  s.front.sched.any fun e =>
    let lv := levelsOf e.packet.path
    (List.range (lv.length + 1)).any fun n => s.walk .root (lv.take n) == some (.frame id)

/-- Whether a unit carries out a fanned-out motion or exposure command (R38): a motion, jog or Scribe pass that a frame was addressed with, or the layer's
exposure, which the device's root was (log entry 44). -/
def State.acting (s : State) (u : Leaf) : Bool :=
  match u with
  | .motor p => (s.axis p).moving && s.front.fanned.contains u
  | .beam b => (s.kerf b).engine.runs || (((s.chan b).jog.isSome || (s.scribe b).pass.isSome) && s.front.fanned.contains u)
  | _ => false

/-- BUSY for a change of a frame; one of its membership also waits for scheduled commands. -/
def State.frameBusy (s : State) (t : Target) (membership : Bool) : Option Rej :=
  match t with
  | .frame id => if (membership && s.schedNames id) || (s.leavesUnder t []).any (fun x => s.acting x.2.1) then some Rej.busy else none
  | _ => none

/-- The number of the custom frame that a command's path names. -/
def Ctx.frameId (c : Ctx) : Option Nat :=
  match c.target with
  | .frame id => some id
  | _ => none

/-- A framing request to what is no custom frame breaks R37. -/
def Ctx.notCustom (c : Ctx) : Bool × Nat := (c.frameId.isNone, 0xFFFF)

/-- The attributes of a frame. -/
def State.frameAttrs (s : State) (c : Ctx) : Byte := ((c.frameId.bind s.frameOf).map (·.attrs)).getD 0

/-- Whether all members are motor ports. -/
def allMotors (ms : List Member) : Bool := ms.all Member.motor

/-! ## The opcodes (R110) -/

/-- Where a new frame would stand: its index at level 1, or the frame that it becomes a member of with its index there. -/
def State.newPlace (s : State) (lv : List Nat) : Option (Option Nat × Nat) :=
  match lv with
  | [] => none
  | [i] => if 6 ≤ i ∧ i ≤ 254 ∧ (s.front.frames.all fun f => f.level1 != some i) = true then some (none, i) else none
  | _ => match s.parentOf lv, lv.getLast? with
    | some (.frame id), some i => match s.frameOf id with
      | some f => if f.attrs.getLsbD 1 = false ∧ (f.members.all fun m => m.1 != i) = true then some (some id, i) else none
      | none => none
    | _, _ => none

/-- The framing once a frame has been created. -/
def State.withFrame (s : State) (place : Option Nat × Nat) (attrs : Byte) (ms : List Member) : State :=
  let id := s.front.nextFrame
  let f : Frame := { id := id, level1 := if place.1.isNone then some place.2 else none, attrs := attrs, members := addMembers [] ms }
  let s : State := { s with front := { s.front with frames := s.front.frames ++ [f], nextFrame := id + 1 } }
  match place.1 with
  | none => s
  | some q => s.onFrame q fun x => { x with members := sortBy (fun m => m.1) (x.members ++ [(place.2, .frame id)]) }

/-- The bytes that a list of member paths takes. -/
def countBad (ps : List Byte) (off : Nat) : Bool × Nat := (ps.length != 4 + 8 * byteAt ps off, 0xFFFF)

/-- FRAME_CREATE. -/
def opFrameCreate : OpSpec :=
  { path := .frame, world := frameWorld true true fun s _ => s
    params := fun s c =>
      let ms := s.membersIn c.params
      match firstBad [((s.newPlace c.lv).isNone && (c.lv.isEmpty || (s.parentOf c.lv).isSome), 0xFFFF), minLen c.params 4, countBad c.params 1, (decide (7 < byteAt c.params 0), 0), reservedBad c.params 2 2] with
      | some k => some k
      | none => match s.memberBad c.params fun _ => false with
        | some k => some k
        | none =>
          if (byteAt c.params 0).testBit 1 ∧ allMotors ms = false then some 0
          else match s.newPlace c.lv with
            | some place =>
              let above := match place.1 with
                | some id => ms.any fun m => s.reachesFrame id 9 m.target
                | none => false
              if above = true ∨ (s.withFrame place 0 ms).framingOk = false then some 0xFFFF else none
            | none => none
    check := fun s c => match s.parentOf c.lv with
      | none => some Rej.noUnit
      | some q => s.frameBusy q true
    run := fun s c => match s.newPlace c.lv with
      | some place => c.done (s.withFrame place (BitVec.ofNat 8 (byteAt c.params 0)) (s.membersIn c.params))
      | none => { st := s, status := .badParam, cause := 0xFFFF } }

/-- The frames that a frame is a member of: deleting it changes their membership (R38). -/
def State.framesOver (s : State) (id : Nat) : List Target := (s.front.frames.filter fun f => f.members.any fun m => m.2 == .frame id).map fun f => .frame f.id

/-- FRAME_DELETE. -/
def opFrameDelete : OpSpec :=
  { path := .unit, world := frameWorld false false fun s c => match c.frameId with | some id => s.dropFrameOf id | none => s
    params := fun _ c => firstBad [c.notCustom, exactLen c.params 0]
    check := fun s c => (c.target :: s.framesOver (c.frameId.getD 0)).findSome? fun t => s.frameBusy t true
    run := fun s c => c.done (s.dropFrameOf (c.frameId.getD 0)) }

/-- The framing once members have been added. -/
def State.withMembers (s : State) (c : Ctx) : State :=
  s.onFrame (c.frameId.getD 0) fun f => { f with members := sortBy (fun m => m.1) (addMembers f.members (s.membersIn c.params)) }

/-- The number of members that a frame would have. -/
def State.grownTo (s : State) (c : Ctx) : Nat :=
  let old := ((c.frameId.bind s.frameOf).map (·.members)).getD []
  old.length + ((s.membersIn c.params).eraseDups.filter fun m => old.all fun x => x.2 != m).length

/-- FRAME_ADD: a member may not hold the frame itself, and a GANG frame takes motor ports alone. -/
def opFrameAdd : OpSpec :=
  { path := .unit, world := frameWorld false false fun s _ => s
    params := fun s c =>
      match firstBad [c.notCustom, minLen c.params 4, countBad c.params 0, reservedBad c.params 1 3] with
      | some k => some k
      | none =>
        let gang := (s.frameAttrs c).getLsbD 1
        match s.memberBad c.params fun m => (gang && !m.motor) || s.reachesFrame (c.frameId.getD 0) 9 m.target with
        | some k => some k
        | none => if 255 < s.grownTo c ∨ (s.withMembers c).framingOk = false then some 0xFFFF else none
    check := fun s c => s.frameBusy c.target true
    run := fun s c => c.done (s.withMembers c) }

/-- The framing without the members that a FRAME_REMOVE names. -/
def State.dropMembers (s : State) (c : Ctx) : State :=
  let gone := s.membersIn c.params
  (s.onFrame (c.frameId.getD 0) fun f => { f with members := f.members.filter fun m => !gone.contains m.2 }).pruneFrames

/-- FRAME_REMOVE: each path names a member. -/
def opFrameRemove : OpSpec :=
  { path := .unit, world := frameWorld false false State.dropMembers
    params := fun s c =>
      match firstBad [c.notCustom, minLen c.params 4, countBad c.params 0, reservedBad c.params 1 3] with
      | some k => some k
      | none =>
        let old := ((c.frameId.bind s.frameOf).map (·.members)).getD []
        s.memberBad c.params fun m => old.all fun x => x.2 != m
    check := fun s c => s.frameBusy c.target true
    run := fun s c => c.done (s.dropMembers c) }

/-- FRAME_LIST: of a unit or of any frame. -/
def opFrameList : OpSpec :=
  { read := true, path := .unit, params := fun _ c => firstBad [exactLen c.params 0]
    run := fun s c => { st := s, body := s.listFrame c.target c.lv (if c.jumbo then 255 else 172) } }

/-- FRAME_ATTR. -/
def opFrameAttr : OpSpec :=
  { path := .unit, world := frameWorld true false fun s _ => s
    params := fun s c =>
      let ms := (((c.frameId.bind s.frameOf).map (·.members)).getD []).map (·.2)
      firstBad [c.notCustom, exactLen c.params 4, (decide (7 < byteAt c.params 0) || ((byteAt c.params 0).testBit 1 && !allMotors ms), 0), reservedBad c.params 1 3]
    check := fun s c => s.frameBusy c.target false
    run := fun s c => c.done (s.onFrame (c.frameId.getD 0) fun f => { f with attrs := BitVec.ofNat 8 (byteAt c.params 0) }) }

/-! ## The meanings -/

def execFrameCreate (t : Nat) (p : Packet) (s : State) : Host.Outcome State Fault Refusal := .next (s.packet t (some opFrameCreate) 0x0F00 p)
def execFrameDelete (t : Nat) (p : Packet) (s : State) : Host.Outcome State Fault Refusal := .next (s.packet t (some opFrameDelete) 0x0F01 p)
def execFrameAdd (t : Nat) (p : Packet) (s : State) : Host.Outcome State Fault Refusal := .next (s.packet t (some opFrameAdd) 0x0F02 p)
def execFrameRemove (t : Nat) (p : Packet) (s : State) : Host.Outcome State Fault Refusal := .next (s.packet t (some opFrameRemove) 0x0F03 p)
def execFrameList (t : Nat) (p : Packet) (s : State) : Host.Outcome State Fault Refusal := .next (s.packet t (some opFrameList) 0x0F04 p)
def execFrameAttr (t : Nat) (p : Packet) (s : State) : Host.Outcome State Fault Refusal := .next (s.packet t (some opFrameAttr) 0x0F05 p)

end Sys2Proof.Machine
end

