-- ==== Sys2Proof/Machine/Lamps.lean ====
section
/-! DEFINITION. The opcodes of group 0x0C (14_illumination.md R441-R448) and the events of the chamber lights. -/

namespace Sys2Proof.Machine

open Sys2Proof

def isLed : Leaf → Bool
  | .led _ => true
  | _ => false
def leafLed : Leaf → Fin 16
  | .led n => n
  | _ => 0

/-- LED_CONFIG. -/
def opLedConfig : OpSpec :=
  let ws (c : Ctx) (u : Leaf) : List RegWr := wordsTo c 0 ([4, 0x14].map (ledReg (leafLed u)))
  { path := .fan isLed false, world := ofBlock 9, params := fun _ c => firstBad [exactLen c.params 8]
    leafOk := fun s c u => s.writesOk (ws c u), leafRun := fun s c u => ((s.doWrites (ws c u)).1, []) }

/-- LED_STAGE. -/
def opLedStage : OpSpec :=
  { path := .fan isLed false, world := ofBlock 9, params := fun _ c => firstBad [exactLen c.params 4, (!iSetOk (leAt c.params 0 2), 0)]
    leafRun := fun s c u => (s.ledStage (leafLed u) (leAt c.params 0 2) (leAt c.params 2 2), []) }

/-- The time that a chain needs to hear of a commit (R443). -/
def State.chainLead (s : State) : Nat := if s.chain.manager && !s.workers.isEmpty then 50 * micro else 0

/-- The workers hear of a commit and its apply time (R443). -/
def State.sendCommit (s : State) (id due : Nat) : State := s.toWorkers ctlCommit (leBytes 2 id ++ leBytes 2 0 ++ timeBytes due)

/-- LED_COMMIT: in a chain, one that is not scheduled applies 50 µs after its acceptance everywhere. -/
def opLedCommit : OpSpec :=
  { sched := true, world := ofBlock 9, mode := managerOnly, lead := State.chainLead
    params := fun _ c => firstBad [exactLen c.params 4, reservedBad c.params 2 2]
    accept := fun s c => match c.due with
      | some due => s.sendCommit (leAt c.params 0 2) due
      | none => s
    run := fun s c =>
      let id := leAt c.params 0 2
      let due := s.now + s.chainLead
      c.done (if c.later || s.chainLead == 0 then s.ledCommit id else (s.sendCommit id due).awaitCommit due id) }

/-- LED_STATUS. -/
def opLedStatus : OpSpec :=
  { read := true, path := .fan isLed false, params := fun _ c => firstBad [exactLen c.params 0]
    leafRun := fun s _ u => (s, [0, 8, 0x10, 0x18].flatMap fun o => leBytes 4 (regView s (ledReg (leafLed u) o)).toNat) }

/-- ADJACENCY_TEST. -/
def opAdjacencyTest : OpSpec :=
  { sched := true, world := ofBlock 9, mode := fun _ _ m => if m.driveOn then none else some 1, params := fun _ c => firstBad [exactLen c.params 0]
    check := fun s _ => if s.lights.testing.isEmpty then none else some Rej.busy, run := fun s c => c.done s.startAdjacency }

/-! ## The meanings -/

def execLedConfig (t : Nat) (p : Packet) (s : State) : Host.Outcome State Fault Refusal := .next (s.packet t (some opLedConfig) 0x0C00 p)
def execLedStage (t : Nat) (p : Packet) (s : State) : Host.Outcome State Fault Refusal := .next (s.packet t (some opLedStage) 0x0C01 p)
def execLedCommit (t : Nat) (p : Packet) (s : State) : Host.Outcome State Fault Refusal := .next (s.packet t (some opLedCommit) 0x0C02 p)
def execLedStatus (t : Nat) (p : Packet) (s : State) : Host.Outcome State Fault Refusal := .next (s.packet t (some opLedStatus) 0x0C03 p)
def execAdjacencyTest (t : Nat) (p : Packet) (s : State) : Host.Outcome State Fault Refusal := .next (s.packet t (some opAdjacencyTest) 0x0C04 p)
def execWindowStart (t : Nat) (n : Fin 16) (s : State) : Host.Outcome State Fault Refusal := .next (s.driveAct t fun s => s.windowStart n)
def execWindowEnd (t : Nat) (n : Fin 16) (s : State) : Host.Outcome State Fault Refusal := .next (s.driveAct t fun s => s.windowEnd n)
def execNtcConversion (t : Nat) (ohms : List (Option Nat)) (s : State) : Host.Outcome State Fault Refusal :=
  .next (s.driveAct t fun s => s.ntcConvert ohms)
def execLedShort (t : Nat) (c : Fin 16) (s : State) : Host.Outcome State Fault Refusal := .next (s.driveAct t fun s => s.ledShort c)
def execLedOpen (t : Nat) (c : Fin 16) (s : State) : Host.Outcome State Fault Refusal := .next (s.driveAct t fun s => s.ledOpen c)
def execProvingPulse (t : Nat) (c : Fin 16) (slot pass : Bool) (s : State) : Host.Outcome State Fault Refusal :=
  .next (s.driveAct t fun s => s.provingPulse c slot pass)
def execAdjacencyStep (t : Nat) (c : Fin 16) (seen : AdjSeen) (s : State) : Host.Outcome State Fault Refusal :=
  .next (s.driveAct t fun s => s.adjacencyStep c seen)

end Sys2Proof.Machine
end

