-- ==== Sys2Proof/Machine/Records.lean ====
section
/-! DEFINITION. The opcodes of group 0x0D and the recorder's events (15_tally_rings.md R464-R475). -/

namespace Sys2Proof.Machine

open Sys2Proof

/-! ## Reading records (R474) -/

/-- Whether staged pages will go to an area: 1 the first-records area while it is not full, else 0 the circular area. -/
def Tally.stagedGoTo (t : Tally) (area : Nat) : Bool := decide (area = 1) == decide (t.firstArea.length < firstPages)

/-- The pages of an area. -/
def Tally.area (t : Tally) (area : Nat) : List Page := if area = 1 then t.firstArea else t.circ

/-- Whether a page has lost both copies (R454). -/
def Page.lost (p : Page) : Bool := !p.copies.1 && !p.copies.2

/-- Records in index order. -/
def inOrder (rs : List TRec) : List TRec := sortBy (fun (r : TRec) => r.index) rs

/-- The records of pages that have a good copy, in index order. -/
def recsOf (ps : List Page) : List TRec := inOrder ((ps.filter fun p => !p.lost).flatMap (·.recs))

/-- The whole records that fit `room` bytes, at most `n`. -/
def fitRecs : Nat → Nat → List TRec → List TRec
  | 0, _, _ => []
  | _, _, [] => []
  | n + 1, room, r :: rs => if r.size ≤ room then r :: fitRecs n (room - r.size) rs else []

/-- The result of a read: the records of `pages`, with `staged` behind them, from an index on, that `keep` names. -/
def readRecs (pages : List Page) (staged : List TRec) (start n room : Nat) (keep : TRec → Bool) : List Byte :=
  let all := inOrder (recsOf pages ++ staged)
  let late := match all.head? with
    | some r => decide (start < r.index)
    | none => false
  let from_ := match all.head? with
    | some r => max start r.index
    | none => start
  let cands := all.filter fun r => decide (from_ ≤ r.index) && keep r
  let got := fitRecs n room cands
  let ended := decide (got.length = cands.length)
  let last := (got.getLast?.map (·.index)).getD from_
  let hole := pages.any fun p => p.lost && decide (from_ ≤ (p.recs.map (·.index)).foldl max p.first) && (ended || decide (p.first ≤ last))
  let fromStage := got.any fun r => staged.any fun q => q.index == r.index
  leBytes 8 ((got.head?.map (·.index)).getD from_) ++ leBytes 2 got.length
    ++ leBytes 2 (bit (late || hole) + 2 * bit ended + 4 * bit fromStage) ++ leBytes 4 0 ++ got.flatMap TRec.bytes

/-- A page as a read finds it (R454): where one copy is bad the other is used and the bad one is written again into the pool; where both are, the
page is lost. Each bad copy counts, and NVM_PAGE names the page. -/
def State.meetPage (s : State) (p : Page) : State :=
  let q := s.copiesBad
  let n := q.1
  let s := q.2
  if p.lost || n == 0 then s
  else
    let first := s.tally.firstArea.any fun x => x.seq == p.seq
    let mark (x : Page) : Page := if x.seq = p.seq then { x with copies := (decide (n < 2), decide (n < 2)) } else x
    let s : State := { s with tally := { s.tally with
      pageFail := s.tally.pageFail + n, retired := s.tally.retired + (if n = 1 then 1 else 0), firstArea := s.tally.firstArea.map mark, circ := s.tally.circ.map mark } }
    s.raise 0x0D01 1 0x62 [] (leBytes 1 (bit (!first)) ++ leBytes 1 n ++ leBytes 2 0 ++ leBytes 4 p.seq)

/-- The pages that a read from index `start` meets, in turn, until `n` records that `keep` names or `room` bytes of them are found; `acc` are those
found so far. -/
def State.meetPages (keep : TRec → Bool) (start n room : Nat) : List Page → List TRec → State → State
  | [], _, s => s
  | p :: ps, acc, s =>
    if p.lost || decide ((p.recs.map (·.index)).foldl max 0 < start) then State.meetPages keep start n room ps acc s
    else if (fitRecs n room acc).length < acc.length then s
    else State.meetPages keep start n room ps (acc ++ p.recs.filter fun r => decide (start ≤ r.index) && keep r) (s.meetPage p)

/-- The bytes of records that one reply holds. -/
def Ctx.recRoom (c : Ctx) : Nat := if c.jumbo then 8160 else 1368

/-- TALLY_READ. -/
def opTallyRead : OpSpec :=
  { read := true
    params := fun _ c => firstBad [exactLen c.params 16, (decide (1 < byteAt c.params 0), 0), (decide (1 < byteAt c.params 1), 1), reservedBad c.params 3 1,
      (decide (leAt c.params 12 2 = 0) || decide (255 < leAt c.params 12 2), 12), reservedBad c.params 14 2]
    run := fun s c =>
      let area := byteAt c.params 0
      let ty := byteAt c.params 2
      let keep (r : TRec) : Bool := decide (ty = 0) || r.type == ty
      let start := leAt c.params 4 8
      let n := leAt c.params 12 2
      let staged := if byteAt c.params 1 = 1 ∧ s.tally.stagedGoTo area = true then s.tally.staged else []
      let s := State.meetPages keep start n c.recRoom (s.tally.area area) [] s
      { st := s, body := readRecs (s.tally.area area) staged start n c.recRoom keep } }

/-- AUDIT_READ: the AUDIT records of a session, or of all. -/
def opAuditRead : OpSpec :=
  { read := true
    params := fun _ c => firstBad [exactLen c.params 16, (decide (leAt c.params 12 2 = 0) || decide (255 < leAt c.params 12 2), 12), reservedBad c.params 14 2]
    run := fun s c =>
      let se := leAt c.params 8 4
      let keep (r : TRec) : Bool := r.type == recAudit && (decide (se = 0) || leAt r.body 4 4 == se)
      let start := leAt c.params 0 8
      let n := leAt c.params 12 2
      let staged := s.tally.staged
      let s := State.meetPages keep start n c.recRoom (s.tally.firstArea ++ s.tally.circ) [] s
      { st := s, body := readRecs (s.tally.firstArea ++ s.tally.circ) staged start n c.recRoom keep } }

/-- All ones in 8 bytes. -/
def none64 : Nat := 0xFFFFFFFFFFFFFFFF

/-- The lowest index that is not committed: in staging, being written, in the pre-buffer, or the next one to be given. -/
def Tally.firstOpen (t : Tally) : Nat :=
  ((inOrder (t.staged ++ t.writing.toList ++ t.pre)).head?.map (·.index)).getD t.next

/-- TALLY_INFO. -/
def opTallyInfo : OpSpec := readOp .root fun s _ =>
  let t := s.tally
  leBytes 8 t.next ++ leBytes 8 ((t.circ.head?.map (·.first)).getD none64) ++ leBytes 8 (((recsOf t.firstArea).getLast?.map (·.index)).getD none64)
    ++ leBytes 8 t.firstOpen ++ leBytes 4 (regView s 0x09000000).toNat ++ leBytes 4 t.retired ++ leBytes 4 (s.reg rLostTotal).toNat
    ++ leBytes 2 t.pages.length ++ leBytes 2 t.tokens ++ leBytes 4 t.lastEra

/-! ## Rings (R471, R472, R474) -/

/-- The bytes that a RINGS_READ may ask for. -/
def Ctx.ringsRoom (c : Ctx) : Nat := if c.jumbo then 8168 else 1376

/-- RINGS_READ: the live image, or the one committed last. The spec gives no image before the first commit: its sequence and bytes are free. -/
def opRingsRead : OpSpec :=
  { read := true
    params := fun _ c =>
      let off := leAt c.params 4 4
      let n := leAt c.params 8 4
      firstBad [exactLen c.params 12, (decide (1 < byteAt c.params 0), 0), reservedBad c.params 1 3, (off % 4 != 0, 4),
        (n % 4 != 0 || decide (n < 4) || decide (c.ringsRoom < n) || decide (12288 < off + n), 8)]
    run := fun s c =>
      let off := leAt c.params 4 4
      let n := leAt c.params 8 4
      let of (r : Rings) : Res := { st := s, body := leBytes 8 r.seq ++ (r.image.drop off).take n }
      if byteAt c.params 0 = 0 then of s.tally.rings
      else match s.tally.ringsNv.head? with
        | some r => of r
        | none => { st := { s with draws := s.draws + n + 8 }, body := tabulate (n + 8) fun i => BitVec.ofNat 8 (Config.freeNat (s.draws + i)) } }

/-- The 31 limits of a RINGS_CONFIG. -/
def Ctx.limits (c : Ctx) : List Int := tabulate 31 fun i => leS32 c.params (4 + 4 * i)

/-- The first limit that is not above the one before it. -/
def notRising (l : List Int) : Option Nat := (List.range (l.length - 1)).find? fun i => decide (l.getD (i + 1) 0 ≤ l.getD i 0)

/-- RINGS_CONFIG. -/
def opRingsConfig : OpSpec :=
  { world := always
    params := fun _ c => match firstBad [exactLen c.params 128, (decide (4 < byteAt c.params 0), 0), reservedBad c.params 1 3] with
      | some k => some k
      | none => (notRising c.limits).map fun i => 4 + 4 * (i + 1)
    run := fun s c => c.done (s.rings fun r => { r with limits := updAt r.limits (byteAt c.params 0) fun _ => c.limits }) }

/-! ## TALLY_MARK -/

/-- Whether a HOST_MARK finds a place (R464, R465). -/
def Tally.markFits (t : Tally) : Bool := !t.full && (t.writing.isNone || decide ((t.pre.filter fun r => r.type != recSnapshot).length < 60))

/-- TALLY_MARK: BUSY while staging is full when it executes, and then not written (R473). -/
def opTallyMark : OpSpec :=
  { sched := true, world := ofBlock 11
    params := fun _ c => firstBad [minLen c.params 4, (decide (244 < c.params.length) || c.params.length % 4 != 0, 0xFFFF)]
    slots := fun s c => if c.due.isNone && !s.tally.markFits then some Rej.busy else none
    run := fun s c =>
      let q := s.tallyNew recMark (leBytes 4 c.p.session.toNat ++ c.params)
      { st := q.1, body := leBytes 8 (q.2.getD 0), audit := some (.params c.params) } }

/-! ## Events (R464, R465, R468-R472) -/

def State.onTally (s : State) (f : Tally → Tally) : State := { s with tally := f s.tally }

/-- A LOST record still in staging, being written or in the pre-buffer, whose counts a new one adds to (R459). -/
def addLost (n b : Nat) : List TRec → Option (List TRec)
  | [] => none
  | r :: rs =>
    if r.type = recLost then
      some ({ r with body := leBytes 4 (min (leAt r.body 0 4 + n) 0xFFFFFFFF) ++ (r.body.drop 4).take 2 ++ leBytes 2 (eraOf b) ++ (r.body.drop 8).take 4 ++ leBytes 4 (nsOf b) } :: rs)
    else (addLost n b rs).map fun l => r :: l

/-- The lost events are reported: a LOST record and TALLY_LOST (R464). -/
def State.reportLost (s : State) : State :=
  let t := s.tally
  if t.lostNow = 0 ∨ t.full = true then s
  else
    let n := t.lostNow
    let s : State := { s with tally := { t with lostNow := 0 } }
    let s : State := match addLost n t.lostTo t.staged, addLost n t.lostTo t.writing.toList, addLost n t.lostTo t.pre with
      | some l, _, _ => { s with tally := { s.tally with staged := l } }
      | _, some l, _ => { s with tally := { s.tally with writing := l.head? } }
      | _, _, some l => { s with tally := { s.tally with pre := l } }
      | _, _, _ => s.record recLost (lostBody n t.lostFrom t.lostTo)
    s.raise 0x0D00 1 0 [] (leBytes 4 n)

/-- The write of a record into staging is complete. -/
def State.stagingWritten (s : State) : State := if s.tally.writing.isNone then s else s.stagingDone.reportLost

/-- A page that is due commits with a token (R465). -/
def State.pageCommit (s : State) : State :=
  if s.pageDue && decide (0 < s.tally.tokens) then (s.commitOldest 1).onTally fun t => { t with tokens := t.tokens - 1 } else s

/-- A temperature in units of 0.01 °C from one in 1/256 °C, rounded up so that it compares with whole limits as it stands. -/
def centi (v : Int) : Int := -((-(v * 100)) / 256)

/-- The highest valid NTC_TEMP. -/
def State.hottest (s : State) : Option Int :=
  ((List.range 4).filterMap fun k => let v := s.regF (ntcReg k) 0 16; if v = 0x8000 then none else some (signed 16 v)).max?

/-- A second of device time has passed: a token accrues, and the Rings count the second and its temperatures (R465, R470). -/
def State.secondPassed (s : State) : State :=
  let s := s.onTally fun t => { t with tokens := min (t.tokens + 1) (max t.tokens s.burst) }
  let s := s.rings fun r => { r with hubSecs := r.hubSecs + 1 }
  let s := s.ringHist 1 (centi (signed 16 (regView s 0x0B00001C).toNat))
  match s.hottest with
  | some v => s.ringHist 2 v
  | none => s

/-- The time of the next Rings commit: every 600 s from the end of start-up (R472). -/
def State.nextRings (s : State) : Nat :=
  let z := s.power.startupEnd
  z + 600 * second * ((s.tally.rings.commitAt - z) / (600 * second) + 1)

/-- The low 16 bits of the era wrap (R468). -/
def State.eraWraps (s : State) : State := (s.reach ((s.tally.lastEra / 65536 + 1) * 65536 * eraLen)).eraMark 1

/-! ## The meanings -/

def execTallyRead (t : Nat) (p : Packet) (s : State) : Host.Outcome State Fault Refusal := .next (s.packet t (some opTallyRead) 0x0D00 p)
def execTallyInfo (t : Nat) (p : Packet) (s : State) : Host.Outcome State Fault Refusal := .next (s.packet t (some opTallyInfo) 0x0D01 p)
def execAuditRead (t : Nat) (p : Packet) (s : State) : Host.Outcome State Fault Refusal := .next (s.packet t (some opAuditRead) 0x0D02 p)
def execRingsRead (t : Nat) (p : Packet) (s : State) : Host.Outcome State Fault Refusal := .next (s.packet t (some opRingsRead) 0x0D03 p)
def execTallyMark (t : Nat) (p : Packet) (s : State) : Host.Outcome State Fault Refusal := .next (s.packet t (some opTallyMark) 0x0D04 p)
def execRingsConfig (t : Nat) (p : Packet) (s : State) : Host.Outcome State Fault Refusal := .next (s.packet t (some opRingsConfig) 0x0D05 p)
def execPageCommit (t : Nat) (s : State) : Host.Outcome State Fault Refusal := .next (s.act t State.pageCommit)
def execTokenAccrual (t : Nat) (s : State) : Host.Outcome State Fault Refusal := .next (s.act t State.secondPassed)
def execRingsCommit (t : Nat) (s : State) : Host.Outcome State Fault Refusal := .next (s.act t fun s => (s.reach s.nextRings).ringsCommit)
def execEraMark (t : Nat) (s : State) : Host.Outcome State Fault Refusal := .next (s.act t State.eraWraps)
def execStagingWriteComplete (t : Nat) (s : State) : Host.Outcome State Fault Refusal := .next (s.act t State.stagingWritten)

end Sys2Proof.Machine
end

