-- ==== Sys2Proof/Machine/Secure.lean ====
section
/-! DEFINITION. The opcodes of group 0x0E (16_security.md R480, R483-R488): worlds, the key and the firmware slots. -/

namespace Sys2Proof.Machine

open Sys2Proof

def State.onSec (s : State) (f : Security → Security) : State := { s with sec := f s.sec }

/-- A slot as SEC_INFO reports it (R488). -/
def Slot.info (x : Slot) : List Byte :=
  let held := !(x.st == .empty || x.st == .writing || x.st == .invalid)
  leBytes 1 x.st.code ++ leBytes 1 0 ++ leBytes 2 (if held then x.secVer else 0) ++ leBytes 4 (if held then x.fwVer.toNat else 0)

/-- SEC_INFO. -/
def opSecInfo : OpSpec := readOp .root fun s _ =>
  leBytes 4 (regView s 0x0A000000).toNat ++ leBytes 4 (s.reg 0x0A000004).toNat ++ s.keyCheck ++ leBytes 4 s.sec.secFloor ++ s.sec.slotA.info ++ s.sec.slotB.info

/-- WORLD_ASSIGN (R480): the mask is in force once the reply has been sent. -/
def opWorldAssign : OpSpec :=
  { world := always, mode := onlyIn [.config, .idle]
    params := fun _ c => firstBad [exactLen c.params 8, (decide (4096 ≤ leAt c.params 0 4), 0), (leAt c.params 4 4 != 0, 4)]
    run := fun s c => { st := s, audit := some (.regs [(0x0A000004, s.reg 0x0A000004, leWord c.params 0)]) }
    after := fun s c => s.setReg 0x0A000004 (leWord c.params 0) }

/-- The cause of a KEY_PROVISION's BAD_PARAM. With all four slots programmed the command is BUSY instead. -/
def keyBad (s : State) (c : Ctx) : Option Nat :=
  let key := (c.params.drop 4).take 32
  let n := s.sec.keys.length
  firstBad [exactLen c.params 40, (decide (n < 4) && byteAt c.params 0 != n, 0), reservedBad c.params 1 3,
    (key.all (· == 0) || key.all (· == 0xFF), 4), (crc32c key != leWord c.params 36, 36)]

/-- KEY_PROVISION (R484, R487): over SPI or Ethernet alone. Its reply carries a tag under the old key; the audit keeps the slot, not the key. -/
def opKeyProvision : OpSpec :=
  { world := always
    mode := fun s c m => if m ≠ .config ∨ c.p.port = .rafter ∨ s.linkUp c.p.port = false then some 1 else none
    params := keyBad
    slots := fun s _ => if decide (4 ≤ s.sec.keys.length) || s.front.transfers.any (·.secure) then some Rej.busy else none
    run := fun s c => { st := s, audit := some (.params (c.params.take 4)) }
    after := fun s c =>
      let s := s.onSec fun k => { k with keys := k.keys ++ [(c.params.drop 4).take 32] }
      s.raise 0x0E00 0 0 [] (leBytes 1 (byteAt c.params 0) ++ leBytes 3 0 ++ s.keyCheck) }

/-- The slot that UPDATE_BEGIN opens: the one that is not ACTIVE; slot A when neither is. -/
def Security.target (k : Security) : Bool := k.slotA.st == .active

/-- UPDATE_BEGIN (R486). -/
def opUpdateBegin : OpSpec :=
  { world := always, mode := onlyIn [.update], params := fun _ c => firstBad [exactLen c.params 0]
    slots := fun s _ => if (s.sec.find .trial).isSome || s.slotWriting then some Rej.busy else none
    run := fun s c =>
      let b := s.sec.target
      let x := s.sec.slot b
      { st := s.setSlots (s.sec.setSlot b { x with st := .writing, trialSet := false, sigOk := false }) 0
        body := leBytes 1 (bit b) ++ leBytes 3 0, audit := some (.params c.params) } }

/-- The result of checking the image in a slot (R485, R486). -/
def State.imageResult (s : State) (b : Bool) : Nat :=
  let base := if b then 0x1000000 else 0
  let h := Memory.reads s.nv base 256
  let len := leAt h 12 4
  if leAt h 0 4 ≠ 0x4D49464A ∨ leAt h 4 2 ≠ 1 then 1
  else if len < 4 ∨ 16776960 < len ∨ len % 4 ≠ 0 then 2
  else if sha256 (Memory.reads s.nv (base + 256) len) ≠ (h.drop 16).take 32 then 3
  else if Config.signatureOk (h.take 192) = false then 4
  else if leAt h 6 2 < s.sec.secFloor then 5
  else 0

/-- UPDATE_VERIFY (R486). -/
def opUpdateVerify : OpSpec :=
  { world := always, params := fun _ c => firstBad [exactLen c.params 0]
    mode := fun s _ m => if m ≠ .update ∨ s.slotWriting = false then some 1 else none
    slots := fun s _ => if s.front.transfers.any fun t => t.kind == 4 then some Rej.busy else none
    run := fun s c =>
      let b := (s.sec.find .writing).getD false
      let r := s.imageResult b
      let h := Memory.reads s.nv (if b then 0x1000000 else 0) 256
      let x := s.sec.slot b
      let y : Slot := if r = 0 then { x with st := .written, sigOk := true, secVer := leAt h 6 2, fwVer := leWord h 8 } else { x with st := .invalid, sigOk := false }
      { st := s.setSlots (s.sec.setSlot b y) r, body := leBytes 1 r ++ leBytes 3 0, audit := some (.params c.params) } }

/-- UPDATE_COMMIT (R486): the reply, then the update reset. -/
def opUpdateCommit : OpSpec :=
  { world := always, params := fun _ c => firstBad [exactLen c.params 0]
    mode := fun s _ m => if m ≠ .update ∨ (s.sec.find .written).isNone = true then some 1 else none
    run := fun s c =>
      let b := (s.sec.find .written).getD false
      c.done (s.setSlots (s.sec.setSlot b { s.sec.slot b with st := .trial, trialSet := false }) 0)
    after := fun s _ => s.deviceReset 0x100 }

/-- UPDATE_CONFIRM (R486). -/
def opUpdateConfirm : OpSpec :=
  { world := always, params := fun _ c => firstBad [exactLen c.params 0]
    mode := fun s _ m => if (m ≠ .config ∧ m ≠ .idle) ∨ (s.sec.find .trial).isNone = true then some 1 else none
    run := fun s c =>
      let b := (s.sec.find .trial).getD false
      let k := match s.sec.find .active with
        | some a => s.sec.setState a .standby
        | none => s.sec
      let k := k.setState b .active
      c.done (s.setSlots { k with secFloor := max k.secFloor (k.slot b).secVer } 0) }

/-! ## The meanings -/

def execSecInfo (t : Nat) (p : Packet) (s : State) : Host.Outcome State Fault Refusal := .next (s.packet t (some opSecInfo) 0x0E00 p)
def execWorldAssign (t : Nat) (p : Packet) (s : State) : Host.Outcome State Fault Refusal := .next (s.packet t (some opWorldAssign) 0x0E01 p)
def execKeyProvision (t : Nat) (p : Packet) (s : State) : Host.Outcome State Fault Refusal := .next (s.packet t (some opKeyProvision) 0x0E02 p)
def execUpdateBegin (t : Nat) (p : Packet) (s : State) : Host.Outcome State Fault Refusal := .next (s.packet t (some opUpdateBegin) 0x0E03 p)
def execUpdateVerify (t : Nat) (p : Packet) (s : State) : Host.Outcome State Fault Refusal := .next (s.packet t (some opUpdateVerify) 0x0E04 p)
def execUpdateCommit (t : Nat) (p : Packet) (s : State) : Host.Outcome State Fault Refusal := .next (s.packet t (some opUpdateCommit) 0x0E05 p)
def execUpdateConfirm (t : Nat) (p : Packet) (s : State) : Host.Outcome State Fault Refusal := .next (s.packet t (some opUpdateConfirm) 0x0E06 p)

end Sys2Proof.Machine
end

