-- ==== Sys2Proof/Machine/OpTable.lean ====
section
/-! DEFINITION. The opcodes by number (03_tirril_packets.md R96): what a packet means that comes over SPI, over the chain or from the schedule. -/

namespace Sys2Proof.Machine

open Sys2Proof

/-- Group 0x00. -/
def group00 (op : Nat) : Option OpSpec :=
  match op with
  | 0x0000 => some opPing
  | 0x0001 => some opSessionOpen
  | 0x0002 => some opSessionClose
  | 0x0003 => some opDeviceInfo
  | 0x0004 => some opStatusGet
  | 0x0005 => some opFaultAck
  | 0x0010 => some opModeSet
  | 0x0011 => some opHold
  | 0x0012 => some opSafe
  | 0x0013 => some opLatchClear
  | 0x0014 => some opReset
  | 0x0015 => some opShutdown
  | 0x0020 => some opScheduleList
  | 0x0021 => some opScheduleCancel
  | 0x0030 => some opAlertMask
  | 0x0031 => some opAlertAck
  | _ => none

/-- Group 0x01. -/
def group01 (op : Nat) : Option OpSpec :=
  match op with
  | 0x0100 => some opRegRead
  | 0x0101 => some opRegWrite
  | 0x0102 => some opRegModify
  | 0x0103 => some opRegReadList
  | 0x0104 => some opRegWriteList
  | _ => none

/-- Group 0x02. -/
def group02 (op : Nat) : Option OpSpec :=
  match op with
  | 0x0200 => some opBulkOpen
  | 0x0201 => some opBulkData
  | 0x0202 => some opBulkClose
  | 0x0203 => some opBulkAbort
  | 0x0204 => some opBulkStatus
  | 0x0205 => some opBulkRead
  | _ => none

/-- Group 0x03. -/
def group03 (op : Nat) : Option OpSpec :=
  match op with
  | 0x0300 => some opJobBegin
  | 0x0301 => some opJobEnd
  | 0x0302 => some opLayerDeclare
  | 0x0303 => some opLayerActivate
  | 0x0304 => some opLayerResume
  | 0x0305 => some opLayerStatus
  | 0x0306 => some opLayerAbort
  | _ => none

/-- Group 0x04. -/
def group04 (op : Nat) : Option OpSpec :=
  match op with
  | 0x0400 => some opBeamEnable
  | 0x0401 => some opBeamDisable
  | 0x0402 => some opParamSetLoad
  | 0x0403 => some opBeamStatus
  | 0x0404 => some opLaserSafetySet
  | 0x0405 => some opScannerJog
  | _ => none

/-- Group 0x05. -/
def group05 (op : Nat) : Option OpSpec :=
  match op with
  | 0x0500 => some opTrussConfig
  | 0x0501 => some opTerritoryLoad
  | 0x0502 => some opGasflowSet
  | 0x0503 => some opTrussStatus
  | 0x0504 => some opStickQuery
  | _ => none

/-- Group 0x06. -/
def group06 (op : Nat) : Option OpSpec :=
  match op with
  | 0x0600 => some opPlumbConfig
  | 0x0601 => some opPlumbFeatures
  | 0x0602 => some opGrainMaterial
  | 0x0603 => some opGrainRead
  | 0x0604 => some opGrainClear
  | _ => none

/-- Group 0x07. -/
def group07 (op : Nat) : Option OpSpec :=
  match op with
  | 0x0700 => some opScribeTableWrite
  | 0x0701 => some opScribeTableRead
  | 0x0702 => some opScribeFiducials
  | 0x0703 => some opScribePass
  | 0x0704 => some opScribeConfirm
  | 0x0705 => some opScribeQuality
  | _ => none

/-- Group 0x08. -/
def group08 (op : Nat) : Option OpSpec :=
  match op with
  | 0x0800 => some opVeneerLayerConfig
  | 0x0801 => some opVeneerCommit
  | 0x0802 => some opVeneerFence
  | 0x0803 => some opVeneerCoeffLoad
  | 0x0804 => some opVeneerFrameRead
  | 0x0805 => some opVeneerLive
  | _ => none

/-- Group 0x09. -/
def group09 (op : Nat) : Option OpSpec :=
  match op with
  | 0x0900 => some opLaneConfig
  | 0x0901 => some opLaneBitslip
  | 0x0902 => some opLaneStatus
  | 0x0903 => some opLaneBond
  | 0x0904 => some opDiscoveryScan
  | 0x0905 => some opHeadCommand
  | _ => none

/-- Group 0x0A. -/
def group0A (op : Nat) : Option OpSpec :=
  match op with
  | 0x0A00 => some opTimeGet
  | 0x0A01 => some opTimeServoConfig
  | 0x0A02 => some opTimeStep
  | 0x0A03 => some opPtpConfig
  | 0x0A04 => some opTimeStatus
  | _ => none

/-- Group 0x0B. -/
def group0B (op : Nat) : Option OpSpec :=
  match op with
  | 0x0B00 => some opPortConfig
  | 0x0B01 => some opMove
  | 0x0B02 => some opStop
  | 0x0B03 => some opHome
  | 0x0B04 => some opLimitsSet
  | 0x0B05 => some opAxisStatus
  | 0x0B06 => some opPositionSet
  | 0x0B07 => some opPassthroughConfig
  | _ => none

/-- Group 0x0C. -/
def group0C (op : Nat) : Option OpSpec :=
  match op with
  | 0x0C00 => some opLedConfig
  | 0x0C01 => some opLedStage
  | 0x0C02 => some opLedCommit
  | 0x0C03 => some opLedStatus
  | 0x0C04 => some opAdjacencyTest
  | _ => none

/-- Group 0x0D. -/
def group0D (op : Nat) : Option OpSpec :=
  match op with
  | 0x0D00 => some opTallyRead
  | 0x0D01 => some opTallyInfo
  | 0x0D02 => some opAuditRead
  | 0x0D03 => some opRingsRead
  | 0x0D04 => some opTallyMark
  | 0x0D05 => some opRingsConfig
  | _ => none

/-- Group 0x0E. -/
def group0E (op : Nat) : Option OpSpec :=
  match op with
  | 0x0E00 => some opSecInfo
  | 0x0E01 => some opWorldAssign
  | 0x0E02 => some opKeyProvision
  | 0x0E03 => some opUpdateBegin
  | 0x0E04 => some opUpdateVerify
  | 0x0E05 => some opUpdateCommit
  | 0x0E06 => some opUpdateConfirm
  | _ => none

/-- Group 0x0F. -/
def group0F (op : Nat) : Option OpSpec :=
  match op with
  | 0x0F00 => some opFrameCreate
  | 0x0F01 => some opFrameDelete
  | 0x0F02 => some opFrameAdd
  | 0x0F03 => some opFrameRemove
  | 0x0F04 => some opFrameList
  | 0x0F05 => some opFrameAttr
  | _ => none

/-- The meaning of an opcode; none where there is no such opcode, ALERT included (R84). -/
def opSpec (op : Nat) : Option OpSpec :=
  match op / 256 with
  | 0x00 => group00 op
  | 0x01 => group01 op
  | 0x02 => group02 op
  | 0x03 => group03 op
  | 0x04 => group04 op
  | 0x05 => group05 op
  | 0x06 => group06 op
  | 0x07 => group07 op
  | 0x08 => group08 op
  | 0x09 => group09 op
  | 0x0A => group0A op
  | 0x0B => group0B op
  | 0x0C => group0C op
  | 0x0D => group0D op
  | 0x0E => group0E op
  | 0x0F => group0F op
  | _ => none

end Sys2Proof.Machine
end

