-- ==== Sys2Proof/Machine/Links.lean ====
section
/-! DEFINITION. The messages of the rafter ports (11_lanes_links.md R341, R359-R367, 06 R209-R212): the handshake and the chain's forming, TIME_SYNC, CONTROL,
TIRRIL and the exchange of Truss. -/

namespace Sys2Proof.Machine

open Sys2Proof

/-- The stripes of a message whose parity fails, which only four lanes can show; PARITY_ERR counts them (R357). -/
def State.parityErrs (s : State) (p : RPort) (m : Msg) : State :=
  if (s.rport p).port = .up ∧ m.parity ≠ 0 then s.setReg (rpReg p 0x24) (satInc (s.reg (rpReg p 0x24)) m.parity) else s

/-- A rafter message that did not come whole, that lost a stripe to its parity or whose CRC fails is discarded and counted (R339, R341, R357). -/
def State.rafterMsg (s : State) (p : RPort) (type : Nat) (m : Msg) (f : State → State) : State :=
  let bad := msgGood type m = false ∨ ((s.rport p).port = .up ∧ m.parity ≠ 0)
  let s := s.parityErrs p m
  if bad then s.count (rpReg p 0x28) else f s

/-- A message of the port's stream: only while the port carries one. -/
def State.streamMsg (s : State) (p : RPort) (type : Nat) (m : Msg) (f : State → State) : State :=
  if (s.rport p).carries then s.rafterMsg p type m f else s

/-- The port on the other side of the device. -/
def otherPort : RPort → RPort
  | .up => .down
  | .down => .up

/-! ## PORT_HELLO and the forming of the chain (R364, R365, R367) -/

/-- What a PORT_HELLO tells. -/
def helloOf (m : Msg) : Partner :=
  { deviceId := leWord m.payload 0, manager := byteAt m.payload 4 == 1, index := if byteAt m.payload 5 = 0xFF then none else some (byteAt m.payload 5)
    time := timeAt m.payload 8, via := 0 }

/-- Whether the chain is still forming at start-up step 7, with nothing scheduled that a raise of time would pass (R364, R367). -/
def State.forming (s : State) : Bool := s.chain.forming && s.front.sched.isEmpty

/-- The manager's time rises while the chain forms, and every worker that has an index takes it again (R367). -/
def State.raiseChain (s : State) (t : Nat) : State :=
  if t ≤ s.now then s
  else
    let s := s.raiseTime t
    s.workers.foldl (fun st m => st.sendRafter .down 0x02 m.1 0 (leBytes 1 m.1 ++ leBytes 3 0 ++ timeBytes st.now)) s

/-- A partner is admitted, or waits for CONFIG or IDLE (R365). -/
def State.admitOrWait (s : State) (q : Partner) : State :=
  if s.mode.mode = .config ∨ s.mode.mode = .idle ∨ s.mode.mode = .boot then s.takeIn q
  else s.onChain fun c => { c with waiting := (c.waiting.filter fun w => w.via != q.via) ++ [q] }

/-- The manager hears of a worker, its own neighbour (`via` 0) or that of a worker. -/
def State.partnerFound (s : State) (q : Partner) : State :=
  match s.chain.memberOf q with
  | some m =>
    if s.chain.restart.contains m.1 then s.chainFault 4 1 q.deviceId
    else if s.chain.lost.getLsbD m.1 then
      if q.time ≤ s.now + 10 * micro ∧ s.now ≤ q.time + 10 * micro then s.admitOrWait q
      else (s.onChain fun c => { c with restart := m.1 :: c.restart }).chainFault 4 1 q.deviceId
    else if s.chain.present.getLsbD m.1 then (if q.index.isNone then s.admitOrWait q else s)
    else if s.forming then (s.raiseChain q.time).takeIn q
    else if s.now < q.time then s.chainFault 3 1 q.deviceId
    else s.admitOrWait q
  | none =>
    if s.forming then (s.raiseChain q.time).takeIn q
    else if s.now < q.time then s.chainFault 3 1 q.deviceId
    else s.admitOrWait q

/-- The lanes of a port that are in HELLO. -/
def State.helloLanes (s : State) (p : RPort) : List Lane := (lanesOf p).filter fun l => (s.lane l).link == .hello

/-- A PORT_HELLO that changes the partner's identity on a port whose lanes are UP: each of them leaves UP for SIGNAL (R342). -/
def State.newPartner (s : State) (p : RPort) (q : Partner) : State :=
  if (s.rport p).partner.any fun x => x.deviceId != q.deviceId || x.manager != q.manager then
    ((lanesOf p).filter fun l => (s.lane l).link == .up).foldl (fun st l => match lanePort l with
      | some (_, k) => ((st.count (rpReg p 0x2C)).erase p k).startLane l false 0
      | none => st) s
  else s

/-- The neighbour's PORT_HELLO completes the handshake of its lanes, and this device's own goes back as its acknowledgement; the manager refuses one on its upstream port
(R354), and a manager on a downstream port gets no index. A worker passes what it finds on its downstream port to the manager. A neighbour whose port comes up counts its
messages from the start, so that its CONTROL numbers are all new. -/
def State.neighbourHello (s : State) (p : RPort) (m : Msg) : State :=
  let q := helloOf m
  let ls := s.helloLanes p
  if ls.isEmpty then s.newPartner p q
  else if s.chain.manager = true ∧ p = .up then (ls.foldl (fun st l => st.attemptFails l) s).chainFault 1 0 q.deviceId
  else
    let s := ls.foldl (fun st l => st.laneUp l (bit q.manager)) s
    let s := s.onRport p fun r => { r with partner := some q, ctlSeen := if r.carries then r.ctlSeen else [], segs := if r.carries then r.segs else [] }
    let s := s.sendHello p
    if p = .up then s
    else if q.manager then s.chainFault 5 1 q.deviceId
    else if s.chain.manager then s.partnerFound q
    else s.sendRafter .up 0x01 0 0 m.payload

/-- PORT_HELLO: of the neighbour, or one that workers pass to the manager. -/
def State.portHello (s : State) (p : RPort) (m : Msg) : State :=
  s.rafterMsg p 0x01 m fun s =>
    if m.dst = 0xFF then s.neighbourHello p m
    else if p = .up then s
    else if s.chain.manager then s.partnerFound { helloOf m with via := m.src.toNat }
    else s.sendFrom .up 0x01 m.src.toNat m.dst.toNat 0 m.payload

/-- A worker takes its index and the manager's time (R364, R367): its schedule is emptied first, OFFSET is valid again with the manager's first message
(R392), start-up ends when the worker waited in BOOT, and its downstream port trains. DEDUCED (log entry 58): a worker past BOOT whose index it already is,
within 10 µs of the manager's time, is readmitted: it keeps its schedule and its time, which slews. -/
def State.takeIndex (s : State) (i time : Nat) : State :=
  let back := s.mode.mode != .boot && i == s.chain.index && decide (time ≤ s.now + 10 * micro) && decide (s.now ≤ time + 10 * micro)
  let s := if back then s else
    let s := s.front.sched.foldl (fun st e => st.abortSched e) s
    let s := s.onChain fun c => { c with index := i }
    let s : State := { s with front := { s.front with moves := [], replied := [], accepted := [] } }
    (s.raiseTime time).onTime fun u => { u with valid := false, apply := none }
  let s := (lanesOf .down).foldl (fun st l => st.rescanLane l) s
  if s.mode.mode = .boot then s.finishStartup else s.report

/-- INDEX, which reaches a worker from upstream: its own, its neighbour's, or one to pass on. -/
def State.indexSeen (s : State) (m : Msg) : State :=
  if s.chain.manager then s
  else
    s.rafterMsg .up 0x02 m fun s =>
      let i := byteAt m.payload 0
      if m.dst = 0xFF ∨ i = s.chain.index then s.takeIndex i (timeAt m.payload 4)
      else
        let mine := m.dst.toNat = s.chain.index
        let s : State := if mine then s.onRport .down fun r => { r with partner := r.partner.map fun q => { q with index := some i } } else s
        s.sendFrom .down 0x02 m.src.toNat (if mine then 0xFF else m.dst.toNat) 0 m.payload

/-! ## Device time across the chain (R366, R367) -/

/-- TIME_SYNC leaves on every lane of a port that is UP. -/
def State.syncPort (s : State) (p : RPort) : State :=
  (List.range 4).foldl (fun st k =>
    if ((st.rport p).lanes.getD k noLane).link = .up then
      let q := (st.nextSeq p 0x03).1
      let st := st.sendRafter p 0x03 0xFF 0 (timeBytes st.now ++ leBytes 1 k ++ leBytes 3 0)
      st.onRport p fun r => { r with timeAt := ((k, BitVec.ofNat 8 q, st.now) :: r.timeAt).take 64 }
    else st) s

/-- The 10 µs have passed: TIME_SYNC downstream, and from a worker upstream too, whose echo measures its own hop delay (R366; DEDUCED, log entry 104). -/
def State.sendSync (s : State) : State :=
  let s := s.syncPort .down
  if s.chain.manager then s else s.syncPort .up

/-- HOP_DELAY of a lane (R375). -/
def hopDelay (p : RPort) (k : Nat) : Nat := rpReg p (0x30 + 4 * k)

/-- TIME_SYNC is answered on its lane with the turnaround, which is the implementation's; a worker measures its error by the one from upstream on the lowest lane that is
UP. The discipline acts by rate alone. -/
def State.syncSeen (s : State) (p : RPort) (k : Fin 4) (m : Msg) : State :=
  if ((s.rport p).lanes.getD k noLane).link ≠ .up then s
  else
    s.rafterMsg p 0x03 m fun s =>
      let d := s.draw
      let s := d.2.sendRafter p 0x04 0xFF 0 (leBytes 1 m.seq.toNat ++ leBytes 1 k ++ leBytes 2 0 ++ leBytes 4 d.1)
      if s.chain.manager = true ∨ p = .down then s
      else if (List.range k.val).any fun i => (s.up.lanes.getD i noLane).link == .up then s
      else
        let err : Int := ((s.now : Nat) : Int) * 100 - (((timeAt m.payload 0 * 100 + (s.reg (hopDelay .up k)).toNat : Nat)) : Int)
        s.setReg 0x0800800C (wordOfInt (clampInt (-0x80000000) 0x7FFFFFFF err))

/-- TIME_ECHO: half of the round trip less the turnaround. -/
def State.echoSeen (s : State) (p : RPort) (k : Fin 4) (m : Msg) : State :=
  s.rafterMsg p 0x04 m fun s =>
    match (s.rport p).timeAt.find? fun e => e.1 == k.val && e.2.1.toNat == byteAt m.payload 0 with
    | some e => s.setReg (hopDelay p k) (BitVec.ofNat 32 (((s.now - e.2.2) * 100 - leAt m.payload 4 4) / 2))
    | none => s

/-- A worker is lost: DEVICE_LOST, and the chain goes to HOLD (R367). -/
def State.workerGone (s : State) (i : Nat) : State :=
  if s.chain.manager && i != 0 && s.chain.present.getLsbD i then (s.deviceLost i 1).holdCause 8 else s

/-! ## CONTROL (R361) -/

/-- A worker follows the manager's mode (R46); into and out of UPDATE each device goes by itself. -/
def State.follow (s : State) (code cause : Nat) : State :=
  match modeOf code with
  | none => s
  | some m =>
    if m = .hold then s.takeHold 8
    else if s.mode.mode = m ∨ s.mode.mode = .update ∨ m = .update then s
    else if m = .pause ∧ s.mode.mode = .expose then (if s.mode.transition.isSome then s else s.beginPause)
    else s.enterMode m cause

/-- The manager's OFFSET reaches a worker (R392). -/
def State.takeOffset (s : State) (time : Nat) (v : Int) : State :=
  match s.time.apply with
  | some x => if x.2 = v then s else s.onTime fun u => { u with apply := some (time, v) }
  | none => if s.time.valid = true ∧ s.time.offset = v then s else s.onTime fun u => { u with apply := some (time, v) }

/-- What a CONTROL message of code `c` from device `src` makes the manager do: HOLD elsewhere in the chain, a worker's report, or its LAYER_DONE. -/
def State.managerControl (s : State) (src c : Nat) (b : List Byte) : State :=
  if c = ctlHold then s.holdCause 8
  else if c = ctlReport then
    s.onChain fun h => { h with
      modes := putKey src (byteAt b 0) 0xFF h.modes
      -- the chain ends at the worker that has no downstream partner (R364)
      forming := h.forming && byteAt b 1 / 2 % 2 == 0
      layers := (h.layers.filter fun l => l.1 != src) ++ (if byteAt b 1 % 2 = 1 then [(src, leAt b 4 4, leAt b 2 2)] else []) }
  else if c = ctlLayerDone then s.onChain fun h => { h with layerDone := (src + 256 * byteAt b 0) :: h.layerDone }
  else s

/-- A worker hears of a session that the manager keeps; one that closes aborts its transfers here (R88). -/
def State.remoteSession (s : State) (id client : Word) (opened jumbo : Bool) : State :=
  let rest := s.front.remote.filter fun x => x.1 != id
  let s : State := { s with front := { s.front with remote := if opened then (id, client, jumbo) :: rest else rest } }
  if opened then s else (s.front.transfers.filter fun t => t.session == id).foldl (fun st t => st.abortTransfer t 2) s

/-- A worker hears that the manager has scheduled a move, or that it has removed one (R46, R94). -/
def State.planMove (s : State) (code due : Nat) (on : Bool) : State :=
  let rest := s.front.moves.filter (· ≠ (due, code))
  { s with front := { s.front with moves := if on then rest ++ [(due, code)] else rest } }

/-- The time of a move that the manager scheduled has come: a worker whose own conditions hold moves at that time (R46); else it waits for what the manager
tells of the move. -/
def State.runMove (s : State) (m : Nat × Nat) : State :=
  let s := (s.planMove m.2 m.1 false).reach m.1
  match modeOf m.2 with
  | some d => if s.moveCause d = 0 then s.follow m.2 0 else s
  | none => s

/-- What it makes a worker do. -/
def State.workerControl (s : State) (c : Nat) (b : List Byte) : State :=
  if c = ctlMode then (s.reach (timeAt b 4)).follow (byteAt b 0) (leAt b 1 3)
  else if c = ctlPlan then s.planMove (byteAt b 0) (timeAt b 4) (byteAt b 1 == 1)
  else if c = ctlShutdown then (if s.mayShutdown then s.shutdown (if leAt b 0 4 = 1 then some (timeAt b 4) else none) else s)
  else if c = ctlScan then (lanesOf .down).foldl (fun st l => st.rescanLane l) s
  else if c = ctlOffset then s.takeOffset (timeAt b 0) (signed 64 (leAt b 8 8))
  else if c = ctlCommit then s.awaitCommit (timeAt b 4) (leAt b 0 2)
  else if c = ctlSession then s.remoteSession (leWord b 0) (leWord b 4) (byteAt b 8 == 1) (byteAt b 9 == 1)
  else if c = ctlAccepted then { s with front := { s.front with accepted := ((leWord b 0, leWord b 4, timeAt b 8, byteAt b 16) :: s.front.accepted).take 64 } }
  else s

/-- CONTROL: acknowledged at each hop; a repetition does nothing more, and what is for another device is passed on. -/
def State.controlSeen (s : State) (p : RPort) (m : Msg) : State :=
  s.streamMsg p 0x20 m fun s =>
    let s := s.sendRafter p 0x21 0xFF 0 ([m.src, m.seq] ++ leBytes 2 0)
    if (s.rport p).ctlSeen.contains m.seq then s
    else
      let s := s.onRport p fun r => { r with ctlSeen := (m.seq :: r.ctlSeen).take 64 }
      let b := m.payload.drop 4
      if m.dst.toNat ≠ s.chain.index then s.controlFrom (otherPort p) m.src.toNat m.dst.toNat m.payload
      else if s.chain.manager then s.managerControl m.src.toNat (byteAt m.payload 0) b
      else s.workerControl (byteAt m.payload 0) b

/-- CONTROL_ACK ends the repetition. -/
def State.controlAck (s : State) (p : RPort) (m : Msg) : State :=
  s.streamMsg p 0x21 m fun s =>
    s.onRport p fun r => { r with controls := r.controls.filter fun c => !(c.m.src.toNat == byteAt m.payload 0 && c.m.seq.toNat == byteAt m.payload 1) }

/-- The oldest CONTROL message that has waited 5 µs for its acknowledgement is repeated. -/
def State.controlRetry (s : State) (p : RPort) : State :=
  match sortBy (fun (c : Ctl) => c.sentAt) (s.rport p).controls with
  | [] => s
  | c :: _ =>
    let s := s.reach (c.sentAt + 5 * micro)
    let s := s.onRport p fun r => { r with controls := r.controls.map fun x => if x.m = c.m then { x with sentAt := s.now } else x }
    if (s.rport p).carries then s.emitRafter p 0x20 c.m else s

/-! ## TIRRIL (R363) -/

/-- The alert of a worker goes to the sessions that receive its group. -/
def State.workerAlert (s : State) (p : Packet) : State :=
  let code := leAt p.params 0 2
  if code = 0x0005 ∧ s.sessionOpen (leWord p.params 8) = false then s
  else (s.front.sessions.filter fun x => x.alertMask.getLsbD (code / 256)).foldl
    (fun st se => st.queueAlert se.slot code (byteAt p.params 2) (leWord p.params 4) p.path p.due (p.params.drop 8)) s

/-- The reply of worker `d` goes to whoever sent the request, and is kept for a retransmission. -/
def State.workerReply (s : State) (d : Nat) (p : Packet) (bs : List Byte) : State :=
  if p.session = 0 then
    match s.front.asked.find? fun a => a.1 == d && a.2.1 == p.sequence with
    | some a => ({ s with front := { s.front with asked := s.front.asked.erase a } }).sendBytes [(a.2.2.1, a.2.2.2)] bs
    | none => s
  else match s.session p.session with
    | none => s
    | some se =>
      let at_ := ((se.seen.find? fun x => x.seq == p.sequence).map fun x => (x.port, x.origin)).getD (se.lastPort, se.lastAddr)
      (s.sendBytes (se.dests s at_.1 at_.2) bs).setSession (se.keep p.sequence bs)

/-- A whole packet has come over the chain: at the manager a worker's reply or alert, at a worker a packet from the manager, which has told the port at which it took it
(log entry 25). -/
def State.chainPacket (s : State) (src : Nat) (bs : List Byte) : State :=
  match parsePacket .rafter ⟨0, 0, 0⟩ bs with
  | none => s
  | some (op, p0) =>
    let p := { p0 with origin := ⟨0, 0, ((s.acceptance p0).map (·.2)).getD 0⟩ }
    if s.chain.manager then
      if crc32c (rawHead op p ++ p.tag) ≠ p.crc then s
      else if op = 0x00F0 then s.workerAlert p
      else if 0x8000 ≤ op then s.workerReply src p bs
      else s
    else if s.runs then s.receive (opSpec op) op p else s

/-- TIRRIL: a segment is passed on, or joins its packet. -/
def State.tirrilSeen (s : State) (p : RPort) (m : Msg) : State :=
  s.streamMsg p 0x30 m fun s =>
    if m.dst.toNat ≠ s.chain.index then s.sendFrom (otherPort p) 0x30 m.src.toNat m.dst.toNat m.flags.toNat m.payload
    else
      let src := m.src.toNat
      let have_ := getKey src [] (s.rport p).segs
      let bs := if m.flags.getLsbD 0 then m.payload else have_ ++ m.payload
      if m.flags.getLsbD 1 then (s.onRport p fun r => { r with segs := putKey src [] [] r.segs }).chainPacket src bs
      else s.onRport p fun r => { r with segs := putKey src bs [] r.segs }

/-! ## Truss messages (06 R209-R212, R362) -/

/-- CROSS_STALE: 0 stale, 1 fresh again (R214). -/
def State.crossStale (s : State) (p : RPort) (fresh : Bool) : State :=
  s.raise 0x0504 (if fresh then 0 else 1) 0 [4, rpIndex p] (leBytes 1 (rpIndex p) ++ leBytes 1 (bit fresh) ++ leBytes 2 0)

/-- An import becomes stale, with one alert (R212). -/
def State.goStale (s : State) (p : RPort) : State :=
  if (s.rport p).stale then s else (s.onRport p fun r => { r with stale := true }).crossStale p false

/-- A gap in seq (R362): the import is stale until everything that is live has been sent again. -/
def State.startResync (s : State) (p : RPort) : State :=
  let s := (s.goStale p).onRport p fun r => { r with resync := true, inMsgs := r.inMsgs.map fun i => if i.claim || i.endless then { i with arrived := 0 } else i }
  (s.count (rpReg p 0x40)).sendRafter p 0x11 0xFF 0 []

/-- The import is fresh again; claims and endless pieces that were not sent again are gone. -/
def State.goFresh (s : State) (p : RPort) : State :=
  let was := (s.rport p).stale
  let sync := (s.rport p).resync
  let s := s.onRport p fun r => { r with
    stale := false, resync := false, inMsgs := if sync then r.inMsgs.filter fun i => !((i.claim || i.endless) && i.arrived == 0) else r.inMsgs }
  if was then s.crossStale p true else s

/-- A Truss message of a kind: its place in the sequence is checked, what it says is taken in, and a LAST one ends a resync. -/
def State.trussIn (s : State) (p : RPort) (kind : Nat) (m : Msg) (f : State → State) : State :=
  if s.crossEn = false then s
  else
    s.streamMsg p 0x10 m fun s =>
      if m.payload.length ≠ 40 ∨ byteAt m.payload 0 ≠ kind then s
      else
        let r := s.rport p
        let gap := match r.trussSeq with
          | some q => m.seq != q + 1
          | none => false
        let s := s.onRport p fun r => { r with trussSeq := some m.seq, lastMsg := s.now }
        let s := if gap then s.startResync p else s
        let s := f s
        let r := s.rport p
        if r.stale = false then s
        else if r.resync = false ∨ (gap = false ∧ m.flags.getLsbD 1 = true) then s.goFresh p else s

/-- The device time whose low 32 bits are `n` and that lies nearest to now. -/
def State.nearTime (s : State) (n : Nat) : Nat :=
  let e := eraOf s.now * eraLen
  if nsOf s.now + eraLen / 2 < n then e + n - eraLen else if n + eraLen / 2 < nsOf s.now then e + n + eraLen else e + n

/-- The piece or claim that a message carries. -/
def State.importOf (s : State) (b : List Byte) (claim : Bool) : Import :=
  let t0 := s.nearTime (leAt b 8 4)
  let dur := leAt b 12 4
  let endless := dur == 0xFFFFFFFF
  { device := byteAt b 1, beam := byteAt b 2, round := leAt b 4 4, claim := claim, endless := endless, arrived := s.now
    piece := { t0 := t0, t1 := t0 + (if endless then 2 ^ 64 else dur), px := leS32 b 16, py := leS32 b 20, qx := leS32 b 24, qy := leS32 b 28, e := leAt b 32 4, capsule := !claim && byteAt b 3 == 2 } }

/-- The same piece of the same release or claim. -/
def Import.sameAs (a b : Import) : Bool := a.device == b.device && a.beam == b.beam && a.round == b.round && a.claim == b.claim && a.piece == b.piece

/-- An import is taken in, from up to 16 beams of a neighbour (R209); a piece that is new deposits its energy (R263). -/
def State.takeImport (s : State) (p : RPort) (i : Import) : State :=
  let l := (s.rport p).inMsgs
  let names := (l.map fun x => (x.device, x.beam)).dedup
  if 15 < i.device ∨ 47 < i.beam ∨ (names.contains (i.device, i.beam) = false ∧ 16 ≤ names.length) then s
  else if l.any i.sameAs then s.onRport p fun r => { r with inMsgs := r.inMsgs.map fun x => if i.sameAs x then i else x }
  else
    let s := s.onRport p fun r => { r with inMsgs := r.inMsgs ++ [i] }
    if i.claim || i.endless then s else s.depositImport i.device i.beam i.round i.piece

/-- What a WITHDRAW or an UNCLAIM takes away. -/
def State.dropImports (s : State) (p : RPort) (b : List Byte) (claim : Bool) : State :=
  let gone (x : Import) : Bool := x.device == byteAt b 1 && x.beam == byteAt b 2 && x.round == leAt b 4 4 && x.claim == claim
  let s := s.onRport p fun r => { r with inMsgs := r.inMsgs.filter fun x => !gone x }
  if claim then s else s.undeposit (byteAt b 1) (byteAt b 2) (leAt b 4 4)

/-- No message from a port for 5 µs (R212). -/
def State.importStale (s : State) (p : RPort) : State :=
  if s.crossEn = false ∨ (s.rport p).stale = true then s else (s.reach ((s.rport p).lastMsg + 5 * micro)).goStale p

/-- What a resync sends again on a port: kind, beam, round and piece of every exported release and claim that is live. -/
def State.liveExports (s : State) (p : RPort) : List (Nat × Fin 48 × Nat × Piece) :=
  let persist := s.regF 0x04000008 16 16 * 1000
  let rels := (beams.filter fun b => s.exported p b).flatMap fun b =>
    (s.kerf b).rels.flatMap fun r => (r.pieces.filter fun q => decide (s.now < q.t1 + persist)).map fun q => (1, b, r.round, q)
  let holder := Fin.ofNat 48 s.truss.token
  rels ++ (if !s.truss.free && s.exported p holder then s.truss.claimOut.map fun q => (3, holder, s.truss.claimRound, q) else [])

/-- TRUSS_RESYNC is answered: everything live again, the last message marked LAST; a HEARTBEAT when nothing is. -/
def State.resyncAsked (s : State) (p : RPort) (m : Msg) : State :=
  s.streamMsg p 0x11 m fun s =>
    let l := s.liveExports p
    if l.isEmpty then s.sendRafter p 0x10 0xFF 2 (trussMsg 5 s.chain.index 0xFF 0 (roundLabel s.now % eraLen) 0 0 0 0 0 0 0)
    else l.zipIdx.foldl (fun st x => st.sendPiece p x.1.1 x.1.2.1 x.1.2.2.1 (if x.2 + 1 = l.length then 2 else 0) x.1.2.2.2) s

/-! ## The meanings -/

def execPortHello (t : Nat) (port : RPort) (m : Msg) (s : State) : Host.Outcome State Fault Refusal := .next (s.chainAct t fun s => s.portHello port m)
def execIndex (t : Nat) (m : Msg) (s : State) : Host.Outcome State Fault Refusal := .next (s.chainAct t fun s => s.indexSeen m)
def execTimeSyncSend (t : Nat) (s : State) : Host.Outcome State Fault Refusal := .next (s.chainAct t State.sendSync)
def execTimeSync (t : Nat) (lane : RPort × Fin 4) (m : Msg) (s : State) : Host.Outcome State Fault Refusal := .next (s.chainAct t fun s => s.syncSeen lane.1 lane.2 m)
def execRafterTimeEcho (t : Nat) (port : RPort) (k : Fin 4) (m : Msg) (s : State) : Host.Outcome State Fault Refusal :=
  .next (s.chainAct t fun s => s.echoSeen port k m)
def execControl (t : Nat) (port : RPort) (m : Msg) (s : State) : Host.Outcome State Fault Refusal := .next (s.act t fun s => s.controlSeen port m)
def execControlAck (t : Nat) (port : RPort) (m : Msg) (s : State) : Host.Outcome State Fault Refusal := .next (s.act t fun s => s.controlAck port m)
def execControlRetry (t : Nat) (port : RPort) (s : State) : Host.Outcome State Fault Refusal := .next (s.act t fun s => s.controlRetry port)
def execTirril (t : Nat) (port : RPort) (m : Msg) (s : State) : Host.Outcome State Fault Refusal := .next (s.chainAct t fun s => s.tirrilSeen port m)
def execWorkerLost (t : Nat) (index : Fin 16) (s : State) : Host.Outcome State Fault Refusal := .next (s.act t fun s => s.workerGone index)
def execRelease (t : Nat) (port : RPort) (m : Msg) (s : State) : Host.Outcome State Fault Refusal :=
  .next (s.act t fun s => s.trussIn port 1 m fun s => s.takeImport port (s.importOf m.payload false))
def execWithdraw (t : Nat) (port : RPort) (m : Msg) (s : State) : Host.Outcome State Fault Refusal :=
  .next (s.act t fun s => s.trussIn port 2 m fun s => s.dropImports port m.payload false)
def execClaim (t : Nat) (port : RPort) (m : Msg) (s : State) : Host.Outcome State Fault Refusal :=
  .next (s.act t fun s => s.trussIn port 3 m fun s => s.takeImport port (s.importOf m.payload true))
def execUnclaim (t : Nat) (port : RPort) (m : Msg) (s : State) : Host.Outcome State Fault Refusal :=
  .next (s.act t fun s => s.trussIn port 4 m fun s => s.dropImports port m.payload true)
def execHeartbeat (t : Nat) (port : RPort) (m : Msg) (s : State) : Host.Outcome State Fault Refusal := .next (s.act t fun s => s.trussIn port 5 m id)
def execImportStale (t : Nat) (port : RPort) (s : State) : Host.Outcome State Fault Refusal := .next (s.act t fun s => s.importStale port)
def execTrussResync (t : Nat) (port : RPort) (m : Msg) (s : State) : Host.Outcome State Fault Refusal := .next (s.act t fun s => s.resyncAsked port m)

end Sys2Proof.Machine
end

