-- ==== Sys2Proof/Machine/Events.lean ====
section
/-! DEFINITION. The events of power, resets, the supervisor, the LASER_EN inputs and memory (02_modes_and_startup.md R52-R63, 01 R30, 15 R469), the SPI port
(03 R78, R84) and the schedule (R94). -/

namespace Sys2Proof.Machine

open Sys2Proof

/-! ## Power and resets (R52-R58) -/

/-- An event that the off module sees: device time does not run. -/
def State.unpowered (s : State) (f : State → State) : State := s.keep (f { s with out := [] })

/-- POR release: power comes up. -/
def State.porRelease (s : State) : State := if s.power.power = .filtering then s.powerUp else s

/-- RESET_N low for 1 µs. -/
def State.pinReset (s : State) : State :=
  if s.power.resetNLow then s
  else
    let s := s.onPower fun p => { p with resetNLow := true }
    if s.power.power = .on then s.holdReset 4 fun p => { p with heldPin := true } else s

/-- RESET_N rises. -/
def State.resetNRise (s : State) : State := (s.onPower fun p => { p with resetNLow := false }).releaseReset fun p => { p with heldPin := false }

/-- The 25 MHz reference is gone for two Sill ticks, or back for 10 ms. -/
def State.referenceLoss (s : State) : State :=
  let was := s.power.ref25
  let s := s.onPower fun p => { p with ref25 := false }
  if s.power.power = .on && was then s.holdReset 0x80 fun p => { p with heldRef := true } else s
def State.referenceBack (s : State) : State := (s.onPower fun p => { p with ref25 := true }).releaseReset fun p => { p with heldRef := false }

/-- The die reaches 110 °C, or has stayed below 95 °C for 1 ms. -/
def State.thermalTrip (s : State) : State := if s.power.power = .on then s.holdReset 0x40 fun p => { p with heldThermal := true } else s
def State.thermalRelease (s : State) : State := s.releaseReset fun p => { p with heldThermal := false }

/-- What wakes the device from SILL (R57). -/
def State.asleep (s : State) : Bool := s.power.power == .on && s.mode.mode == .sill && !s.resetHeld
def State.wakeEvent (s : State) : State := if s.asleep then s.wake else s
def State.wakeByAlarm (s : State) : State :=
  match s.power.wakeAlarm with
  | some a => if s.asleep then (s.reach a).wake else s
  | none => s

/-! ## The supervisor and the LASER_EN inputs (R59-R63) -/

/-- What happens in the Sill domain while nothing else runs: no record is written and nothing leaves the device. -/
def State.quiet (s : State) (f : State → State) : State :=
  let r := f s
  { r with tally := s.tally, out := s.out, front := s.front, up := s.up, down := s.down }

/-- An event of the supervisor or of the LASER_EN inputs (R56, R62). -/
def State.watch (s : State) (t : Nat) (f : State → State) : State := s.sillAct t fun s => if s.awake then f s else s.quiet f

/-- A LASER_EN input changes level without power: only the level is there at power-up (R60). -/
def State.enLevel (s : State) (chanB lvl : Bool) : State := s.onSafety fun c => if chanB then { c with enB := lvl } else { c with enA := lvl }

/-- The 32.768 kHz reference is absent, or back (R75). -/
def State.ref32Level (s : State) (lost : Bool) : State :=
  if s.regB supplyStatus 9 = lost then s
  else ((s.onPower fun p => { p with ref32 := !lost }).setB supplyStatus 9 lost).supplyLevel

/-! ## SPI (R78) and discarded packets (R84) -/

/-- A WRITE brings one packet; malformed bytes are discarded and counted. -/
def State.spiWrite (s : State) (bs : List Byte) : State :=
  if s.takes .spi = false then s
  else match parsePacket .spi ⟨0, 0, 0⟩ bs with
    | none => s.count rRxMalformed
    | some (op, p) => s.receive (opSpec op) op p

/-- A READ clocks out the length and the next packet, which leaves the queue when all its bytes have been clocked. `clocked` counts the bytes
behind the dummy byte. -/
def State.spiRead (s : State) (clocked : Nat) : State :=
  match s.front.spiOut with
    | [] => s.emit (.spi ((leBytes 2 0).take clocked))
    | b :: r =>
      let s := s.emit (.spi ((leBytes 2 b.length ++ b).take clocked))
      if 2 + b.length ≤ clocked then { s with front := { s.front with spiOut := r } } else s

/-- The level of SPI_IRQ_N (R78): low while the outgoing queue is not empty. -/
def State.spiIrqN (s : State) : Bool := s.front.spiOut.isEmpty

/-- A STATUS: OUT_PENDING, IN_FULL, READY. Received packets are taken at once, so the queue of sixteen is never full. -/
def State.spiStatus (s : State) : State :=
  if s.mode.mode = .sill then s else s.emit (.spi (leBytes 1 (bit (!s.spiIrqN) + 4 * bit s.runs)))

/-- A datagram or an SPI write that fails steps 1 and 2, or whose UDP datagram is a fragment or fails its checksum. A frame that is tagged, has a bad FCS or is too
long is discarded before (R377). -/
def State.discard (s : State) (port : Port) (bs : List Byte) (fault : FrameFault) : State :=
  if s.takes port && (fault == .badMac || !s.fits port bs.length) then s.frameLost port else
  let bad := (fault == .badUdp && port != .spi) || (parsePacket port ⟨0, 0, 0⟩ bs).isNone
  if s.takes port && bad && port != .rafter then (s.frameAt port).count rRxMalformed else s

/-! ## The schedule (R94, R443) -/

/-- A commit's apply time is reached. -/
def State.runLed (s : State) (c : Nat × Nat) : State := ((s.onLights fun l => { l with commits := l.commits.erase c }).reach c.1).ledCommit c.2

/-- The next scheduled thing runs: the earliest command, or an LED commit of the chain or a move of the manager that comes before it. -/
def State.runNext (s : State) : State :=
  let led := (sortBy (fun (c : Nat × Nat) => c.1) s.lights.commits).head?
  let first (o : Option Nat) (t : Nat) : Bool := match o with | some d => decide (t < d) | none => true
  let move := (sortBy (fun (m : Nat × Nat) => m.1) s.front.moves).find? fun m => first (s.schedule.head?.map (·.due)) m.1 && first (led.map (·.1)) m.1
  if let some m := move then s.runMove m else
  match s.schedule.head?, led with
  | some e, some c => if e.due ≤ c.1 then s.runSched opSpec e else s.runLed c
  | some e, none => s.runSched opSpec e
  | none, some c => s.runLed c
  | none, none => s

/-! ## The meanings -/

def execPowerOn (_t vin : Nat) (s : State) : Host.Outcome State Fault Refusal := .next (s.unpowered fun s => s.powerOn vin)
def execPorRelease (_t : Nat) (s : State) : Host.Outcome State Fault Refusal := .next (s.unpowered State.porRelease)
def execBrownOut (t vin : Nat) (s : State) : Host.Outcome State Fault Refusal :=
  .next (if s.power.power = .on then s.sillAct t fun s => s.brownOut vin else s.unpowered fun s => s.brownOut vin)
def execPinReset (t : Nat) (s : State) : Host.Outcome State Fault Refusal :=
  .next (if s.power.power = .on then s.sillAct t State.pinReset else s.unpowered State.pinReset)
def execResetNRise (t : Nat) (s : State) : Host.Outcome State Fault Refusal :=
  .next (if s.power.power = .on then s.sillAct t State.resetNRise else s.unpowered State.resetNRise)
def execWatchdog (t : Nat) (s : State) : Host.Outcome State Fault Refusal := .next (s.chainAct t fun s => s.deviceReset 8)
def execThermalTrip (t : Nat) (s : State) : Host.Outcome State Fault Refusal := .next (s.sillAct t State.thermalTrip)
def execThermalRelease (t : Nat) (s : State) : Host.Outcome State Fault Refusal := .next (s.sillAct t State.thermalRelease)
def execReferenceLoss (t : Nat) (s : State) : Host.Outcome State Fault Refusal :=
  .next (if s.power.power = .on then s.sillAct t State.referenceLoss else s.unpowered State.referenceLoss)
def execReferenceRestored (t : Nat) (s : State) : Host.Outcome State Fault Refusal :=
  .next (if s.power.power = .on then s.sillAct t State.referenceBack else s.unpowered State.referenceBack)
def execWakeEvent (t : Nat) (_spi : Bool) (s : State) : Host.Outcome State Fault Refusal := .next (s.sillAct t State.wakeEvent)
def execWakeAlarm (t : Nat) (s : State) : Host.Outcome State Fault Refusal := .next (s.sillAct t State.wakeByAlarm)
def execLaserEnFall (t : Nat) (chanB : Bool) (width : Nat) (s : State) : Host.Outcome State Fault Refusal :=
  .next (if s.power.power = .on then s.watch t fun s => s.enFall chanB width else s.unpowered fun s => s.enLevel chanB false)
def execLaserEnRise (t : Nat) (chanB : Bool) (s : State) : Host.Outcome State Fault Refusal :=
  .next (if s.power.power = .on then s.watch t fun s => s.enRise chanB else s.unpowered fun s => s.enLevel chanB true)
def execDiscrepancy (t : Nat) (s : State) : Host.Outcome State Fault Refusal := .next (s.watch t State.discrepancy)
def execVinWarning (t vin : Nat) (s : State) : Host.Outcome State Fault Refusal := .next (s.watch t fun s => s.vinWarning vin)
def execSupplyDip (t vin : Nat) (s : State) : Host.Outcome State Fault Refusal := .next (s.watch t fun s => s.dipEnd vin)
def execVinHigh (t vin : Nat) (s : State) : Host.Outcome State Fault Refusal := .next (s.watch t fun s => s.vinHigh vin)
def execVmotFault (t mv : Nat) (s : State) : Host.Outcome State Fault Refusal := .next (s.watch t fun s => s.vmotLevel mv)
def execVledFault (t mv : Nat) (s : State) : Host.Outcome State Fault Refusal := .next (s.watch t fun s => s.vledLevel mv)
def execHoldupLow (t mv : Nat) (s : State) : Host.Outcome State Fault Refusal := .next (s.watch t fun s => s.holdupCross mv)
def execTempWarning (t : Nat) (temp : BitVec 16) (s : State) : Host.Outcome State Fault Refusal := .next (s.watch t fun s => s.tempCross temp)
def execRef32Loss (t : Nat) (s : State) : Host.Outcome State Fault Refusal := .next (s.watch t fun s => s.ref32Level true)
def execRef32Restored (t : Nat) (s : State) : Host.Outcome State Fault Refusal := .next (s.watch t fun s => s.ref32Level false)
def execSpiWrite (t : Nat) (bytes : List Byte) (s : State) : Host.Outcome State Fault Refusal := .next (s.act t fun s => s.spiWrite bytes)
def execSpiRead (t clocked : Nat) (s : State) : Host.Outcome State Fault Refusal := .next (s.act t fun s => s.spiRead clocked)
def execSpiStatus (t : Nat) (s : State) : Host.Outcome State Fault Refusal := .next (s.sillAct t State.spiStatus)
def execPacketDiscard (t : Nat) (port : Port) (bytes : List Byte) (fault : FrameFault) (s : State) : Host.Outcome State Fault Refusal :=
  .next (s.act t fun s => s.discard port bytes fault)
def execScheduledExecute (t : Nat) (s : State) : Host.Outcome State Fault Refusal := .next (s.act t State.runNext)
def execBadOpcode (t : Nat) (opcode : BitVec 16) (p : Packet) (s : State) : Host.Outcome State Fault Refusal :=
  .next (s.packet t (opSpec opcode.toNat) opcode.toNat p)
def execGateMismatch (t : Nat) (b : Fin 48) (commanded : Bool) (duration : Nat) (s : State) : Host.Outcome State Fault Refusal :=
  .next (s.act t fun s => s.gateMismatch b commanded duration)
def execMemoryCe (t address : Nat) (s : State) : Host.Outcome State Fault Refusal := .next (s.chainAct t fun s => s.memCe address)
def execMemoryUe (t address : Nat) (s : State) : Host.Outcome State Fault Refusal := .next (s.chainAct t fun s => s.memUe address)

end Sys2Proof.Machine
end

