-- ==== Sys2Proof/Machine/Dispatch.lean ====
section
/-! DEFINITION. One arm for each command: the meaning that it has. -/

namespace Sys2Proof.Machine

open Sys2Proof

def exec (i : Instr) (s : State) : Host.Outcome State Fault Refusal :=
  match i with
  | .powerOn t vin => Sys2Proof.Machine.execPowerOn t vin s
  | .porRelease t => Sys2Proof.Machine.execPorRelease t s
  | .brownOut t vin => Sys2Proof.Machine.execBrownOut t vin s
  | .pinReset t => Sys2Proof.Machine.execPinReset t s
  | .resetNRise t => Sys2Proof.Machine.execResetNRise t s
  | .watchdog t => Sys2Proof.Machine.execWatchdog t s
  | .thermalTrip t => Sys2Proof.Machine.execThermalTrip t s
  | .thermalRelease t => Sys2Proof.Machine.execThermalRelease t s
  | .referenceLoss t => Sys2Proof.Machine.execReferenceLoss t s
  | .referenceRestored t => Sys2Proof.Machine.execReferenceRestored t s
  | .wakeEvent t spi => Sys2Proof.Machine.execWakeEvent t spi s
  | .wakeAlarm t => Sys2Proof.Machine.execWakeAlarm t s
  | .laserEnFall t chanB width => Sys2Proof.Machine.execLaserEnFall t chanB width s
  | .laserEnRise t chanB => Sys2Proof.Machine.execLaserEnRise t chanB s
  | .discrepancy t => Sys2Proof.Machine.execDiscrepancy t s
  | .vinWarning t vin => Sys2Proof.Machine.execVinWarning t vin s
  | .supplyDip t vin => Sys2Proof.Machine.execSupplyDip t vin s
  | .vinHigh t vin => Sys2Proof.Machine.execVinHigh t vin s
  | .vmotFault t mv => Sys2Proof.Machine.execVmotFault t mv s
  | .vledFault t mv => Sys2Proof.Machine.execVledFault t mv s
  | .holdupLow t mv => Sys2Proof.Machine.execHoldupLow t mv s
  | .tempWarning t temp => Sys2Proof.Machine.execTempWarning t temp s
  | .pauseReached t => Sys2Proof.Machine.execPauseReached t s
  | .layerEndMove t => Sys2Proof.Machine.execLayerEndMove t s
  | .spiWrite t bytes => Sys2Proof.Machine.execSpiWrite t bytes s
  | .spiRead t clocked => Sys2Proof.Machine.execSpiRead t clocked s
  | .spiStatus t => Sys2Proof.Machine.execSpiStatus t s
  | .packetDiscard t port bytes fault => Sys2Proof.Machine.execPacketDiscard t port bytes fault s
  | .sessionTimeout t slot => Sys2Proof.Machine.execSessionTimeout t slot s
  | .alertRetransmit t slot alert => Sys2Proof.Machine.execAlertRetransmit t slot alert s
  | .bulkTimeout t id => Sys2Proof.Machine.execBulkTimeout t id s
  | .scheduledExecute t => Sys2Proof.Machine.execScheduledExecute t s
  | .ping t p => Sys2Proof.Machine.execPing t p s
  | .sessionOpen t p => Sys2Proof.Machine.execSessionOpen t p s
  | .sessionClose t p => Sys2Proof.Machine.execSessionClose t p s
  | .deviceInfo t p => Sys2Proof.Machine.execDeviceInfo t p s
  | .statusGet t p => Sys2Proof.Machine.execStatusGet t p s
  | .faultAck t p => Sys2Proof.Machine.execFaultAck t p s
  | .modeSet t p => Sys2Proof.Machine.execModeSet t p s
  | .hold t p => Sys2Proof.Machine.execHold t p s
  | .safe t p => Sys2Proof.Machine.execSafe t p s
  | .latchClear t p => Sys2Proof.Machine.execLatchClear t p s
  | .reset t p => Sys2Proof.Machine.execReset t p s
  | .shutdown t p => Sys2Proof.Machine.execShutdown t p s
  | .scheduleList t p => Sys2Proof.Machine.execScheduleList t p s
  | .scheduleCancel t p => Sys2Proof.Machine.execScheduleCancel t p s
  | .alertMask t p => Sys2Proof.Machine.execAlertMask t p s
  | .alertAck t p => Sys2Proof.Machine.execAlertAck t p s
  | .regRead t p => Sys2Proof.Machine.execRegRead t p s
  | .regWrite t p => Sys2Proof.Machine.execRegWrite t p s
  | .regModify t p => Sys2Proof.Machine.execRegModify t p s
  | .regReadList t p => Sys2Proof.Machine.execRegReadList t p s
  | .regWriteList t p => Sys2Proof.Machine.execRegWriteList t p s
  | .ackPendingWrite t unit => Sys2Proof.Machine.execAckPendingWrite t unit s
  | .refuseCauseRead t => Sys2Proof.Machine.execRefuseCauseRead t s
  | .vinMinRead t => Sys2Proof.Machine.execVinMinRead t s
  | .devTimeEraRead t => Sys2Proof.Machine.execDevTimeEraRead t s
  | .mtConfigEnableWrite t b secure enable => Sys2Proof.Machine.execMtConfigEnableWrite t b secure enable s
  | .traceArm t b secure profile => Sys2Proof.Machine.execTraceArm t b secure profile s
  | .grainWindowWrite t secure address value => Sys2Proof.Machine.execGrainWindowWrite t secure address value s
  | .bulkOpen t p => Sys2Proof.Machine.execBulkOpen t p s
  | .bulkData t p => Sys2Proof.Machine.execBulkData t p s
  | .bulkClose t p => Sys2Proof.Machine.execBulkClose t p s
  | .bulkAbort t p => Sys2Proof.Machine.execBulkAbort t p s
  | .bulkStatus t p => Sys2Proof.Machine.execBulkStatus t p s
  | .bulkRead t p => Sys2Proof.Machine.execBulkRead t p s
  | .jobBegin t p => Sys2Proof.Machine.execJobBegin t p s
  | .jobEnd t p => Sys2Proof.Machine.execJobEnd t p s
  | .layerDeclare t p => Sys2Proof.Machine.execLayerDeclare t p s
  | .layerChecked t => Sys2Proof.Machine.execLayerChecked t s
  | .layerActivate t p => Sys2Proof.Machine.execLayerActivate t p s
  | .layerResume t p => Sys2Proof.Machine.execLayerResume t p s
  | .layerStatus t p => Sys2Proof.Machine.execLayerStatus t p s
  | .layerAbort t p => Sys2Proof.Machine.execLayerAbort t p s
  | .beamEnable t p => Sys2Proof.Machine.execBeamEnable t p s
  | .beamDisable t p => Sys2Proof.Machine.execBeamDisable t p s
  | .paramSetLoad t p => Sys2Proof.Machine.execParamSetLoad t p s
  | .beamStatus t p => Sys2Proof.Machine.execBeamStatus t p s
  | .laserSafetySet t p => Sys2Proof.Machine.execLaserSafetySet t p s
  | .scannerJog t p => Sys2Proof.Machine.execScannerJog t p s
  | .jogDone t b => Sys2Proof.Machine.execJogDone t b s
  | .returnFrame t b frame => Sys2Proof.Machine.execReturnFrame t b frame s
  | .returnLinkLock t b tap => Sys2Proof.Machine.execReturnLinkLock t b tap s
  | .lockTimeout t b => Sys2Proof.Machine.execLockTimeout t b s
  | .attachmentCheck t b locked rdy alm => Sys2Proof.Machine.execAttachmentCheck t b locked rdy alm s
  | .linkEscalation t b => Sys2Proof.Machine.execLinkEscalation t b s
  | .scannerTracking t b => Sys2Proof.Machine.execScannerTracking t b s
  | .almActive t b => Sys2Proof.Machine.execAlmActive t b s
  | .rdyInactive t b => Sys2Proof.Machine.execRdyInactive t b s
  | .rdyGraceEnd t b => Sys2Proof.Machine.execRdyGraceEnd t b s
  | .facetEdge t b stamp => Sys2Proof.Machine.execFacetEdge t b stamp s
  | .rasterLock t b => Sys2Proof.Machine.execRasterLock t b s
  | .rasterSyncLoss t b => Sys2Proof.Machine.execRasterSyncLoss t b s
  | .rasterLossLimit t b => Sys2Proof.Machine.execRasterLossLimit t b s
  | .fifoRefill t b count => Sys2Proof.Machine.execFifoRefill t b count s
  | .recordComplete t b => Sys2Proof.Machine.execRecordComplete t b s
  | .trussRound t => Sys2Proof.Machine.execTrussRound t s
  | .release t port m => Sys2Proof.Machine.execRelease t port m s
  | .withdraw t port m => Sys2Proof.Machine.execWithdraw t port m s
  | .claim t port m => Sys2Proof.Machine.execClaim t port m s
  | .unclaim t port m => Sys2Proof.Machine.execUnclaim t port m s
  | .heartbeat t port m => Sys2Proof.Machine.execHeartbeat t port m s
  | .importStale t port => Sys2Proof.Machine.execImportStale t port s
  | .trussResync t port m => Sys2Proof.Machine.execTrussResync t port m s
  | .waitLong t b => Sys2Proof.Machine.execWaitLong t b s
  | .gasStale t => Sys2Proof.Machine.execGasStale t s
  | .featureWindow t b samples => Sys2Proof.Machine.execFeatureWindow t b samples s
  | .cameraTimeout t b => Sys2Proof.Machine.execCameraTimeout t b s
  | .excursionOpen t b kind => Sys2Proof.Machine.execExcursionOpen t b kind s
  | .excursionClose t b kind => Sys2Proof.Machine.execExcursionClose t b kind s
  | .traceDone t b => Sys2Proof.Machine.execTraceDone t b s
  | .depositMerge t => Sys2Proof.Machine.execDepositMerge t s
  | .tilePrefetch t b tile => Sys2Proof.Machine.execTilePrefetch t b tile s
  | .grainQuery t b => Sys2Proof.Machine.execGrainQuery t b s
  | .grainRoll t => Sys2Proof.Machine.execGrainRoll t s
  | .rollEnd t => Sys2Proof.Machine.execRollEnd t s
  | .markScanStart t b => Sys2Proof.Machine.execMarkScanStart t b s
  | .markScanDone t b late saturated covered => Sys2Proof.Machine.execMarkScanDone t b late saturated covered s
  | .passFit t b => Sys2Proof.Machine.execPassFit t b s
  | .resultApply t b => Sys2Proof.Machine.execResultApply t b s
  | .passTimeout t b => Sys2Proof.Machine.execPassTimeout t b s
  | .liveBoundary t => Sys2Proof.Machine.execLiveBoundary t s
  | .layerEndBoundary t => Sys2Proof.Machine.execLayerEndBoundary t s
  | .compositionDone t => Sys2Proof.Machine.execCompositionDone t s
  | .frameLockExpiry t => Sys2Proof.Machine.execFrameLockExpiry t s
  | .footprintDone t => Sys2Proof.Machine.execFootprintDone t s
  | .heatRenderDone t => Sys2Proof.Machine.execHeatRenderDone t s
  | .laneSignalLost t lane cause => Sys2Proof.Machine.execLaneSignalLost t lane cause s
  | .laneSignalOk t lane => Sys2Proof.Machine.execLaneSignalOk t lane s
  | .laneAligned t lane pos => Sys2Proof.Machine.execLaneAligned t lane pos s
  | .attemptTimeout t lane => Sys2Proof.Machine.execAttemptTimeout t lane s
  | .backoffEnd t lane => Sys2Proof.Machine.execBackoffEnd t lane s
  | .discoveryRescan t => Sys2Proof.Machine.execDiscoveryRescan t s
  | .hello t n m => Sys2Proof.Machine.execHello t n m s
  | .frameStart t n m => Sys2Proof.Machine.execFrameStart t n m s
  | .line t n m => Sys2Proof.Machine.execLine t n m s
  | .frameEnd t n m => Sys2Proof.Machine.execFrameEnd t n m s
  | .sensor t n m => Sys2Proof.Machine.execSensor t n m s
  | .reply t n m => Sys2Proof.Machine.execReply t n m s
  | .window t n m => Sys2Proof.Machine.execWindow t n m s
  | .time t n => Sys2Proof.Machine.execTime t n s
  | .timeEcho t n m => Sys2Proof.Machine.execTimeEcho t n m s
  | .timeMiss t n => Sys2Proof.Machine.execTimeMiss t n s
  | .headReplyTimeout t n => Sys2Proof.Machine.execHeadReplyTimeout t n s
  | .align t port k num stripe => Sys2Proof.Machine.execAlign t port k num stripe s
  | .portHello t port m => Sys2Proof.Machine.execPortHello t port m s
  | .index t m => Sys2Proof.Machine.execIndex t m s
  | .timeSyncSend t => Sys2Proof.Machine.execTimeSyncSend t s
  | .timeSync t lane m => Sys2Proof.Machine.execTimeSync t lane m s
  | .rafterTimeEcho t port k m => Sys2Proof.Machine.execRafterTimeEcho t port k m s
  | .control t port m => Sys2Proof.Machine.execControl t port m s
  | .controlAck t port m => Sys2Proof.Machine.execControlAck t port m s
  | .controlRetry t port => Sys2Proof.Machine.execControlRetry t port s
  | .tirril t port m => Sys2Proof.Machine.execTirril t port m s
  | .workerLost t index => Sys2Proof.Machine.execWorkerLost t index s
  | .ethLinkUp t n => Sys2Proof.Machine.execEthLinkUp t n s
  | .ethLinkDown t n => Sys2Proof.Machine.execEthLinkDown t n s
  | .arpRequest t n sender target => Sys2Proof.Machine.execArpRequest t n sender target s
  | .icmpEcho t n sender target data => Sys2Proof.Machine.execIcmpEcho t n sender target data s
  | .announce t n a => Sys2Proof.Machine.execAnnounce t n a s
  | .sync t n m stamp interval => Sys2Proof.Machine.execSync t n m stamp interval s
  | .followUp t n m => Sys2Proof.Machine.execFollowUp t n m s
  | .delayReq t => Sys2Proof.Machine.execDelayReq t s
  | .delayResp t n m => Sys2Proof.Machine.execDelayResp t n m s
  | .holdover t => Sys2Proof.Machine.execHoldover t s
  | .offsetBroadcast t => Sys2Proof.Machine.execOffsetBroadcast t s
  | .offsetApply t => Sys2Proof.Machine.execOffsetApply t s
  | .planningTick t p => Sys2Proof.Machine.execPlanningTick t p s
  | .moveDone t p => Sys2Proof.Machine.execMoveDone t p s
  | .holdCurrent t p => Sys2Proof.Machine.execHoldCurrent t p s
  | .driverShort t p => Sys2Proof.Machine.execDriverShort t p s
  | .homeStall t p => Sys2Proof.Machine.execHomeStall t p s
  | .homeDone t p => Sys2Proof.Machine.execHomeDone t p s
  | .limitEdge t p positive level => Sys2Proof.Machine.execLimitEdge t p positive level s
  | .indexEvent t f quadError => Sys2Proof.Machine.execIndexEvent t f quadError s
  | .encoderFault t f => Sys2Proof.Machine.execEncoderFault t f s
  | .windowStart t n => Sys2Proof.Machine.execWindowStart t n s
  | .windowEnd t n => Sys2Proof.Machine.execWindowEnd t n s
  | .ntcConversion t ohms => Sys2Proof.Machine.execNtcConversion t ohms s
  | .ledShort t c => Sys2Proof.Machine.execLedShort t c s
  | .ledOpen t c => Sys2Proof.Machine.execLedOpen t c s
  | .provingPulse t c slot pass => Sys2Proof.Machine.execProvingPulse t c slot pass s
  | .adjacencyStep t c seen => Sys2Proof.Machine.execAdjacencyStep t c seen s
  | .pageCommit t => Sys2Proof.Machine.execPageCommit t s
  | .tokenAccrual t => Sys2Proof.Machine.execTokenAccrual t s
  | .ringsCommit t => Sys2Proof.Machine.execRingsCommit t s
  | .eraMark t => Sys2Proof.Machine.execEraMark t s
  | .gateMismatch t b commanded duration => Sys2Proof.Machine.execGateMismatch t b commanded duration s
  | .memoryCe t address => Sys2Proof.Machine.execMemoryCe t address s
  | .memoryUe t address => Sys2Proof.Machine.execMemoryUe t address s
  | .trussConfig t p => Sys2Proof.Machine.execTrussConfig t p s
  | .territoryLoad t p => Sys2Proof.Machine.execTerritoryLoad t p s
  | .gasflowSet t p => Sys2Proof.Machine.execGasflowSet t p s
  | .trussStatus t p => Sys2Proof.Machine.execTrussStatus t p s
  | .stickQuery t p => Sys2Proof.Machine.execStickQuery t p s
  | .plumbConfig t p => Sys2Proof.Machine.execPlumbConfig t p s
  | .plumbFeatures t p => Sys2Proof.Machine.execPlumbFeatures t p s
  | .grainMaterial t p => Sys2Proof.Machine.execGrainMaterial t p s
  | .grainRead t p => Sys2Proof.Machine.execGrainRead t p s
  | .grainClear t p => Sys2Proof.Machine.execGrainClear t p s
  | .scribeTableWrite t p => Sys2Proof.Machine.execScribeTableWrite t p s
  | .scribeTableRead t p => Sys2Proof.Machine.execScribeTableRead t p s
  | .scribeFiducials t p => Sys2Proof.Machine.execScribeFiducials t p s
  | .scribePass t p => Sys2Proof.Machine.execScribePass t p s
  | .scribeConfirm t p => Sys2Proof.Machine.execScribeConfirm t p s
  | .scribeQuality t p => Sys2Proof.Machine.execScribeQuality t p s
  | .veneerLayerConfig t p => Sys2Proof.Machine.execVeneerLayerConfig t p s
  | .veneerCommit t p => Sys2Proof.Machine.execVeneerCommit t p s
  | .veneerFence t p => Sys2Proof.Machine.execVeneerFence t p s
  | .veneerCoeffLoad t p => Sys2Proof.Machine.execVeneerCoeffLoad t p s
  | .veneerFrameRead t p => Sys2Proof.Machine.execVeneerFrameRead t p s
  | .veneerLive t p => Sys2Proof.Machine.execVeneerLive t p s
  | .laneConfig t p => Sys2Proof.Machine.execLaneConfig t p s
  | .laneBitslip t p => Sys2Proof.Machine.execLaneBitslip t p s
  | .laneStatus t p => Sys2Proof.Machine.execLaneStatus t p s
  | .laneBond t p => Sys2Proof.Machine.execLaneBond t p s
  | .discoveryScan t p => Sys2Proof.Machine.execDiscoveryScan t p s
  | .headCommand t p => Sys2Proof.Machine.execHeadCommand t p s
  | .timeGet t p => Sys2Proof.Machine.execTimeGet t p s
  | .timeServoConfig t p => Sys2Proof.Machine.execTimeServoConfig t p s
  | .timeStep t p => Sys2Proof.Machine.execTimeStep t p s
  | .ptpConfig t p => Sys2Proof.Machine.execPtpConfig t p s
  | .timeStatus t p => Sys2Proof.Machine.execTimeStatus t p s
  | .portConfig t p => Sys2Proof.Machine.execPortConfig t p s
  | .move t p => Sys2Proof.Machine.execMove t p s
  | .stop t p => Sys2Proof.Machine.execStop t p s
  | .home t p => Sys2Proof.Machine.execHome t p s
  | .limitsSet t p => Sys2Proof.Machine.execLimitsSet t p s
  | .axisStatus t p => Sys2Proof.Machine.execAxisStatus t p s
  | .positionSet t p => Sys2Proof.Machine.execPositionSet t p s
  | .passthroughConfig t p => Sys2Proof.Machine.execPassthroughConfig t p s
  | .ledConfig t p => Sys2Proof.Machine.execLedConfig t p s
  | .ledStage t p => Sys2Proof.Machine.execLedStage t p s
  | .ledCommit t p => Sys2Proof.Machine.execLedCommit t p s
  | .ledStatus t p => Sys2Proof.Machine.execLedStatus t p s
  | .adjacencyTest t p => Sys2Proof.Machine.execAdjacencyTest t p s
  | .tallyRead t p => Sys2Proof.Machine.execTallyRead t p s
  | .tallyInfo t p => Sys2Proof.Machine.execTallyInfo t p s
  | .auditRead t p => Sys2Proof.Machine.execAuditRead t p s
  | .ringsRead t p => Sys2Proof.Machine.execRingsRead t p s
  | .tallyMark t p => Sys2Proof.Machine.execTallyMark t p s
  | .ringsConfig t p => Sys2Proof.Machine.execRingsConfig t p s
  | .secInfo t p => Sys2Proof.Machine.execSecInfo t p s
  | .worldAssign t p => Sys2Proof.Machine.execWorldAssign t p s
  | .keyProvision t p => Sys2Proof.Machine.execKeyProvision t p s
  | .updateBegin t p => Sys2Proof.Machine.execUpdateBegin t p s
  | .updateVerify t p => Sys2Proof.Machine.execUpdateVerify t p s
  | .updateCommit t p => Sys2Proof.Machine.execUpdateCommit t p s
  | .updateConfirm t p => Sys2Proof.Machine.execUpdateConfirm t p s
  | .frameCreate t p => Sys2Proof.Machine.execFrameCreate t p s
  | .frameDelete t p => Sys2Proof.Machine.execFrameDelete t p s
  | .frameAdd t p => Sys2Proof.Machine.execFrameAdd t p s
  | .frameRemove t p => Sys2Proof.Machine.execFrameRemove t p s
  | .frameList t p => Sys2Proof.Machine.execFrameList t p s
  | .frameAttr t p => Sys2Proof.Machine.execFrameAttr t p s
  | .scannerTick t => Sys2Proof.Machine.execScannerTick t s
  | .ref32Loss t => Sys2Proof.Machine.execRef32Loss t s
  | .ref32Restored t => Sys2Proof.Machine.execRef32Restored t s
  | .laneErased t port k => Sys2Proof.Machine.execLaneErased t port k s
  | .badOpcode t opcode p => Sys2Proof.Machine.execBadOpcode t opcode p s
  | .stagingWriteComplete t => Sys2Proof.Machine.execStagingWriteComplete t s
  | .feedbackEdge t f a b z stable => Sys2Proof.Machine.execFeedbackEdge t f a b z stable s
  | .chatterQuiet t p positive => Sys2Proof.Machine.execChatterQuiet t p positive s
  | .almInactive t b => Sys2Proof.Machine.execAlmInactive t b s
  | .rdyActive t b => Sys2Proof.Machine.execRdyActive t b s

end Sys2Proof.Machine
end

