-- ==== Sys2Proof/Safety.lean ====
section
/-! DEFINITION. The terms that claims use: a safe state, the outcome of a command, what a packet's way through R84 comes to when its opcode executes at once, and
which parts of a state stand. -/

namespace Sys2Proof

open Sys2Proof.Machine

/-! ## Safe states -/

/-- The memory and the nonvolatile areas are in their canonical form. -/
def memoriesOk (s : State) : Prop := Memory.wf s.mem = true ∧ Memory.wf s.nv = true

/-- A run of commands is safe when it ends in a next state with its memories in form. -/
def safeOutcome (o : Host.Outcome State Fault Refusal) : Prop :=
  match o with
  | .next s => memoriesOk s
  | .fault _ => False
  | .refused _ => False

/-! ## Outcomes -/

/-- The outcome of a command at time `t` whose effect on the block is `u`: the queue is as it was and device time does not decrease (R16). -/
def leaves (s : State) (t : Nat) (u : State) : Host.Outcome State Fault Refusal := .next ((s.touch t).keep u)

/-- The outcome of an event of the module without power: device time does not run. -/
def leavesOff (s u : State) : Host.Outcome State Fault Refusal := .next (s.keep u)

/-- The outcome of a command that changes nothing but that its time has come. -/
def passes (s : State) (t : Nat) : Host.Outcome State Fault Refusal := .next (s.touch t)

/-! ## The commands that are packets -/

/-- A packet command's time, opcode (R97) and packet; none for an event. -/
def packetOf (i : Instr) : Option (Nat × Nat × Packet) :=
  match i with
  | .ping t p => some (t, 0x0000, p)
  | .sessionOpen t p => some (t, 0x0001, p)
  | .sessionClose t p => some (t, 0x0002, p)
  | .deviceInfo t p => some (t, 0x0003, p)
  | .statusGet t p => some (t, 0x0004, p)
  | .faultAck t p => some (t, 0x0005, p)
  | .modeSet t p => some (t, 0x0010, p)
  | .hold t p => some (t, 0x0011, p)
  | .safe t p => some (t, 0x0012, p)
  | .latchClear t p => some (t, 0x0013, p)
  | .reset t p => some (t, 0x0014, p)
  | .shutdown t p => some (t, 0x0015, p)
  | .scheduleList t p => some (t, 0x0020, p)
  | .scheduleCancel t p => some (t, 0x0021, p)
  | .alertMask t p => some (t, 0x0030, p)
  | .alertAck t p => some (t, 0x0031, p)
  | .regRead t p => some (t, 0x0100, p)
  | .regWrite t p => some (t, 0x0101, p)
  | .regModify t p => some (t, 0x0102, p)
  | .regReadList t p => some (t, 0x0103, p)
  | .regWriteList t p => some (t, 0x0104, p)
  | .bulkOpen t p => some (t, 0x0200, p)
  | .bulkData t p => some (t, 0x0201, p)
  | .bulkClose t p => some (t, 0x0202, p)
  | .bulkAbort t p => some (t, 0x0203, p)
  | .bulkStatus t p => some (t, 0x0204, p)
  | .bulkRead t p => some (t, 0x0205, p)
  | .jobBegin t p => some (t, 0x0300, p)
  | .jobEnd t p => some (t, 0x0301, p)
  | .layerDeclare t p => some (t, 0x0302, p)
  | .layerActivate t p => some (t, 0x0303, p)
  | .layerResume t p => some (t, 0x0304, p)
  | .layerStatus t p => some (t, 0x0305, p)
  | .layerAbort t p => some (t, 0x0306, p)
  | .beamEnable t p => some (t, 0x0400, p)
  | .beamDisable t p => some (t, 0x0401, p)
  | .paramSetLoad t p => some (t, 0x0402, p)
  | .beamStatus t p => some (t, 0x0403, p)
  | .laserSafetySet t p => some (t, 0x0404, p)
  | .scannerJog t p => some (t, 0x0405, p)
  | .trussConfig t p => some (t, 0x0500, p)
  | .territoryLoad t p => some (t, 0x0501, p)
  | .gasflowSet t p => some (t, 0x0502, p)
  | .trussStatus t p => some (t, 0x0503, p)
  | .stickQuery t p => some (t, 0x0504, p)
  | .plumbConfig t p => some (t, 0x0600, p)
  | .plumbFeatures t p => some (t, 0x0601, p)
  | .grainMaterial t p => some (t, 0x0602, p)
  | .grainRead t p => some (t, 0x0603, p)
  | .grainClear t p => some (t, 0x0604, p)
  | .scribeTableWrite t p => some (t, 0x0700, p)
  | .scribeTableRead t p => some (t, 0x0701, p)
  | .scribeFiducials t p => some (t, 0x0702, p)
  | .scribePass t p => some (t, 0x0703, p)
  | .scribeConfirm t p => some (t, 0x0704, p)
  | .scribeQuality t p => some (t, 0x0705, p)
  | .veneerLayerConfig t p => some (t, 0x0800, p)
  | .veneerCommit t p => some (t, 0x0801, p)
  | .veneerFence t p => some (t, 0x0802, p)
  | .veneerCoeffLoad t p => some (t, 0x0803, p)
  | .veneerFrameRead t p => some (t, 0x0804, p)
  | .veneerLive t p => some (t, 0x0805, p)
  | .laneConfig t p => some (t, 0x0900, p)
  | .laneBitslip t p => some (t, 0x0901, p)
  | .laneStatus t p => some (t, 0x0902, p)
  | .laneBond t p => some (t, 0x0903, p)
  | .discoveryScan t p => some (t, 0x0904, p)
  | .headCommand t p => some (t, 0x0905, p)
  | .timeGet t p => some (t, 0x0A00, p)
  | .timeServoConfig t p => some (t, 0x0A01, p)
  | .timeStep t p => some (t, 0x0A02, p)
  | .ptpConfig t p => some (t, 0x0A03, p)
  | .timeStatus t p => some (t, 0x0A04, p)
  | .portConfig t p => some (t, 0x0B00, p)
  | .move t p => some (t, 0x0B01, p)
  | .stop t p => some (t, 0x0B02, p)
  | .home t p => some (t, 0x0B03, p)
  | .limitsSet t p => some (t, 0x0B04, p)
  | .axisStatus t p => some (t, 0x0B05, p)
  | .positionSet t p => some (t, 0x0B06, p)
  | .passthroughConfig t p => some (t, 0x0B07, p)
  | .ledConfig t p => some (t, 0x0C00, p)
  | .ledStage t p => some (t, 0x0C01, p)
  | .ledCommit t p => some (t, 0x0C02, p)
  | .ledStatus t p => some (t, 0x0C03, p)
  | .adjacencyTest t p => some (t, 0x0C04, p)
  | .tallyRead t p => some (t, 0x0D00, p)
  | .tallyInfo t p => some (t, 0x0D01, p)
  | .auditRead t p => some (t, 0x0D02, p)
  | .ringsRead t p => some (t, 0x0D03, p)
  | .tallyMark t p => some (t, 0x0D04, p)
  | .ringsConfig t p => some (t, 0x0D05, p)
  | .secInfo t p => some (t, 0x0E00, p)
  | .worldAssign t p => some (t, 0x0E01, p)
  | .keyProvision t p => some (t, 0x0E02, p)
  | .updateBegin t p => some (t, 0x0E03, p)
  | .updateVerify t p => some (t, 0x0E04, p)
  | .updateCommit t p => some (t, 0x0E05, p)
  | .updateConfirm t p => some (t, 0x0E06, p)
  | .frameCreate t p => some (t, 0x0F00, p)
  | .frameDelete t p => some (t, 0x0F01, p)
  | .frameAdd t p => some (t, 0x0F02, p)
  | .frameRemove t p => some (t, 0x0F03, p)
  | .frameList t p => some (t, 0x0F04, p)
  | .frameAttr t p => some (t, 0x0F05, p)
  | .badOpcode t opcode p => some (t, opcode.toNat, p)
  | _ => none

/-! ## A packet's way to its execution (R84) -/

/-- The state in which a packet is read: its frame has been counted (R398). -/
def inState (s : State) (t : Nat) (p : Packet) : State := (s.touch t).frameAt p.port

/-- The session that a packet names, as its arrival leaves it: it has not timed out, and the port's address is learned (R88, R90). -/
def callerOf (s : State) (t : Nat) (p : Packet) : Option Session :=
  ((inState s t p).session p.session).map fun se => se.arrive p (inState s t p).now

/-- Who sends a packet that steps 7 and 8 let pass: a session, a host without one (session 0, R87), or, to a worker, the manager that forwards it (R363). -/
inductive Caller where
  | session (se : Session)
  | host
  | manager
deriving DecidableEq, Repr

/-- The client in whose name a command executes (R87). -/
def Caller.client (who : Caller) (s : State) (p : Packet) : Word :=
  match who with
  | .session se => se.client
  | .host => 0
  | .manager => s.clientOf p

/-- The state after steps 1-8 for a packet that is new: its sequence number is marked, and it is counted (R89, R111). -/
def newState (s : State) (t : Nat) (p : Packet) (who : Caller) : State :=
  match who with
  | .session se => (((inState s t p).setSession se).setSession (se.mark p false (inState s t p).now)).count rRxOk
  | .host =>
    let u := inState s t p
    (if u.keepsSeq0 p then { u with sec := { u.sec with seq0 := some p.sequence } } else u).count rRxOk
  | .manager => inState s t p

/-- A packet that passes steps 1-6. -/
def formPasses (op t : Nat) (p : Packet) (s : State) : Bool :=
  s.runs && s.hears p && p.wellFormed && ((inState s t p).headFails op p).isNone

/-- A packet that passes steps 1-6 at a host port. -/
def headPasses (op t : Nat) (p : Packet) (s : State) : Bool := formPasses op t p s && p.port != .rafter

/-- A packet that passes steps 1-8 as new and is not forwarded: of an open session, of session 0, or from the manager. -/
def arrivesNew (op t : Nat) (p : Packet) (s : State) (who : Caller) : Bool :=
  match who with
  | .session se => headPasses op t p s && p.session != 0 && callerOf s t p == some se && se.seqCase p.port p.sequence == .fresh
      && (((inState s t p).setSession se).forwardTo op p).isNone
  | .host => headPasses op t p s && p.session == 0 && (inState s t p).openTo0 op p.params
      && !(inState s t p).repeats0 p && ((inState s t p).forwardTo op p).isNone
  | .manager => formPasses op t p s && p.port == .rafter
      && ((inState s t p).front.replied.find? fun x => x.1 == p.session && x.2.1 == p.sequence).isNone

/-- The state in which a command of an opcode is judged and executes: the waiting writes of a gated block that it runs on have been applied (R25). -/
def startState (op : Nat) (s : State) (t : Nat) (p : Packet) (who : Caller) : State := (newState s t p who).clocked op

/-- Whether the checks of R84 let a command execute at once, `late` ns after its execute-at time where it has one that is past and IF_LATE (R91). -/
def Machine.Verdict.runsNow (v : Verdict) (late : Option Nat) : Bool :=
  match v with
  | .now _ l => l == late
  | _ => false

/-- Whether a packet passes every step of R84 as a new one of `who`, and its opcode executes at once. -/
def executes (o : OpSpec) (op t : Nat) (p : Packet) (s : State) (who : Caller) (late : Option Nat) : Bool :=
  arrivesNew op t p s who && (o.judge (startState op s t p who) op p p.isSecure (who.client (inState s t p) p)).runsNow late

/-- The command as its execution sees it. -/
def ctxOf (o : OpSpec) (op t : Nat) (p : Packet) (s : State) (who : Caller) : Ctx :=
  o.ctx (startState op s t p who) op p p.isSecure (who.client (inState s t p) p)

/-- What follows an execution: its audit entry, then its reply, which is OK_LATE with the lateness in ns for one that came late (R85, R86, R91, R105). -/
def answered (op : Nat) (p : Packet) (client : Word) (late : Option Nat) (r : Res) : State :=
  (r.st.auditCmd op p p.isSecure client false r.audit).reply op p p.isSecure true
    { status := if r.status = .ok ∧ late.isSome = true then .okLate else r.status, cause := r.cause
      value := match late with
        | some n => if r.status = .ok then min n 0xFFFFFFFF else r.value
        | none => r.value
      path := r.path } r.body

/-- Every leaf that a fanned-out command reaches has been acted on in order (R39, R40): their results follow each other in the reply. -/
def eachLeaf (o : OpSpec) (s : State) (c : Ctx) (f : State → Ctx → Leaf → State × List Byte) : Res :=
  let l := match o.path with
    | .fan k every => o.fan s c k every
    | _ => ⟨none, [], 0⟩
  let q := l.leaves.foldl (fun (q : State × List Byte) x => let z := f q.1 c x.2; (z.1, q.2 ++ z.2)) (s, [])
  { st := q.1, value := l.skipped, body := q.2
    audit := if o.read then none else some (.params (c.p.params ++ l.leaves.flatMap fun x => o.extra s x.2)) }

/-- An accepted packet of opcode `i` that executes where `cond` holds of its state and command has the result `f`. -/
def GivesIf (o : OpSpec) (op : Nat) (i : Nat → Packet → Instr) (cond : State → Ctx → Prop) (f : State → Ctx → Res) : Prop :=
  ∀ (t : Nat) (p : Packet) (s : State) (who : Caller) (late : Option Nat), executes o op t p s who late = true →
    cond (startState op s t p who) (ctxOf o op t p s who) →
    exec (i t p) s = leaves s t (answered op p (who.client (inState s t p) p) late (f (startState op s t p who) (ctxOf o op t p s who)))

/-- Every accepted packet of opcode `i` has the result `f`. -/
def Gives (o : OpSpec) (op : Nat) (i : Nat → Packet → Instr) (f : State → Ctx → Res) : Prop := GivesIf o op i (fun _ _ => True) f

/-- An accepted packet of opcode `i` has the result `f`, and `g` acts once the reply has been sent. -/
def GivesThen (o : OpSpec) (op : Nat) (i : Nat → Packet → Instr) (f : State → Ctx → Res) (g : State → Ctx → State) : Prop :=
  ∀ (t : Nat) (p : Packet) (s : State) (who : Caller) (late : Option Nat), executes o op t p s who late = true →
    exec (i t p) s = leaves s t (g (answered op p (who.client (inState s t p) p) late (f (startState op s t p who) (ctxOf o op t p s who))) (ctxOf o op t p s who))

/-! ## Events

Each says: when the block is ready for the event and `cond` holds of the state in which its time has come, the event leaves exactly `f` of that state. -/

/-- Start-up is past, the block is not in SILL and no reset is held. -/
def isUp (s : State) : Prop := s.runs = true

/-- The block is not in SILL and no reset is held; it may be in BOOT. -/
def isAwake (s : State) : Prop := s.awake = true

/-- The module has power. -/
def isPowered (s : State) : Prop := s.power.power = .on

/-- The BEAM domain runs. -/
def beamsOn (s : State) : Prop := s.runs = true ∧ s.mode.mode.beamOn = true

/-- The DRIVE domain runs. -/
def drivesOn (s : State) : Prop := s.runs = true ∧ s.mode.mode.driveOn = true

/-- An event of a block that is ready. -/
def Does (i : Nat → Instr) (ready cond : State → Prop) (f : State → State) : Prop :=
  ∀ (t : Nat) (s : State), ready s → cond (s.touch t) → exec (i t) s = leaves s t (f (s.touch t))

/-- An event that a ready block always takes. -/
def Always (i : Nat → Instr) (ready : State → Prop) (f : State → State) : Prop :=
  ∀ (t : Nat) (s : State), ready s → exec (i t) s = leaves s t (f (s.touch t))

/-- An event of the module without power: device time does not run. -/
def DoesOff (i : Nat → Instr) (cond : State → Prop) (f : State → State) : Prop :=
  ∀ (t : Nat) (s : State), s.power.power ≠ .on → cond s → exec (i t) s = leavesOff s (f { s with out := [] })

/-- An event of the supervisor (R56, R62): while the block is in SILL or in a held reset, nothing is recorded and nothing leaves it. -/
def Watches (i : Nat → Instr) (cond : State → Prop) (f : State → State) : Prop :=
  ∀ (t : Nat) (s : State), s.power.power = .on → cond (s.touch t) →
    exec (i t) s = leaves s t (if s.awake = true then f (s.touch t) else
      { f (s.touch t) with tally := s.tally, out := [], front := s.front, up := s.up, down := s.down })

/-! ## Which parts stand -/

/-- A state without what reporting may change: the queue, device time, the registers, which count what is reported, what closed transfers wrote, the front end's sessions, the recorder, the rafter ports'
queues, the sequence number that UPDATE remembers of session 0, and what leaves the block. -/
def machineOf (s : State) : State :=
  { s with pending := [], now := 0, draws := 0, out := [], regs := [], blockOn := false, blobOk := [], front := initFront, tally := initTally, up := initRafter, down := initRafter
           sec := { s.sec with seq0 := none } }

/-- The machine stands: memory, the register writes that wait, mode, latches, supplies, the resume block, keys, firmware slots and every unit are as they were. -/
def machineStands (s u : State) : Prop := machineOf u = machineOf s

/-- Every register outside a list of addresses reads as it did. -/
def regsStand (s u : State) (but : List Nat) : Prop := ∀ a, but.contains a = false → u.reg a = s.reg a

end Sys2Proof
end

