-- ==== Sys2Proof/Certificates/Slice0/Obligations.lean ====
section
/-! DEFINITION. The statements for the provers. The words they use are defined in Sys2Proof/Safety.lean: `leaves s t u` is `.next` of `u` with the queue as it was.
`Does i ready cond f`, `Always i ready f`, `DoesOff i cond f` and `Watches i cond f` say of an event, and `Gives o op i f`, `GivesIf o op i cond f` and `GivesThen o op i f g` of a packet, that
`exec` of it ANSWERS A NEXT STATE, the one that `f` gives, for every time, state and operands that meet the conditions named; these conditions are on the state and the operands
alone. Each such equation fixes the whole next state, so it is a frame too: whatever `f` does not change stays as it was. Each statement lists the commands it says so of. -/

open Sys2Proof Sys2Proof.Machine

/-! ## The machine -/

/-- One step takes the command at the front of the queue and carries it out with the queue's rest; an empty queue idles (log entry 28). -/
def Obligations.StepRunsTheFront : Prop :=
  (∀ (c : Instr) (q : List Instr) (s : State), step { s with pending := c :: q } = exec c { s with pending := q })
    ∧ ∀ s : State, s.pending = [] → step s = .next s

/-- Right after reset the block is in BOOT with both latches set by the reset, no session is open, no command waits, device time is era 0, 0 ns (the power-up value; log entry
7), and the registers read their reset values, ENABLE of the manager's upstream port 0 (R374). -/
def Obligations.ResetState : Prop :=
  State.reset.mode.mode = .boot ∧ State.reset.safety.laserLatch = true ∧ State.reset.safety.bridgeLatch = true ∧ State.reset.safety.laserCause = 1
    ∧ State.reset.safety.bridgeCause = 1 ∧ State.reset.front.sessions = [] ∧ State.reset.front.sched = [] ∧ State.reset.pending = []
    ∧ State.reset.now = 0 ∧ Memory.wf State.reset.mem = true ∧ Memory.wf State.reset.nv = true ∧ State.reset.reg 0x08004004 = 0 ∧ ∀ a, a ≠ 0x08004004 → State.reset.reg a = resetOf a

/-- R16: device time never decreases, whatever command a step carries out and from whatever state. -/
def Obligations.TimeNeverDecreases : Prop :=
  ∀ (T : Nat) (s s' : State), T ≤ s.now → step s = .next s' → T ≤ s'.now

/-- Every command completes from every state: none faults and none is refused, and none touches the queue of commands. -/
def Obligations.EveryCommandCompletes : Prop :=
  ∀ (i : Instr) (s : State), ∃ u, exec i s = .next u ∧ u.pending = s.pending ∧ s.now ≤ u.now

/-! ## Registers, memory and records -/

/-- A register holds what it is given, and every other register is as it was; a register given its reset value leaves no trace in the list. -/
def Obligations.RegisterHolds : Prop :=
  ∀ (s : State) (a b : Nat) (w : Word), (s.regs.Pairwise fun x y => x.1 < y.1) →
    (s.setReg a w).reg a = w ∧ (a ≠ b → (s.setReg a w).reg b = s.reg b) ∧ ((s.setReg a w).regs.Pairwise fun x y => x.1 < y.1)

/-- A byte written to memory is read back, every byte outside the written range is as it was, and memory keeps its one form. -/
def Obligations.MemoryHolds : Prop :=
  ∀ (m : List Host.Cell) (a n : Nat) (bs : List Byte), Memory.wf m = true →
    Memory.wf (Memory.writes m a bs) = true ∧ Memory.reads (Memory.writes m a bs) a bs.length = bs
      ∧ (∀ x, (x < a ∨ a + bs.length ≤ x) → Memory.read (Memory.writes m a bs) x = Memory.read m x)
      ∧ Memory.wf (Memory.erase m a n) = true
      ∧ (∀ x, Memory.read (Memory.erase m a n) x = if a ≤ x ∧ x < a + n then memDefault else Memory.read m x)

/-- R527's side for whole words: a write to SRAM or DRAM that meets no word in error stores its bytes and nothing else. -/
def Obligations.WriteStores : Prop :=
  ∀ (s : State) (a : Nat) (bs : List Byte), Memory.wf s.mem = true → s.ueIn a bs.length = [] →
    (s.writeMem a bs).readMem a bs.length = bs ∧ (∀ x, (x < a ∨ a + bs.length ≤ x) → Memory.read (s.writeMem a bs).mem x = Memory.read s.mem x)
      ∧ (s.writeMem a bs).ue = s.ue ∧ machineStands { s with mem := [] } { s.writeMem a bs with mem := [] }

/-- A record, an alert, an audit entry and a reply change the recorder, the sessions, counters, the links' queues and what leaves the block, and no more: a record leaves all
registers but MERGED and LOST counters, a reply all but TX_REPLIES, SPI's and the links' counters. -/
def Obligations.ReportingStands : Prop :=
  ∀ (s : State) (code sev cls : Nat) (lv : List Nat) (pl : List Byte) (op : Nat) (p : Packet) (sec kept : Bool) (r : Rej) (body : List Byte),
    machineStands s (s.note code sev cls lv pl) ∧ machineStands s (s.raise code sev cls lv pl) ∧ machineStands s (s.reply op p sec kept r body)
      ∧ (s.note code sev cls lv pl).front = s.front ∧ (s.note code sev cls lv pl).out = s.out ∧ (s.reply op p sec kept r body).tally = s.tally

/-! ## Packets (03_tirril_packets.md R84-R95) -/

/-- Every packet command is the reception of a packet of its opcode (R97), and an opcode that no row has is one that the device does not know. A packet that passes every step
of R84, from a session, from a host with session 0 or from the manager, at once or late, has its opcode's effect, audit entry and reply (R84-R86); the manager forwards
one for a worker that is present, its sequence number marked (R76, R89, R92). -/
def Obligations.PacketsAreOpcodes : Prop :=
  (∀ (i : Instr) (t op : Nat) (p : Packet) (s : State), packetOf i = some (t, op, p) → exec i s = .next (s.packet t (opSpec op) op p))
    ∧ (∀ (i : Instr) (t op : Nat) (p : Packet) (s : State) (who : Caller) (late : Option Nat) (o : OpSpec), packetOf i = some (t, op, p) → opSpec op = some o →
        executes o op t p s who late = true →
        exec i s = leaves s t (o.finish op p p.isSecure (who.client (inState s t p) p) (ctxOf o op t p s who) late
          (o.effect (startState op s t p who) (ctxOf o op t p s who))))
    ∧ (∀ (i : Instr) (t op : Nat) (p : Packet) (s : State) (se : Session) (d : Nat), packetOf i = some (t, op, p) → headPasses op t p s = true → p.session ≠ 0 →
        callerOf s t p = some se → se.seqCase p.port p.sequence = .fresh → ((inState s t p).setSession se).forwardTo op p = some d →
        exec i s = leaves s t (((((inState s t p).setSession se).setSession (se.mark p true (inState s t p).now)).count rRxOk).forward d op p))
    ∧ ∀ (i : Instr) (t op : Nat) (p : Packet) (s : State) (d : Nat), packetOf i = some (t, op, p) → headPasses op t p s = true → p.session = 0 →
        (inState s t p).openTo0 op p.params = true → (inState s t p).repeats0 p = false → (inState s t p).forwardTo op p = some d →
        exec i s = leaves s t ((newState s t p .host).forward d op p)

/-- R52, R45: while start-up runs, in SILL and in a held reset a packet is discarded without reply; a packet at a port that takes none, and a datagram to another UDP port
than the one that PKT_CONFIG sets, or in a frame too long, is discarded too (R76, R78, R376). Nothing changes but that its time has come and that the frame at an enabled
Ethernet port is counted: in RX_DISCARDED when it is too long, else in RX_FRAMES (R377, R398). -/
def Obligations.DeafDiscards : Prop :=
  ∀ (i : Instr) (t op : Nat) (p : Packet) (s : State), packetOf i = some (t, op, p) →
    (s.runs = false → exec i s = passes s t)
      ∧ (s.runs = true → s.hears p = false → exec i s = leaves s t
          (if s.takes p.port = false then s.touch t else if s.fits p.port (packetSize p) = true then inState s t p else (s.touch t).frameLost p.port))

/-- R84 steps 1-2: a packet of a wrong length is discarded: RX_MALFORMED counts it beside the frame counter of its port, and nothing else happens. -/
def Obligations.MalformedDiscarded : Prop :=
  ∀ (i : Instr) (t op : Nat) (p : Packet) (s : State), packetOf i = some (t, op, p) → s.runs = true → s.hears p = true → p.wellFormed = false →
    exec i s = leaves s t ((inState s t p).count rRxMalformed)

/-- R84 step 3: a packet from a host whose CRC fails is answered CRC with its header echoed, RX_CRC counts it, and no session sees it: its sequence is not marked; one that
the manager forwarded is dropped. -/
def Obligations.CrcAnswered : Prop :=
  ∀ (i : Instr) (t op : Nat) (p : Packet) (s : State), packetOf i = some (t, op, p) → s.runs = true → s.hears p = true → p.wellFormed = true →
    crc32c (rawHead op p ++ p.tag) ≠ p.crc →
    (p.port ≠ .rafter → exec i s = leaves s t (((inState s t p).count rRxCrc).reply op p false false { status := .crc } []))
      ∧ (p.port = .rafter → exec i s = leaves s t (inState s t p))
      ∧ ∀ u, exec i s = .next u → u.front.sessions = s.front.sessions ∧ machineStands s u ∧ u.tally = s.tally

/-- R84 steps 4-6: an unknown version, a reserved flag, ALERT or an opcode with bit 15, and a tag that does not verify are answered BAD_VERSION, BAD_PARAM with cause 0xFFFF
and AUTH_FAIL, in this order; AUTH_FAIL is counted and recorded, and no session sees the packet. -/
def Obligations.HeadAnswered : Prop :=
  ∀ (i : Instr) (t op : Nat) (p : Packet) (s : State), packetOf i = some (t, op, p) → s.runs = true → s.hears p = true → p.wellFormed = true →
    crc32c (rawHead op p ++ p.tag) = p.crc →
    (p.version ≠ 1 → exec i s = leaves s t ((inState s t p).reply op p false false { status := .badVersion } []))
      ∧ (p.version = 1 → (p.flags.toNat / 16 ≠ 0 ∨ p.isAlert = true ∨ 0x8000 ≤ op) →
          exec i s = leaves s t ((inState s t p).reply op p false false (Rej.param 0xFFFF) []))
      ∧ (p.version = 1 → p.flags.toNat / 16 = 0 → p.isAlert = false → op < 0x8000 → p.isSecure = true → s.tagOk op p = false →
          exec i s = leaves s t ((((inState s t p).count rRxAuthFail).note 0x0085 1 0 [] (leBytes 1 (portCode p.port) ++ leBytes 3 0 ++ leBytes 4 p.session.toNat)).reply
            op p false false { status := .authFail } []))

/-- R87, R88, step 7: a packet of a session that is not open, or with session 0 of an opcode that session 0 may not send, is answered BAD_SESSION. -/
def Obligations.SessionMissing : Prop :=
  ∀ (i : Instr) (t op : Nat) (p : Packet) (s : State), packetOf i = some (t, op, p) → headPasses op t p s = true →
    (if p.session = 0 then s.openTo0 op p.params = false else s.session p.session = none) →
    exec i s = leaves s t ((inState s t p).reply op p p.isSecure false { status := .badSession } [])

/-- R89: a sequence number that was seen and whose reply is still kept is answered with that reply, byte for byte, at the places that a reply of the session goes to; the
command does not execute again: no unit, memory, record or register but the counters of the ports changes. A worker so answers a repetition of what the manager has
forwarded; the manager forwards again a repetition that its worker has not answered, its reply then to the copy answered (R77). -/
def Obligations.RepeatedIsResent : Prop :=
  (∀ (i : Instr) (t op : Nat) (p : Packet) (s : State) (se : Session) (bs : List Byte), packetOf i = some (t, op, p) → headPasses op t p s = true →
    p.session ≠ 0 → callerOf s t p = some se → se.seqCase p.port p.sequence = .resend bs →
    exec i s = leaves s t ((((inState s t p).setSession se).count rRxDuplicate).sendBytes (((inState s t p).setSession se).replyTo p (some se)) bs)
      ∧ ∀ u, exec i s = .next u → machineStands s u ∧ u.tally = s.tally)
    ∧ (∀ (i : Instr) (t op : Nat) (p : Packet) (s : State) (x : Word × Word × List Byte), packetOf i = some (t, op, p) → formPasses op t p s = true → p.port = .rafter →
        (inState s t p).front.replied.find? (fun x => x.1 == p.session && x.2.1 == p.sequence) = some x →
        exec i s = leaves s t ((inState s t p).sendBytes [(.rafter, p.origin)] x.2.2))
      ∧ ∀ (i : Instr) (t op : Nat) (p : Packet) (s : State) (se : Session) (d : Nat), packetOf i = some (t, op, p) → headPasses op t p s = true → p.session ≠ 0 →
        callerOf s t p = some se → se.seqCase p.port p.sequence = .forward → ((inState s t p).setSession se).forwardTo op p = some d →
        exec i s = leaves s t ((((inState s t p).setSession se).setSession (se.again p)).forward d op p)

/-- R89, R90: a number too old or answered too long ago is answered DUPLICATE, and so is one of session 0 in UPDATE that is not above the highest kept (R482); the second copy
of a dual packet is dropped, after its port's host address has been learned from it; none of them executes. -/
def Obligations.StaleAndDual : Prop :=
  (∀ (i : Instr) (t op : Nat) (p : Packet) (s : State) (se : Session), packetOf i = some (t, op, p) → headPasses op t p s = true → p.session ≠ 0 →
    callerOf s t p = some se →
    (se.seqCase p.port p.sequence = .stale →
        exec i s = leaves s t ((((inState s t p).setSession se).count rRxDuplicate).reply op p p.isSecure false { status := .duplicate } []))
      ∧ (se.seqCase p.port p.sequence = .dual → exec i s = leaves s t (((inState s t p).setSession se).count rRxDualDropped)))
    ∧ ∀ (i : Instr) (t op : Nat) (p : Packet) (s : State), packetOf i = some (t, op, p) → headPasses op t p s = true → p.session = 0 →
      (inState s t p).openTo0 op p.params = true → (inState s t p).repeats0 p = true →
      exec i s = leaves s t (((inState s t p).count rRxDuplicate).reply op p p.isSecure false { status := .duplicate } [])

/-- R84 step 9: an opcode that does not exist, and ALERT, which only the device sends, is answered BAD_OPCODE. Completes (its conclusion is `exec i s = .next …`): badOpcode. -/
def Obligations.UnknownOpcode : Prop :=
  ∀ (opcode : BitVec 16) (t : Nat) (p : Packet) (s : State) (who : Caller), opSpec opcode.toNat = none → arrivesNew opcode.toNat t p s who = true →
    exec (.badOpcode t opcode p) s = leaves s t ((newState s t p who).reply opcode.toNat p p.isSecure true { status := .badOpcode } [])

/-- R84 steps 10-16: a refused command is answered with its status, after its DENIED record and count (R481) where step 10 refuses it, and where a move, a latch clearing, a
shutdown or a resume is refused for its mode REFUSE_CAUSE follows (R70). Nothing is executed. -/
def Obligations.RefusedAnswered : Prop :=
  ∀ (i : Instr) (t op : Nat) (p : Packet) (s : State) (who : Caller) (o : OpSpec) (r : Rej) (a : Option Nat), packetOf i = some (t, op, p) →
    opSpec op = some o → arrivesNew op t p s who = true → o.judge (startState op s t p who) op p p.isSecure (who.client (inState s t p) p) = .refuse r a →
    exec i s = leaves s t ((o.refused (newState s t p who) r).rejectCmd op p p.isSecure r a)

/-- R91, R93, R94: an accepted command whose execute-at time lies ahead is kept with its packet, its world and its client, and answered OK; it does not execute yet. -/
def Obligations.ScheduledIsKept : Prop :=
  ∀ (i : Instr) (t op : Nat) (p : Packet) (s : State) (who : Caller) (o : OpSpec) (c : Ctx) (due skipped : Nat), packetOf i = some (t, op, p) →
    opSpec op = some o → arrivesNew op t p s who = true → o.judge (startState op s t p who) op p p.isSecure (who.client (inState s t p) p) = .later c due skipped →
    due = p.due ∧ p.hasAt = true ∧ (startState op s t p who).firstAt p + o.lead (startState op s t p who) ≤ due ∧ due ≤ (startState op s t p who).firstAt p + 3600 * second
      ∧ exec i s = leaves s t
          ((o.accept ((newState s t p who).onFront fun f => { f with sched := f.sched ++ [⟨due, op, p, p.isSecure, who.client (inState s t p) p⟩] }) c).reply op p p.isSecure true
            { status := .ok, value := skipped } [])

/-- R84's order of steps 10-13: the world is judged before the mode, the mode before the path and the path before the parameters. -/
def Obligations.StepsInOrder : Prop :=
  ∀ (o : OpSpec) (s : State) (op : Nat) (p : Packet) (sec : Bool) (client : Word), p.hasAt = false →
    (∀ a, o.world s (o.ctx s op p sec client) = some a → o.judge s op p sec client = .refuse { status := .denied } (some a))
      ∧ (o.world s (o.ctx s op p sec client) = none → s.mode.mode ≠ .update → ∀ k, o.mode s (o.ctx s op p sec client) s.mode.mode = some k →
          o.judge s op p sec client = .refuse (Rej.mode k) none)
      ∧ (o.world s (o.ctx s op p sec client) = none → s.mode.mode ≠ .update → o.mode s (o.ctx s op p sec client) s.mode.mode = none →
          ∀ r, s.resolve o.path p = .error r → o.judge s op p sec client = .refuse r none)
      ∧ (o.world s (o.ctx s op p sec client) = none → s.mode.mode ≠ .update → o.mode s (o.ctx s op p sec client) s.mode.mode = none →
          ∀ x, s.resolve o.path p = .ok x → ∀ k, o.params s (o.ctx s op p sec client) = some k → o.judge s op p sec client = .refuse (Rej.param k) none)

/-- R39, R40: a fanned-out command that no member refuses reaches, in member order, every leaf under its path but the members that are ABSENT or DISABLED and were reached
through a frame; it counts those that it skipped. -/
def Obligations.FanOutReaches : Prop :=
  ∀ (o : OpSpec) (s : State) (c : Ctx) (k : Leaf → Bool), (o.fan s c k false).reject = none →
    (o.fan s c k false).leaves.map (·.2) = s.reached c
      ∧ (o.fan s c k false).skipped + (s.reached c).length = (s.leavesUnder c.target c.lv).length
      ∧ ∀ u ∈ s.reached c, k u = true ∧ o.leafOk s c u = none

/-- Reading commands, and those that change only sessions, the schedule, alerts, transfers' bookkeeping or the recorder, leave the whole machine as it was: memory, mode,
latches, every unit and every slot, for every form of the packet, accepted or not; BULK_CLOSE does so where no word of memory is in error (R527). A reading of the gated
blocks does so when no register write to them waits; the waiting writes are applied first (R25), as the statements of what each opcode does say with `startState`. -/
def Obligations.ReadsStand : Prop :=
  (∀ (t : Nat) (p : Packet) (s u : State) (i : Nat → Packet → Instr),
    i ∈ [Instr.ping, .deviceInfo, .statusGet, .scheduleList, .laneStatus, .timeGet, .timeStatus, .axisStatus, .ledStatus, .tallyRead, .tallyInfo, .auditRead, .ringsRead, .secInfo, .frameList
      , .sessionOpen, .sessionClose, .alertMask, .alertAck, .scheduleCancel, .bulkAbort, .bulkStatus, .tallyMark, .ringsConfig] →
    exec (i t p) s = .next u → machineStands s u)
    ∧ (∀ (t : Nat) (p : Packet) (s u : State), s.ue = [] → exec (.bulkClose t p) s = .next u → machineStands s u)
    ∧ (∀ (t : Nat) (p : Packet) (s u : State) (i : Nat → Packet → Instr),
      i ∈ [Instr.layerStatus, .beamStatus, .trussStatus, .stickQuery, .plumbFeatures, .scribeQuality] → (∀ x ∈ s.held, inBeamDomain x.1 = false) →
      exec (i t p) s = .next u → machineStands s u)

/-! ## What each opcode does when it executes at once

Each clause is of the form: a packet that passes every step of R84 (`executes`) leaves exactly this state: the effect, then the audit entry, then the reply. -/

/-- PING, DEVICE_INFO, STATUS_GET and SCHEDULE_LIST answer what they read; the block is otherwise as the packet's arrival left it (R43, R97, R98). Completes (its conclusion
is `exec i s = .next …`): ping, deviceInfo, statusGet, scheduleList. -/
def Obligations.DeviceReads : Prop :=
  Gives opPing 0x0000 .ping (fun u _ => { st := u, body := leBytes 4 (u.now / 4294967296) ++ leBytes 4 (u.now % 4294967296) })
    ∧ Gives opDeviceInfo 0x0003 .deviceInfo (fun u _ =>
        { st := u, body := leBytes 4 (regView u 0x00).toNat ++ leBytes 4 (regView u 0x04).toNat ++ leBytes 4 u.firmware.toNat ++ leBytes 4 (regView u 0x1C).toNat })
    ∧ (∀ l, GivesIf opStatusGet 0x0004 .statusGet (fun _ c => c.target = .leaf l) fun u _ => { st := u, body := leBytes 4 (regView u (statusReg l)).toNat })
    ∧ GivesIf opStatusGet 0x0004 .statusGet (fun _ c => ∀ l, c.target ≠ .leaf l) (fun u c => { st := u, body := u.aggregate c.target c.lv })
    ∧ Gives opScheduleList 0x0020 .scheduleList (fun u c =>
        let l := (u.schedule.drop (leAt c.params 0 2)).take (if c.jumbo then 291 else 49)
        { st := u, body := leBytes 2 u.front.sched.length ++ leBytes 2 l.length ++ l.flatMap Sched.entry })

/-- SESSION_OPEN takes the lowest free slot and a fresh identifier and answers it with the device time; SESSION_CLOSE, ALERT_MASK and ALERT_ACK act on the packet's own
session; SCHEDULE_CANCEL ends a pending command with status ABORTED, and of a move tells the workers (R87, R88, R94, R98, R100). Completes (its conclusion is `exec i s =
.next …`): sessionOpen, sessionClose, scheduleCancel, alertMask, alertAck. -/
def Obligations.SessionCommands : Prop :=
  (∀ k, GivesIf opSessionOpen 0x0001 .sessionOpen (fun u _ => u.freeSlot = some k) fun u c =>
      let id := freshId (u.front.sessions.map (·.id)) (Config.freeNat u.draws) 8
      let se : Session :=
        { slot := k, id := id, client := leWord c.params 0, dual := (byteAt c.params 4).testBit 0, jumbo := (byteAt c.params 4).testBit 1
          timeout := if leAt c.params 6 2 = 0 then 10 else leAt c.params 6 2, highest := none, seen := [], alertMask := 0xFFFF, alertSeq := 1, alerts := [], lostNow := 0
          addr0 := none, addr1 := none, lastPort := c.p.port, lastAddr := c.p.origin, lastAt := u.now }
      { st := ({ u with draws := u.draws + 1, front := { u.front with sessions := u.front.sessions ++ [se] } } : State).toWorkers ctlSession (se.notice true)
        body := leBytes 4 id.toNat ++ timeBytes u.now, audit := some (.params c.params) })
    ∧ GivesThen opSessionClose 0x0002 .sessionClose (fun u c => c.done u) (fun u c => u.closeSession c.p.session)
    ∧ (∀ se, GivesIf opAlertMask 0x0030 .alertMask (fun u c => u.session c.p.session = some se) fun u c =>
        c.done (u.setSession { se with alertMask := BitVec.ofNat 16 (leAt c.params 0 2) }))
    ∧ (∀ se, GivesIf opAlertAck 0x0031 .alertAck (fun u c => u.session c.p.session = some se) fun u c =>
        c.done ((u.setSession { se with alerts := se.alerts.filter fun a => decide (leAt c.params 0 4 < a.seq) }).alertLost se.slot))
    ∧ GivesIf opAlertMask 0x0030 .alertMask (fun u c => u.session c.p.session = none) (fun u c => c.done u)
    ∧ GivesIf opAlertAck 0x0031 .alertAck (fun u c => u.session c.p.session = none) (fun u c => c.done u)
    ∧ (∀ e, GivesIf opScheduleCancel 0x0021 .scheduleCancel (fun u c => u.cancelled c = some e) fun u c =>
        let v := if e.opcode = 0x0010 then u.toWorkers ctlPlan (leBytes 1 (byteAt e.packet.params 0) ++ leBytes 1 0 ++ leBytes 2 0 ++ timeBytes e.due) else u
        c.done ((v.onFront fun f => { f with sched := f.sched.erase e }).execResult e.packet.session e.packet.sequence (levelsOf e.packet.path) .aborted 0))

/-- MODE_SET makes its move: into HOLD by the host's hold cause, into PAUSE from EXPOSE by stopping the beams first, else at once, and register writes that waited for the
DRIVE clock are applied where it now runs (R25); HOLD and SAFE give the host's hold cause, SAFE after setting the laser-safety latch with cause 5; LATCH_CLEAR clears the
latches that its mask names; FAULT_ACK acknowledges every leaf under its path; RESET and SHUTDOWN act after their reply (R42, R47-R51, R54, R59, R61, R69). Completes (its
conclusion is `exec i s = .next …`): faultAck, modeSet, hold, safe, latchClear, reset, shutdown. -/
def Obligations.ModeCommands : Prop :=
  (∀ m, GivesIf opModeSet 0x0010 .modeSet (fun _ c => modeArg c = some m ∧ m ≠ .hold ∧ m ≠ .pause) fun u c => c.done (u.enterMode m 0).driveClock)
    ∧ GivesIf opModeSet 0x0010 .modeSet (fun _ c => modeArg c = some .hold) (fun u c => c.done (u.holdCause 7).driveClock)
    ∧ GivesIf opModeSet 0x0010 .modeSet (fun u c => modeArg c = some .pause ∧ u.mode.mode = .expose) (fun u c => c.done u.beginPause.driveClock)
    ∧ GivesIf opModeSet 0x0010 .modeSet (fun u c => modeArg c = some .pause ∧ u.mode.mode ≠ .expose) (fun u c => c.done (u.enterMode .pause 0).driveClock)
    ∧ Gives opHold 0x0011 .hold (fun u c => c.done (u.holdCause 7))
    ∧ Gives opSafe 0x0012 .safe (fun u c => c.done (((u.onSafety fun x => { x with laserLatch := true, laserCause := 5 }).gatesLow).holdCause 7))
    ∧ Gives opLatchClear 0x0013 .latchClear (fun u c =>
        let w := byteAt c.params 0
        c.done (({ u with safety := { u.safety with laserLatch := u.safety.laserLatch && !w.testBit 0, bridgeLatch := u.safety.bridgeLatch && !w.testBit 1 }
                          mode := { u.mode with graceFrom := if w.testBit 0 then u.now else u.mode.graceFrom } } : State).bridges 1))
    ∧ Gives opFaultAck 0x0005 .faultAck (fun u c => c.done ((u.leavesUnder c.target c.lv).foldl (fun st x => st.ackAny x.2.1) u))
    ∧ GivesThen opReset 0x0014 .reset (fun u c => c.done u) (fun u _ => (u.resetState 0x10 false).loadTime.startUp false)
    ∧ GivesThen opShutdown 0x0015 .shutdown (fun u c => c.done u) (fun u c => u.shutdown (if leAt c.params 0 4 = 1 then some (timeAt c.params 4) else none))

/-- LATCH_CLEAR is refused, with the causes of R61 in their order, in a mode that is none of CONFIG, IDLE, PAUSE and HOLD, and for the laser-safety latch while a LASER_EN
input is low or has been high for less than 10 ms, in a lockout, without the 25 MHz reference or while the die is too hot, and for the bridge latch while VMOT is out of
its limits. -/
def Obligations.LatchClearCauses : Prop :=
  ∀ (s : State) (w : Nat),
    s.clearCause w = 0 ↔ (s.mode.mode ∈ [Mode.config, .idle, .pause, .hold]
      ∧ (w.testBit 0 = true → s.safety.enA = true ∧ s.safety.enB = true ∧ s.safety.highA + 10000000 ≤ s.now ∧ s.safety.highB + 10000000 ≤ s.now ∧ s.safety.lockout = false
          ∧ s.power.ref25 = true ∧ s.regB 0x0B000000 7 = false)
      ∧ (w.testBit 1 = true → s.regB 0x0B000000 3 = false ∧ s.regB 0x0B000000 4 = false))

/-- REG_READ and REG_READ_LIST answer the values of their registers in order, with what reading them clears, latches and detects; REG_WRITE, REG_WRITE_LIST and REG_MODIFY
make their writes, all or none, those of an Ethernet port's registers once the reply has been sent (R378), and the audit keeps each register's old and new value
(R102-R105). Completes (its conclusion is `exec i s = .next …`): regRead, regWrite, regModify, regReadList, regWriteList. -/
def Obligations.RegisterCommands : Prop :=
  let first (ws : List RegWr) (u : State) : Res :=
    { st := if (ws.any fun w => afterReply w.addr) = true then (u.doWrites (ws.filter fun w => !afterReply w.addr)).1 else (u.doWrites ws).1
      audit := some (.regs (u.doWrites ws).2) }
  let last (ws : List RegWr) (u : State) : State :=
    if (ws.any fun w => afterReply w.addr) = true then (u.doWrites (ws.filter fun w => afterReply w.addr)).1 else u
  Gives opRegRead 0x0100 .regRead (fun u c => u.readRegs (tabulate (leAt c.params 8 2) fun i => leAt c.params 0 8 + 4 * i))
    ∧ Gives opRegReadList 0x0103 .regReadList (fun u c => u.readRegs (listAddrs c))
    ∧ GivesThen opRegWrite 0x0101 .regWrite (fun u c => first (writeOps c) u) (fun u c => last (writeOps c) u)
    ∧ GivesThen opRegWriteList 0x0104 .regWriteList (fun u c => first (listOps c) u) (fun u c => last (listOps c) u)
    ∧ GivesThen opRegModify 0x0102 .regModify
        (fun u c => first [{ addr := leAt c.params 0 8, val := leWord c.params 12, mask := leAt c.params 8 4, causeA := 0, causeV := 12 }] u)
        (fun u c => last [{ addr := leAt c.params 0 8, val := leWord c.params 12, mask := leAt c.params 8 4, causeA := 0, causeV := 12 }] u)

/-- BULK_OPEN opens a transfer under a free identifier and empties the inactive half for kind 1; BULK_DATA stores its bytes at the transfer's offset and notes the range;
BULK_CLOSE makes a complete transfer whose CRC fits valid, and answers INCOMPLETE with the first missing offset or CRC otherwise, the errors that reading it meets
detected (R527); BULK_ABORT drops it; BULK_STATUS lists what is missing; BULK_READ answers memory (R106-R109). Completes (its conclusion is `exec i s = .next …`):
bulkOpen, bulkData, bulkClose, bulkAbort, bulkStatus, bulkRead. -/
def Obligations.BulkCommands : Prop :=
  let met (x : Transfer) (u : State) : State := u.memMet (if x.kind = 1 ∨ x.kind = 2 then u.ueIn ((u.bulkArea x.kind).1 + x.offset) x.length else [])
  Gives opBulkOpen 0x0200 .bulkOpen (fun u c =>
      let id := freeXfer u.front.transfers u.front.nextXfer 17
      let t : Transfer := { id := id, session := c.p.session, kind := byteAt c.params 0, offset := leAt c.params 4 8, length := leAt c.params 12 4
                            crc := leWord c.params 16, got := [], secure := c.secure, lastAt := u.now }
      let v : State := { u with front := { u.front with transfers := u.front.transfers ++ [t], nextXfer := id % 0xFFFF + 1 } }
      { st := if byteAt c.params 0 = 1 then v.onLayers fun l => { l with inactive := .empty, inactPkg := none } else v, body := leBytes 2 id })
    ∧ (∀ x, GivesIf opBulkData 0x0201 .bulkData (fun u c => u.named c = some x) fun u c =>
        let off := leAt c.params 4 4
        let bs := c.params.drop 8
        { st := (u.bulkWrite x.kind (x.offset + off) bs).setTransfer { x with got := addRange off (off + bs.length) x.got, lastAt := u.now } })
    ∧ (∀ x g l, GivesIf opBulkClose 0x0202 .bulkClose (fun u c => u.named c = some x ∧ x.missing = g :: l) fun u _ =>
        { st := u.setTransfer { x with lastAt := u.now }, status := .incomplete, value := g.1 })
    ∧ (∀ x, GivesIf opBulkClose 0x0202 .bulkClose (fun u c => u.named c = some x ∧ x.missing = [] ∧ crc32c (u.bulkRead x.kind x.offset x.length) ≠ x.crc) fun u _ =>
        { st := (met x u).setTransfer { x with lastAt := (met x u).now }, status := .crc })
    ∧ (∀ x, GivesIf opBulkClose 0x0202 .bulkClose (fun u c => u.named c = some x ∧ x.missing = [] ∧ crc32c (u.bulkRead x.kind x.offset x.length) = x.crc) fun u _ =>
        { st := (met x u).xferDone x, audit := some (.bulk x.kind x.offset x.length x.crc) })
    ∧ (∀ x, GivesIf opBulkAbort 0x0203 .bulkAbort (fun u c => u.named c = some x) fun u _ =>
        { st := u.onFront fun f => { f with transfers := f.transfers.filter fun y => y.id != x.id } })
    ∧ (∀ x, GivesIf opBulkStatus 0x0204 .bulkStatus (fun u c => u.named c = some x) fun u _ =>
        { st := u.setTransfer { x with lastAt := u.now }
          body := leBytes 2 (min x.missing.length 64) ++ leBytes 1 (bit (decide (64 < x.missing.length))) ++ leBytes 1 0
            ++ (x.missing.take 64).flatMap fun g => leBytes 4 g.1 ++ leBytes 4 (g.2 - g.1) })
    ∧ Gives opBulkRead 0x0205 .bulkRead (fun u c =>
        { st := (u.hostReads (leAt c.params 0 8) (leAt c.params 8 4)).2, body := (u.hostReads (leAt c.params 0 8) (leAt c.params 8 4)).1 })

/-- What is missing of a transfer is exactly what none of its ranges holds: an offset below its length lies in a missing range when and only when no chunk brought it (R107,
R108). -/
def Obligations.MissingIsExact : Prop :=
  ∀ (a z off : Nat) (l : List (Nat × Nat)), (l.Pairwise fun x y => x.2 < y.1) → (∀ r ∈ l, r.1 < r.2) → a < z →
    ((addRange a z l).Pairwise fun x y => x.2 < y.1) ∧ (∀ r ∈ addRange a z l, r.1 < r.2)
      ∧ ((∃ r ∈ addRange a z l, r.1 ≤ off ∧ off < r.2) ↔ (a ≤ off ∧ off < z) ∨ ∃ r ∈ l, r.1 ≤ off ∧ off < r.2)
      ∧ ∀ n, (∃ r ∈ gapsFrom 0 n l, r.1 ≤ off ∧ off < r.2) ↔ off < n ∧ ¬ ∃ r ∈ l, r.1 ≤ off ∧ off < r.2

/-- JOB_BEGIN opens the job under its generation and gives up another generation's resume point; JOB_END closes it; LAYER_DECLARE starts the check; LAYER_ACTIVATE swaps the
halves and answers which is active; LAYER_RESUME takes the resume point and moves to PAUSE; LAYER_STATUS answers; LAYER_ABORT abandons the layer and moves to IDLE (R66,
R67, R162-R164, R183, R184). Completes (its conclusion is `exec i s = .next …`): jobBegin, jobEnd, layerDeclare, layerActivate, layerResume, layerStatus, layerAbort. -/
def Obligations.LayerCommands : Prop :=
  GivesIf opJobBegin 0x0300 .jobBegin (fun u c => BitVec.ofNat 16 (leAt c.params 0 2) = u.resume.jobGen) (fun u c =>
      let g : BitVec 16 := BitVec.ofNat 16 (leAt c.params 0 2)
      c.done { u with layers := { u.layers with jobOpen := true, jobGen := g, lastGen := some g } })
    ∧ GivesIf opJobBegin 0x0300 .jobBegin (fun u c => BitVec.ofNat 16 (leAt c.params 0 2) ≠ u.resume.jobGen) (fun u c =>
      let g : BitVec 16 := BitVec.ofNat 16 (leAt c.params 0 2)
      c.done ({ u with layers := { u.layers with jobOpen := true, jobGen := g, lastGen := some g } } : State).clearResume)
    ∧ Gives opJobEnd 0x0301 .jobEnd (fun u c => c.done { u with layers := { u.layers with jobOpen := false } })
    ∧ Gives opLayerDeclare 0x0302 .layerDeclare (fun u c =>
        let v := u.memMet (u.ueIn (halfBase (!u.layers.halfB)) 64)
        c.done { v with layers := { v.layers with inactive := .checking, inactPkg := none } })
    ∧ Gives opLayerActivate 0x0303 .layerActivate (fun u c => { c.done u.activate with body := leBytes 1 (bit u.activate.layers.halfB) ++ leBytes 3 0 })
    ∧ Gives opLayerResume 0x0304 .layerResume (fun u c => c.done (u.takeResume.enterMode .pause 0))
    ∧ Gives opLayerStatus 0x0305 .layerStatus (fun u _ =>
        { st := u
          body := leBytes 1 u.layers.active.code ++ leBytes 1 u.layers.inactive.code ++ leBytes 2 ((u.layers.activePkg.map fun p => p.jobGen.toNat).getD 0)
            ++ leBytes 4 u.layerNo ++ leBytes 2 u.layers.sticks.length ++ leBytes 2 u.layers.doneCount ++ timeBytes u.layers.layerStart ++ beams.flatMap u.beamProgress })
    ∧ Gives opLayerAbort 0x0306 .layerAbort (fun u c =>
        let v := if u.abandon.layers.active = .complete then u.abandon.onLayers fun l => { l with active := .abandoned } else u.abandon
        c.done (if v.mode.mode = .idle then v else v.enterMode .idle 0))

/-- BEAM_ENABLE and BEAM_DISABLE act on each beam; PARAM_SET_LOAD writes each set's 32 words; BEAM_STATUS answers ten words a beam; LASER_SAFETY_SET writes both ceilings;
SCANNER_JOG gives each scanner its target and time (R138-R141). Completes (its conclusion is `exec i s = .next …`): beamEnable, beamDisable, paramSetLoad, beamStatus,
laserSafetySet, scannerJog. -/
def Obligations.BeamCommands : Prop :=
  Gives opBeamEnable 0x0400 .beamEnable (fun u c => eachLeaf opBeamEnable u c fun s _ l => (s.enableBeam (leafBeam l), []))
    ∧ Gives opBeamDisable 0x0401 .beamDisable (fun u c => eachLeaf opBeamDisable u c fun s _ l => (s.disableBeam (leafBeam l), []))
    ∧ Gives opParamSetLoad 0x0402 .paramSetLoad (fun u c => eachLeaf opParamSetLoad u c fun s c l => ((s.doWrites (setWrites c (leafBeam l))).1, []))
    ∧ Gives opBeamStatus 0x0403 .beamStatus (fun u c => eachLeaf opBeamStatus u c fun s _ l => (s, s.beamStatus (leafBeam l)))
    ∧ Gives opLaserSafetySet 0x0404 .laserSafetySet (fun u c => eachLeaf opLaserSafetySet u c fun s c l =>
        ((s.doWrites (leafWrites [(beamReg (leafBeam l) 0x201C, leWord c.params 0, 0)])).1, []))
    ∧ Gives opScannerJog 0x0405 .scannerJog (fun u c => eachLeaf opScannerJog u c fun s c l =>
        ((s.onChan (leafBeam l) fun ch => { ch with jog := some (leS32 c.params 0, leS32 c.params 4, leS32 c.params 8, leAt c.params 12 4) }).fanMark c l, []))

/-- TRUSS_CONFIG, TERRITORY_LOAD and GASFLOW_SET write their registers; TRUSS_STATUS and STICK_QUERY answer (R207, R213). Completes (its conclusion is `exec i s = .next …`):
trussConfig, territoryLoad, gasflowSet, trussStatus, stickQuery. -/
def Obligations.TrussCommands : Prop :=
  Gives opTrussConfig 0x0500 .trussConfig (fun u c => c.done (u.doWrites
      [{ addr := 0x04000004, val := leWord c.params 0, mask := allBits, causeA := 0, causeV := 0 }, { addr := 0x04000008, val := leWord c.params 4, mask := allBits, causeA := 4, causeV := 4 }
      , { addr := 0x04000000, val := leWord c.params 8, mask := 7, causeA := 8, causeV := 8 }]).1)
    ∧ Gives opTerritoryLoad 0x0501 .territoryLoad (fun u c => c.done (u.doWrites (territoryWrites c)).1)
    ∧ Gives opGasflowSet 0x0502 .gasflowSet (fun u c => c.done (u.doWrites (gasWrites c)).1)
    ∧ Gives opTrussStatus 0x0503 .trussStatus (fun u _ =>
        { st := u
          body := leBytes 4 (regView u 0x04000020).toNat ++ leBytes 8 u.heldMask ++ leBytes 1 (beams.filter fun b => (u.kerf b).held).length ++ leBytes 1 u.truss.token
            ++ leBytes 2 0 ++ leBytes 4 (regView u 0x0400011C).toNat ++ beams.flatMap u.trussEntry })
    ∧ Gives opStickQuery 0x0504 .stickQuery (fun u c => { st := u, body := (tabulate (leAt c.params 2 2) fun i => leAt c.params 0 2 + i).flatMap u.stickInfo })

/-- PLUMB_CONFIG writes its section of each beam; PLUMB_FEATURES answers features or trace entries; GRAIN_MATERIAL gives the material constants, pending while a layer runs;
GRAIN_READ answers decayed cells; GRAIN_CLEAR clears the planes of its mask (R246, R247, R272-R274). Completes (its conclusion is `exec i s = .next …`): plumbConfig,
plumbFeatures, grainMaterial, grainRead, grainClear. -/
def Obligations.SensingCommands : Prop :=
  Gives opPlumbConfig 0x0600 .plumbConfig (fun u c => eachLeaf opPlumbConfig u c fun s c l => ((s.doWrites (plumbWrites c (leafBeam l))).1, []))
    ∧ GivesIf opPlumbFeatures 0x0601 .plumbFeatures (fun _ c => byteAt c.params 0 = 0) (fun u c => eachLeaf opPlumbFeatures u c fun s _ l => (s, s.features (leafBeam l)))
    ∧ GivesIf opPlumbFeatures 0x0601 .plumbFeatures (fun _ c => byteAt c.params 0 ≠ 0) (fun u c => eachLeaf opPlumbFeatures u c fun s c l => (s,
        (tabulate (byteAt c.params 2) fun i => ((s.plumb (leafBeam l)).trace.getD (byteAt c.params 1 + i) []) ++ List.replicate 16 0).flatMap fun e => e.take 16))
    ∧ Gives opGrainMaterial 0x0602 .grainMaterial (fun u c => c.done ((materialWords u c).foldl (fun st e => st.setMaterial e.1 e.2) u))
    ∧ Gives opGrainRead 0x0603 .grainRead (fun u c =>
        { st := u.memMet ((readCells c).flatMap (u.cellErrors (byteAt c.params 0))).dedup
          body := (readCells c).flatMap fun x => leBytes 4 (u.grainCell (byteAt c.params 0) x.1 x.2) })
    ∧ Gives opGrainClear 0x0604 .grainClear (fun u c => c.done (u.grainClear (byteAt c.params 0)))

/-- SCRIBE_TABLE_WRITE loads each beam's staged table; SCRIBE_TABLE_READ answers SCB_GEN and a piece of the table; SCRIBE_FIDUCIALS writes the entries; SCRIBE_PASS requests a
pass of each beam; SCRIBE_CONFIRM applies or rejects a held result; SCRIBE_QUALITY answers eight words a beam (R285-R288, R298, R299). Completes (its conclusion is `exec
i s = .next …`): scribeTableWrite, scribeTableRead, scribeFiducials, scribePass, scribeConfirm, scribeQuality. -/
def Obligations.ScribeCommands : Prop :=
  Gives opScribeTableWrite 0x0700 .scribeTableWrite (fun u c => eachLeaf opScribeTableWrite u c fun s _ l => (s.loadTable (leafBeam l), []))
    ∧ Gives opScribeTableRead 0x0701 .scribeTableRead (fun u c =>
        let q := u.hostReads (tableBase c.beam + leAt c.params 0 4) (leAt c.params 4 4)
        { st := q.2, body := leBytes 4 (u.reg (scb c.beam 4)).toNat ++ q.1 })
    ∧ Gives opScribeFiducials 0x0702 .scribeFiducials (fun u c => c.done (u.doWrites (fidWrites c)).1)
    ∧ Gives opScribePass 0x0703 .scribePass (fun u c => eachLeaf opScribePass u c fun s c l =>
        ((s.requestPass (leafBeam l) (byteAt c.params 0) ((byteAt c.params 1).testBit 0)).fanMark c l, []))
    ∧ Gives opScribeConfirm 0x0704 .scribeConfirm (fun u c => c.done (u.confirm c.beam (byteAt c.params 0)))
    ∧ Gives opScribeQuality 0x0705 .scribeQuality (fun u c => eachLeaf opScribeQuality u c fun s _ l => (s, s.quality (leafBeam l)))

/-- VENEER_LAYER_CONFIG stages a layer's 64 bytes; VENEER_COMMIT makes the staged layers of its mask pending; VENEER_FENCE advances or sets a host fence and answers its
value; VENEER_COEFF_LOAD takes staged coefficients; VENEER_FRAME_READ answers bytes of the front surface, locking before and unlocking after; VENEER_LIVE sets the period,
its first boundary falling now (R320, R324, R326-R333). Completes (its conclusion is `exec i s = .next …`): veneerLayerConfig, veneerCommit, veneerFence, veneerCoeffLoad,
veneerFrameRead, veneerLive. -/
def Obligations.VeneerCommands : Prop :=
  Gives opVeneerLayerConfig 0x0800 .veneerLayerConfig (fun u c =>
      c.done { u with veneer := { u.veneer with staged := updAt u.veneer.staged (byteAt c.params 0) fun _ => some c.params } })
    ∧ GivesIf opVeneerCommit 0x0801 .veneerCommit (fun u c => u.emptySlot (leAt c.params 0 2) = false) (fun u c => c.done (u.commitLayers (leAt c.params 0 2)))
    ∧ GivesIf opVeneerFence 0x0802 .veneerFence (fun _ c => byteAt c.params 1 = 1) (fun u c =>
        let v := u.setFence (byteAt c.params 0) (u.fence (byteAt c.params 0) + 1)
        { c.done v with body := leBytes 4 (v.fence (byteAt c.params 0)).toNat })
    ∧ GivesIf opVeneerFence 0x0802 .veneerFence (fun _ c => byteAt c.params 1 ≠ 1) (fun u c =>
        let v := u.setFence (byteAt c.params 0) (leWord c.params 4)
        { c.done v with body := leBytes 4 (v.fence (byteAt c.params 0)).toNat })
    ∧ Gives opVeneerCoeffLoad 0x0803 .veneerCoeffLoad (fun u c => c.done { u with veneer := { u.veneer with
        pendCoeff := u.veneer.pendCoeff.zipIdx.map fun e => if (byteAt c.params 0).testBit e.2 then some (Memory.reads u.front.coefs (1792 * e.2) 1792) else e.1 } })
    ∧ Gives opVeneerFrameRead 0x0804 .veneerFrameRead (fun u c =>
        let v : State := if (byteAt c.params 8).testBit 0 then { u with veneer := { u.veneer with lockUntil := some (u.now + 2 * second) } } else u
        let q := v.hostReads ((v.surface v.frontSurf).addr + leAt c.params 0 4) (leAt c.params 4 4)
        { st := if (byteAt c.params 8).testBit 1 then q.2.unlock else q.2
          body := leBytes 4 (v.reg vnFrame).toNat ++ leBytes 1 v.frontSurf ++ leBytes 3 0 ++ q.1 })
    ∧ Gives opVeneerLive 0x0805 .veneerLive (fun u c =>
        c.done { u.setReg 0x06000028 (word (leAt c.params 0 2)) with veneer := { u.veneer with nextLive := u.now } })

/-- LANE_CONFIG writes a lane's or a port's settings; LANE_BITSLIP slips a lane's alignment; LANE_STATUS answers; LANE_BOND bonds or unbonds a pair; DISCOVERY_SCAN rescans;
HEAD_COMMAND sends one COMMAND message to the head (R343, R344, R352, R353, R369). Completes (its conclusion is `exec i s = .next …`): laneConfig, laneBitslip,
laneStatus, laneBond, discoveryScan, headCommand. -/
def Obligations.LaneCommands : Prop :=
  Gives opLaneConfig 0x0900 .laneConfig (fun u c => eachLeaf opLaneConfig u c fun s c l => ((s.doWrites (laneWrites c l)).1, []))
    ∧ (∀ l, GivesIf opLaneBitslip 0x0901 .laneBitslip (fun _ c => c.slipLane = some l) fun u c =>
        let v := u.bitslip l (byteAt c.params 1) ((byteAt c.params 2).testBit 0)
        { c.done v with body := leBytes 1 (bit (v.lane l).syncOk) ++ leBytes 1 (v.lane l).slip ++ leBytes 2 0 })
    ∧ Gives opLaneStatus 0x0902 .laneStatus (fun u c => eachLeaf opLaneStatus u c fun s _ l => s.laneStatus l)
    ∧ Gives opLaneBond 0x0903 .laneBond (fun u c => c.done (u.bond c.joist (byteAt c.params 0 == 1)))
    ∧ GivesIf opDiscoveryScan 0x0904 .discoveryScan (fun u c => c.target = .root ∧ (u.rescan.chain.manager = false ∨ (u.rescan.workers.map (·.1)).max? = none))
        (fun u c => c.done (allLanes.foldl (fun st l => st.rescanLane l) u))
    ∧ (∀ d, GivesIf opDiscoveryScan 0x0904 .discoveryScan (fun u c => c.target = .root ∧ u.rescan.chain.manager = true ∧ (u.rescan.workers.map (·.1)).max? = some d) fun u c =>
        c.done ((allLanes.foldl (fun st l => st.rescanLane l) u).sendControl .down ctlScan d []))
    ∧ GivesIf opDiscoveryScan 0x0904 .discoveryScan (fun _ c => c.target ≠ .root) (fun u c =>
        c.done (((u.leavesUnder c.target c.lv).flatMap fun x => leafLanes x.2.1).foldl (fun st l => st.rescanLane l) u))
    ∧ Gives opHeadCommand 0x0905 .headCommand (fun u c =>
        c.done (u.headCommand c.joist (BitVec.ofNat 16 (leAt c.params 0 2)) ((c.params.drop 4).take (leAt c.params 2 2))))

/-- TIME_GET and TIME_STATUS answer; TIME_SERVO_CONFIG and PTP_CONFIG write their registers; TIME_STEP steps OFFSET and answers the old and the new one (R391, R395).
Completes (its conclusion is `exec i s = .next …`): timeGet, timeServoConfig, timeStep, ptpConfig, timeStatus. -/
def Obligations.TimeCommands : Prop :=
  Gives opTimeGet 0x0A00 .timeGet (fun u _ =>
      { st := u
        body := timeBytes u.now ++ s64 u.time.offset ++ (if u.time.valid then s64 ((u.now : Int) + u.time.offset) else leBytes 8 0) ++ leBytes 4 u.timeState
          ++ leBytes 2 (u.timeState / 65536) ++ leBytes 2 0 })
    ∧ Gives opTimeServoConfig 0x0A01 .timeServoConfig (fun u c => c.done (u.doWrites (servoWrites c)).1)
    ∧ Gives opTimeStep 0x0A02 .timeStep (fun u c =>
        { c.done (u.offsetStep fun s =>
            let s := s.stepTo (if stepForce c then 3 else 2) (u.stepTarget c)
            if s.time.servo = .stepHeld then s.setServo .tracking else s.timeStatus) with body := s64 u.newOffset ++ s64 (u.stepTarget c) })
    ∧ Gives opPtpConfig 0x0A03 .ptpConfig (fun u c => c.done (u.doWrites (wordsTo c 0 [ptpConfig])).1)
    ∧ Gives opTimeStatus 0x0A04 .timeStatus (fun u _ =>
        let w (a : Nat) : List Byte := leBytes 4 (regView u a).toNat
        { st := u
          body := w 0x08801014 ++ w 0x08801028 ++ w 0x0880102C ++ w 0x08801030 ++ s64 (u.time.pending.getD 0) ++ u.masterId ++ w stepsApplied ++ w stepsRefused
            ++ w syncMissed ++ leBytes 1 ((u.time.ptpPort.map (·.val)).getD 0xFF) ++ leBytes 3 0 })

/-- MOVE and HOME start each port's motion, a gang's once for all its members; STOP stops a port with its gang; PORT_CONFIG and LIMITS_SET write four registers a port;
AXIS_STATUS answers; POSITION_SET sets a position; PASSTHROUGH_CONFIG writes PT_CONFIG (R409-R411, R415, R424, R428). Completes (its conclusion is `exec i s = .next …`):
portConfig, move, stop, home, limitsSet, axisStatus, positionSet, passthroughConfig. -/
def Obligations.AxisCommands : Prop :=
  Gives opPortConfig 0x0B00 .portConfig (fun u c => eachLeaf opPortConfig u c fun s c l => ((s.doWrites (portWrites c l)).1, []))
    ∧ Gives opMove 0x0B01 .move (fun u c => eachLeaf opMove u c fun s c l =>
        ((perAxis s c l (fun st p => st.doMove p (moveKind c) (moveValue c)) fun st g =>
          g.foldl (fun x p => x.doMove p (st.gangMove g (moveKind c) (moveValue c)).1 (st.gangMove g (moveKind c) (moveValue c)).2) st).fanMark c l, []))
    ∧ Gives opStop 0x0B02 .stop (fun u c => eachLeaf opStop u c fun s _ l => ((s.gangOf (leafMotor l)).foldl (fun st p => st.doStop p) s, []))
    ∧ Gives opHome 0x0B03 .home (fun u c => eachLeaf opHome u c fun s c l =>
        ((perAxis s c l (fun st p => st.doHome p) fun st g => g.foldl (fun x p => x.doHome p) st).fanMark c l, []))
    ∧ Gives opLimitsSet 0x0B04 .limitsSet (fun u c => eachLeaf opLimitsSet u c fun s c l => ((s.doWrites (limitWrites c l)).1, []))
    ∧ Gives opAxisStatus 0x0B05 .axisStatus (fun u c => eachLeaf opAxisStatus u c fun s _ l => (s, s.axisStatus (leafMotor l)))
    ∧ Gives opPositionSet 0x0B06 .positionSet (fun u c => eachLeaf opPositionSet u c fun s c l =>
        (s.setPosition (leafMotor l) (leS32 c.params 0) ((byteAt c.params 4).testBit 0), []))
    ∧ Gives opPassthroughConfig 0x0B07 .passthroughConfig (fun u c => c.done (u.doWrites
        [{ addr := 0x070C0000 + 4 * byteAt c.params 0, val := word (byteAt c.params 1 + 256 * byteAt c.params 2), mask := allBits, causeA := 0, causeV := 0 }]).1)

/-- LED_CONFIG writes two registers a channel; LED_STAGE stages current and duty; LED_COMMIT applies what is staged under its number at once in a device alone; LED_STATUS
answers; ADJACENCY_TEST starts a test of all channels (R441, R443, R446, R448). Completes (its conclusion is `exec i s = .next …`): ledConfig, ledStage, ledCommit,
ledStatus, adjacencyTest. -/
def Obligations.LedCommands : Prop :=
  Gives opLedConfig 0x0C00 .ledConfig (fun u c => eachLeaf opLedConfig u c fun s c l => ((s.doWrites (wordsTo c 0 ([4, 0x14].map (ledReg (leafLed l))))).1, []))
    ∧ Gives opLedStage 0x0C01 .ledStage (fun u c => eachLeaf opLedStage u c fun s c l => (s.ledStage (leafLed l) (leAt c.params 0 2) (leAt c.params 2 2), []))
    ∧ GivesIf opLedCommit 0x0C02 .ledCommit (fun u c => u.chainLead = 0 ∧ c.later = false) (fun u c => c.done (u.ledCommit (leAt c.params 0 2)))
    ∧ GivesIf opLedCommit 0x0C02 .ledCommit (fun u c => u.chainLead ≠ 0 ∧ c.later = false) (fun u c =>
        c.done ((u.sendCommit (leAt c.params 0 2) (u.now + u.chainLead)).awaitCommit (u.now + u.chainLead) (leAt c.params 0 2)))
    ∧ Gives opLedStatus 0x0C03 .ledStatus (fun u c => eachLeaf opLedStatus u c fun s _ l =>
        (s, [0, 8, 0x10, 0x18].flatMap fun o => leBytes 4 (regView s (ledReg (leafLed l) o)).toNat))
    ∧ Gives opAdjacencyTest 0x0C04 .adjacencyTest (fun u c => c.done u.startAdjacency)

/-- TALLY_READ and AUDIT_READ answer records in index order, each page that they pass repaired from its good copy first (R454); TALLY_INFO answers the areas; RINGS_READ
answers bytes of an image; TALLY_MARK writes a HOST_MARK with the session and the host's bytes and answers its index; RINGS_CONFIG changes one set of limits and no bin
(R471, R474). Completes (its conclusion is `exec i s = .next …`): tallyRead, tallyInfo, auditRead, ringsRead, tallyMark, ringsConfig. -/
def Obligations.RecorderCommands : Prop :=
  Gives opTallyRead 0x0D00 .tallyRead (fun u c =>
      let area := byteAt c.params 0
      let staged := if byteAt c.params 1 = 1 ∧ u.tally.stagedGoTo area = true then u.tally.staged else []
      let keep (r : TRec) : Bool := decide (byteAt c.params 2 = 0) || r.type == byteAt c.params 2
      let v := State.meetPages keep (leAt c.params 4 8) (leAt c.params 12 2) c.recRoom (u.tally.area area) [] u
      { st := v, body := readRecs (v.tally.area area) staged (leAt c.params 4 8) (leAt c.params 12 2) c.recRoom keep })
    ∧ Gives opTallyInfo 0x0D01 .tallyInfo (fun u _ =>
        { st := u
          body := leBytes 8 u.tally.next ++ leBytes 8 ((u.tally.circ.head?.map (·.first)).getD none64)
            ++ leBytes 8 (((recsOf u.tally.firstArea).getLast?.map (·.index)).getD none64) ++ leBytes 8 u.tally.firstOpen ++ leBytes 4 (regView u 0x09000000).toNat
            ++ leBytes 4 u.tally.retired ++ leBytes 4 (u.reg rLostTotal).toNat ++ leBytes 2 u.tally.pages.length ++ leBytes 2 u.tally.tokens ++ leBytes 4 u.tally.lastEra })
    ∧ Gives opAuditRead 0x0D02 .auditRead (fun u c =>
        let keep (r : TRec) : Bool := r.type == recAudit && (decide (leAt c.params 8 4 = 0) || leAt r.body 4 4 == leAt c.params 8 4)
        let v := State.meetPages keep (leAt c.params 0 8) (leAt c.params 12 2) c.recRoom (u.tally.firstArea ++ u.tally.circ) [] u
        { st := v, body := readRecs (v.tally.firstArea ++ v.tally.circ) u.tally.staged (leAt c.params 0 8) (leAt c.params 12 2) c.recRoom keep })
    ∧ GivesIf opRingsRead 0x0D03 .ringsRead (fun _ c => byteAt c.params 0 = 0) (fun u c =>
        { st := u, body := leBytes 8 u.tally.rings.seq ++ (u.tally.rings.image.drop (leAt c.params 4 4)).take (leAt c.params 8 4) })
    ∧ (∀ r l, GivesIf opRingsRead 0x0D03 .ringsRead (fun u c => byteAt c.params 0 ≠ 0 ∧ u.tally.ringsNv = r :: l) fun u c =>
        { st := u, body := leBytes 8 r.seq ++ (r.image.drop (leAt c.params 4 4)).take (leAt c.params 8 4) })
    ∧ GivesIf opRingsRead 0x0D03 .ringsRead (fun u c => byteAt c.params 0 ≠ 0 ∧ u.tally.ringsNv = []) (fun u c =>
        { st := { u with draws := u.draws + leAt c.params 8 4 + 8 }, body := tabulate (leAt c.params 8 4 + 8) fun i => BitVec.ofNat 8 (Config.freeNat (u.draws + i)) })
    ∧ Gives opTallyMark 0x0D04 .tallyMark (fun u c =>
        let q := u.tallyNew recMark (leBytes 4 c.p.session.toNat ++ c.params)
        { st := q.1, body := leBytes 8 (q.2.getD 0), audit := some (.params c.params) })
    ∧ Gives opRingsConfig 0x0D05 .ringsConfig (fun u c => c.done { u with tally := { u.tally with rings := { u.tally.rings with
        limits := updAt u.tally.rings.limits (byteAt c.params 0) fun _ => tabulate 31 fun i => leS32 c.params (4 + 4 * i) } } })

/-- SEC_INFO answers; WORLD_ASSIGN's mask is in force once its reply has been sent; KEY_PROVISION appends the next key after its reply and reports it; UPDATE_BEGIN opens the
slot that is not ACTIVE; UPDATE_VERIFY makes the slot WRITTEN when every check of the image passes and INVALID otherwise; UPDATE_COMMIT makes it TRIAL and resets;
UPDATE_CONFIRM makes it ACTIVE and raises SEC_FLOOR (R480, R484-R488). Completes (its conclusion is `exec i s = .next …`): secInfo, worldAssign, keyProvision,
updateBegin, updateVerify, updateCommit, updateConfirm. -/
def Obligations.SecurityCommands : Prop :=
  Gives opSecInfo 0x0E00 .secInfo (fun u _ =>
      { st := u
        body := leBytes 4 (regView u 0x0A000000).toNat ++ leBytes 4 (u.reg 0x0A000004).toNat ++ u.keyCheck ++ leBytes 4 u.sec.secFloor ++ u.sec.slotA.info ++ u.sec.slotB.info })
    ∧ GivesThen opWorldAssign 0x0E01 .worldAssign (fun u c => { st := u, audit := some (.regs [(0x0A000004, u.reg 0x0A000004, leWord c.params 0)]) })
        (fun u c => u.setReg 0x0A000004 (leWord c.params 0))
    ∧ GivesThen opKeyProvision 0x0E02 .keyProvision (fun u c => { st := u, audit := some (.params (c.params.take 4)) }) (fun u c =>
        let v : State := { u with sec := { u.sec with keys := u.sec.keys ++ [(c.params.drop 4).take 32] } }
        v.raise 0x0E00 0 0 [] (leBytes 1 (byteAt c.params 0) ++ leBytes 3 0 ++ v.keyCheck))
    ∧ Gives opUpdateBegin 0x0E03 .updateBegin (fun u c =>
        let b := u.sec.slotA.st == .active
        { st := u.setSlots (u.sec.setSlot b { u.sec.slot b with st := .writing, trialSet := false, sigOk := false }) 0
          body := leBytes 1 (bit b) ++ leBytes 3 0, audit := some (.params c.params) })
    ∧ (∀ b, GivesIf opUpdateVerify 0x0E04 .updateVerify (fun u _ => u.sec.find .writing = some b ∧ u.imageResult b = 0) fun u c =>
        let h := Memory.reads u.nv (if b then 0x1000000 else 0) 256
        { st := u.setSlots (u.sec.setSlot b { u.sec.slot b with st := .written, sigOk := true, secVer := leAt h 6 2, fwVer := leWord h 8 }) 0
          body := leBytes 1 0 ++ leBytes 3 0, audit := some (.params c.params) })
    ∧ (∀ b r, GivesIf opUpdateVerify 0x0E04 .updateVerify (fun u _ => u.sec.find .writing = some b ∧ u.imageResult b = r ∧ r ≠ 0) fun u c =>
        { st := u.setSlots (u.sec.setSlot b { u.sec.slot b with st := .invalid, sigOk := false }) r
          body := leBytes 1 r ++ leBytes 3 0, audit := some (.params c.params) })
    ∧ GivesThen opUpdateCommit 0x0E05 .updateCommit (fun u c =>
        let b := (u.sec.find .written).getD false
        c.done (u.setSlots (u.sec.setSlot b { u.sec.slot b with st := .trial, trialSet := false }) 0)) (fun u _ => (u.resetState 0x100 false).loadTime.startUp false)
    ∧ (∀ b a, GivesIf opUpdateConfirm 0x0E06 .updateConfirm (fun u _ => u.sec.find .trial = some b ∧ u.sec.find .active = some a) fun u c =>
        let k := (u.sec.setState a .standby).setState b .active
        c.done (u.setSlots { k with secFloor := max k.secFloor (k.slot b).secVer } 0))
    ∧ (∀ b, GivesIf opUpdateConfirm 0x0E06 .updateConfirm (fun u _ => u.sec.find .trial = some b ∧ u.sec.find .active = none) fun u c =>
        let k := u.sec.setState b .active
        c.done (u.setSlots { k with secFloor := max k.secFloor (k.slot b).secVer } 0))

/-- FRAME_CREATE makes a frame with its attributes and members at the place its path names; FRAME_DELETE takes it off and out of other frames; FRAME_ADD and FRAME_REMOVE
change its members; FRAME_LIST answers; FRAME_ATTR sets the attributes (R37, R38, R110). Completes (its conclusion is `exec i s = .next …`): frameCreate, frameDelete,
frameAdd, frameRemove, frameList, frameAttr. -/
def Obligations.FrameCommands : Prop :=
  (∀ place, GivesIf opFrameCreate 0x0F00 .frameCreate (fun u c => u.newPlace c.lv = some place) fun u c =>
      c.done (u.withFrame place (BitVec.ofNat 8 (byteAt c.params 0)) (u.membersIn c.params)))
    ∧ (∀ f, GivesIf opFrameDelete 0x0F01 .frameDelete (fun _ c => c.target = .frame f) fun u c => c.done (u.dropFrameOf f))
    ∧ (∀ f, GivesIf opFrameAdd 0x0F02 .frameAdd (fun _ c => c.target = .frame f) fun u c =>
        c.done (u.onFrame f fun x => { x with members := sortBy (fun m => m.1) (addMembers x.members (u.membersIn c.params)) }))
    ∧ (∀ f, GivesIf opFrameRemove 0x0F03 .frameRemove (fun _ c => c.target = .frame f) fun u c =>
        c.done (u.onFrame f fun x => { x with members := x.members.filter fun m => !(u.membersIn c.params).contains m.2 }).pruneFrames)
    ∧ Gives opFrameList 0x0F04 .frameList (fun u c => { st := u, body := u.listFrame c.target c.lv (if c.jumbo then 255 else 172) })
    ∧ (∀ f, GivesIf opFrameAttr 0x0F05 .frameAttr (fun _ c => c.target = .frame f) fun u c =>
        c.done (u.onFrame f fun x => { x with attrs := BitVec.ofNat 8 (byteAt c.params 0) }))

/-! ## Events of power, resets and the supervisor -/

/-- What a reset of a running device leaves: BOOT, both latches with cause 1, the cause's bits in RESET_CAUSE, no memory, no session, no schedule and no custom frame; the
areas of nonvolatile memory, the keys and slots, the recorder's areas, the levels of the inputs and OFFSET stay, and device time goes on; the register writes that waited
for a gated clock are lost (R25, R54, R55). -/
def Obligations.ResetLeaves : Prop :=
  ∀ (s : State) (bits : Nat),
    let u := s.resetState bits false
    u.mode.mode = .boot ∧ u.mode.prev = s.mode.mode ∧ u.safety.laserLatch = true ∧ u.safety.bridgeLatch = true ∧ u.safety.laserCause = 1 ∧ u.safety.bridgeCause = 1
      ∧ u.safety.enA = s.safety.enA ∧ u.safety.enB = s.safety.enB ∧ u.safety.lockout = s.safety.lockout
      ∧ (∀ k, k < 10 → bits.testBit k = true → u.power.resetCause.getLsbD k = true) ∧ (∀ k, k < 32 → s.power.resetCause.getLsbD k = true → u.power.resetCause.getLsbD k = true)
      ∧ u.mem = [] ∧ u.ue = [] ∧ u.nv = s.nv ∧ u.front.sessions = [] ∧ u.front.sched = [] ∧ u.front.frames = [] ∧ u.front.transfers = []
      ∧ u.layers.lastGen = s.layers.lastGen ∧ u.layers.active = .none ∧ u.sec.keys = s.sec.keys ∧ u.sec.slotA = s.sec.slotA ∧ u.sec.slotB = s.sec.slotB
      ∧ u.sec.secFloor = s.sec.secFloor ∧ u.tally.firstArea = s.cutCrossing.tallyDrain.tally.firstArea ∧ u.tally.circ = s.cutCrossing.tallyDrain.tally.circ
      ∧ u.held = [] ∧ u.time.offset = s.time.offset ∧ s.now ≤ u.now

/-- Power comes up above 4.8 V and its filter ends in power-up (R52, R54); below 4.6 V both latches are set with cause 1, one emergency page is written when the hold-up
allows it, and the power is off (R63). RESET_N, the watchdog, the thermal trip and the 25 MHz reference reset the device with their bits of RESET_CAUSE; while a cause
holds, another one only adds its bit; start-up follows when the last cause ends, for the watchdog at once (R52, R54); a level of RESET_N or of the reference without power
is only remembered. A WAKE event or the alarm that was set wakes a device in SILL: its time is the Sill domain's, RESET_CAUSE gets bit 11, a manager drives WAKE_OUT, and
start-up runs (R57). Completes (its conclusion is `exec i s = .next …`): powerOn, porRelease, brownOut, pinReset, resetNRise, watchdog, thermalTrip, thermalRelease,
referenceLoss, referenceRestored, wakeEvent, wakeAlarm. -/
def Obligations.PowerAndResetEvents : Prop :=
  ((∀ vin, DoesOff (fun t => .powerOn t vin) (fun s => s.power.power = .off ∧ 4800 < vin) fun s => s.onPower fun p => { p with power := .filtering })
    ∧ DoesOff .porRelease (fun s => s.power.power = .filtering) State.powerUp
    ∧ (∀ vin, DoesOff (fun t => .brownOut t vin) (fun s => s.power.power = .filtering ∧ vin < 4600) fun s => s.onPower fun p => { p with power := .off })
    ∧ (∀ vin, Does (fun t => .brownOut t vin) isPowered
        (fun s => vin < 4600 ∧ (((s.setLatches 1).vinSeen vin).regB supplyStatus 8 = true ∨ ((s.setLatches 1).vinSeen vin).mode.mode = .sill)) fun s =>
          (((s.setLatches 1).vinSeen vin).onPower fun p => { p with power := .off, heldPin := false, heldThermal := false, heldRef := false, dipActive := false }).onMode
            fun m => { m with mode := .boot })
    ∧ (∀ vin, Does (fun t => .brownOut t vin) isPowered
        (fun s => vin < 4600 ∧ ((s.setLatches 1).vinSeen vin).regB supplyStatus 8 = false ∧ ((s.setLatches 1).vinSeen vin).mode.mode ≠ .sill
          ∧ ((s.setLatches 1).vinSeen vin).power.porAt + 24 * milli ≤ ((s.setLatches 1).vinSeen vin).now) fun s =>
          let v := (s.setLatches 1).vinSeen vin
          let w := (v.snapshot 2 rSnapSupply (v.regF supplyStatus 0 16)).tallyDrain
          let x := ({ w with tally := { w.tally with staged := [], next := w.emergencyRecs.2, lostNow := 0 } } : State).commitPage 3 w.emergencyRecs.1
          (x.onPower fun p => { p with power := .off, heldPin := false, heldThermal := false, heldRef := false, dipActive := false }).onMode fun m => { m with mode := .boot }))
  ∧ (Does .pinReset isPowered (fun s => s.power.resetNLow = false ∧ s.resetHeld = false)
      (fun s => ((s.onPower fun p => { p with resetNLow := true }).resetState 4 false).onPower fun p => { p with heldPin := true })
    ∧ Does .pinReset isPowered (fun s => s.power.resetNLow = false ∧ s.resetHeld = true)
      (fun s => s.onPower fun p => { p with resetNLow := true, resetCause := p.resetCause ||| 4, heldPin := true })
    ∧ DoesOff .pinReset (fun _ => True) (fun s => s.onPower fun p => { p with resetNLow := true })
    ∧ Does .resetNRise isPowered (fun s => s.power.heldPin = true ∧ s.power.heldThermal = false ∧ s.power.heldRef = false)
      (fun s => (s.onPower fun p => { p with resetNLow := false, heldPin := false }).loadTime.startUp false)
    ∧ Does .resetNRise isPowered (fun s => s.power.heldThermal = true ∨ s.power.heldRef = true) (fun s => s.onPower fun p => { p with resetNLow := false, heldPin := false })
    ∧ Always .watchdog isAwake (fun s => (s.resetState 8 false).loadTime.startUp false)
    ∧ Does .thermalTrip isPowered (fun s => s.resetHeld = false) (fun s => (s.resetState 0x40 false).onPower fun p => { p with heldThermal := true })
    ∧ Does .thermalTrip isPowered (fun s => s.resetHeld = true) (fun s => s.onPower fun p => { p with resetCause := p.resetCause ||| 0x40, heldThermal := true })
    ∧ Does .thermalRelease isPowered (fun s => s.power.heldPin = false ∧ s.power.heldThermal = true ∧ s.power.heldRef = false)
      (fun s => (s.onPower fun p => { p with heldThermal := false }).loadTime.startUp false)
    ∧ Does .referenceLoss isPowered (fun s => s.power.ref25 = true ∧ s.resetHeld = false)
      (fun s => ((s.onPower fun p => { p with ref25 := false }).resetState 0x80 false).onPower fun p => { p with heldRef := true })
    ∧ DoesOff .referenceLoss (fun _ => True) (fun s => s.onPower fun p => { p with ref25 := false })
    ∧ Does .referenceRestored isPowered (fun s => s.power.heldPin = false ∧ s.power.heldThermal = false ∧ s.power.heldRef = true)
      (fun s => (s.onPower fun p => { p with ref25 := true, heldRef := false }).loadTime.startUp false))
  ∧ (let wakes (s : State) : State :=
    let w := s.loadTime.resetState 0x800 true
    (if w.chain.manager = true then w.emit .wakeOut else w).startUp true
  (∀ spi, Does (fun t => .wakeEvent t spi) isPowered (fun s => s.asleep = true) wakes)
    ∧ (∀ a, Does .wakeAlarm isPowered (fun s => s.asleep = true ∧ s.power.wakeAlarm = some a) fun s => wakes (s.reach a)))

/-- A LASER_EN input that was high falls for 100 ns or more: both latches are set with cause 2, the interlock snapshot is taken and HOLD follows with cause 1 (R59, R461); a
shorter pulse does so or not as the free value decides (log entry 2); a rise restarts the input's high time; inputs that differ for 10 ms give the lockout, latch cause 3
and hold cause 2 (R60). Without power only the level changes. The supervisor's thresholds: each crossing changes its bit of SUPPLY_STATUS and reports once; the VIN
warning counts a dip and takes the supply snapshot, whose end books the dip; VMOT and VLED out of their limits fault the ports and channels in use, VMOT also sets the
bridge latch (R56, R62, R63, R75). The gate monitor reports a pin that differs from its command for 20 ns or more while the beams run or the laser-safety latch is set,
with its snapshot (R469); a corrected word in memory is recorded, and one in error is recorded, marked and acted on as its region asks (R30, R527). Completes (its
conclusion is `exec i s = .next …`): laserEnFall, laserEnRise, discrepancy, vinWarning, supplyDip, vinHigh, vmotFault, vledFault, holdupLow, tempWarning, gateMismatch,
memoryCe, memoryUe, ref32Loss, ref32Restored. -/
def Obligations.SupervisorEvents : Prop :=
  (let falls (chanB : Bool) (s : State) : State := ((((s.onSafety fun c => c.level chanB false s.now).setLatches 2).interlockSnap)).holdCause 1
  let high (chanB : Bool) (s : State) : Prop := (if chanB then s.safety.enB else s.safety.enA) = true
  (∀ chanB width, Watches (fun t => .laserEnFall t chanB width) (fun s => high chanB s ∧ 100 ≤ width) (falls chanB))
    ∧ (∀ chanB width, Watches (fun t => .laserEnFall t chanB width) (fun s => high chanB s ∧ width < 100 ∧ Config.freeNat s.draws % 2 = 1)
        fun s => falls chanB { s with draws := s.draws + 1 })
    ∧ (∀ chanB width, Watches (fun t => .laserEnFall t chanB width) (fun s => width < 100 ∧ Config.freeNat s.draws % 2 = 0) fun s => { s with draws := s.draws + 1 })
    ∧ (∀ chanB width, DoesOff (fun t => .laserEnFall t chanB width) (fun _ => True) fun s =>
        s.onSafety fun c => if chanB then { c with enB := false } else { c with enA := false })
    ∧ (∀ chanB, Watches (fun t => .laserEnRise t chanB) (fun _ => True) fun s => s.onSafety fun c => c.level chanB true s.now)
    ∧ (∀ chanB, DoesOff (fun t => .laserEnRise t chanB) (fun _ => True) fun s => s.onSafety fun c => if chanB then { c with enB := true } else { c with enA := true })
    ∧ (∀ d, Watches .discrepancy (fun s => s.safety.discSince = some d) fun s =>
        (((s.reach (d + 10 * milli)).onSafety fun c => { c with discSince := none, lockout := true, lockStage := .waitLow }).setLatches 3).interlockSnap.holdCause 2))
  ∧ ((∀ mv, Watches (fun t => .vinWarning t mv) (fun s => mv < 5600 ∧ s.regB supplyStatus 0 = false) fun s =>
      let v := (((s.onPower fun p => { p with dipActive := true, dipMin := mv, dipStart := s.now }).vinSeen mv).setB supplyStatus 0 true).setB supplyStatus 1 true
      let w := (v.count dipCount).snapshot 2 rSnapSupply (v.regF supplyStatus 0 16)
      w.supplyAlert w.power.dipMin)
    ∧ (∀ mv, Watches (fun t => .vinWarning t mv) (fun s => mv < 5600 ∧ s.regB supplyStatus 0 = true) fun s => s.vinSeen mv)
    ∧ (∀ mv, Watches (fun t => .supplyDip t mv) (fun s => s.power.dipActive = true ∧ 5800 < mv) fun s =>
        let v := (s.vinSeen mv).setB supplyStatus 0 false
        let low := v.power.dipMin
        let w := v.note 0x0082 1 0x60 [] (leBytes 2 low ++ leBytes 1 (histBin (v.tally.rings.limits.getD 3 []) low) ++ leBytes 1 0 ++ leBytes 4 (v.now - v.power.dipStart))
        (w.ringHist 3 low).onPower fun p => { p with dipActive := false })
    ∧ (∀ mv, Watches (fun t => .vinHigh t mv) (fun s => s.regB supplyStatus 2 ≠ decide (41000 < mv)) fun s =>
        (s.setB supplyStatus 2 (decide (41000 < mv))).supplyAlert (if s.power.dipActive then s.power.dipMin else mv))
    ∧ (∀ mv, Watches (fun t => .holdupLow t mv) (fun s => s.regB supplyStatus 8 ≠ decide (mv < 4800)) fun s =>
        (s.setB supplyStatus 8 (decide (mv < 4800))).supplyAlert (s.setB supplyStatus 8 (decide (mv < 4800))).vinMin)
    ∧ (∀ temp, Watches (fun t => .tempWarning t temp) (fun s => s.regB supplyStatus 7 ≠ decide (25600 ≤ signed 16 temp.toNat)) fun s =>
        (s.setB supplyStatus 7 (decide (25600 ≤ signed 16 temp.toNat))).supplyLevel)
    ∧ Watches .ref32Loss (fun s => s.regB supplyStatus 9 = false) (fun s => ((s.onPower fun p => { p with ref32 := false }).setB supplyStatus 9 true).supplyLevel)
    ∧ Watches .ref32Restored (fun s => s.regB supplyStatus 9 = true) (fun s => ((s.onPower fun p => { p with ref32 := true }).setB supplyStatus 9 false).supplyLevel)
    ∧ (∀ mv, Watches (fun t => .vmotFault t mv)
        (fun s => (s.regB supplyStatus 3 = true ∨ s.regB supplyStatus 4 = true) ∧ s.regF 0x0B000014 0 16 ≤ mv ∧ mv ≤ s.regF 0x0B000014 16 16) fun s =>
        ports8.foldl (fun st p => (st.onAxis p fun a => { a with faults := a.faults.filter (· != 0x27) }).settle (.motor p))
          (((s.setB supplyStatus 3 false).setB supplyStatus 4 false).supplyLevel))
    ∧ (∀ mv, Watches (fun t => .vmotFault t mv)
        (fun s => s.regB supplyStatus 3 = false ∧ s.regB supplyStatus 4 = false ∧ (mv < s.regF 0x0B000014 0 16 ∨ s.regF 0x0B000014 16 16 < mv)) fun s =>
        let v := ((s.setB supplyStatus 3 (decide (mv < s.regF 0x0B000014 0 16))).setB supplyStatus 4 (decide (s.regF 0x0B000014 16 16 < mv))).supplyLevel
        let w := ports8.foldl (fun st p =>
          if st.mpKind p = 0 then st
          else
            let x := (st.onAxis p fun a => { a with faults := a.faults ++ [0x27] }).unitFault (.motor p) stFault 0x27
            x.raise 0x0B02 2 0x27 [1, p] (leBytes 1 0x27 ++ leBytes 3 0 ++ x.mpPos p)) v
        if v.anyMoving = true then (w.setBridge 6).holdCause 6 else w.setBridge 6)
    ∧ (∀ mv, Watches (fun t => .vledFault t mv)
        (fun s => s.regB supplyStatus 5 = false ∧ s.regB supplyStatus 6 = false ∧ (mv < s.regF 0x0B000018 0 16 ∨ s.regF 0x0B000018 16 16 < mv)) fun s =>
        (List.finRange 16).foldl (fun st c =>
          if st.regB (0x07800004 + 0x100 * c.val) 0 = true then (st.onLed c fun l => { l with faults := l.faults ++ [0x34] }).unitFault (.led c) stFault 0x34 else st)
          (((s.setB supplyStatus 5 (decide (mv < s.regF 0x0B000018 0 16))).setB supplyStatus 6 (decide (s.regF 0x0B000018 16 16 < mv))).supplyLevel)))
  ∧ ((∀ b commanded duration, Does (fun t => .gateMismatch t b commanded duration) isUp
      (fun s => 20 ≤ duration ∧ (s.mode.mode.beamOn = true ∨ s.safety.laserLatch = true)) fun s =>
      (s.snapshot 3 rSnapGate b.val).raise 0x0D02 2 0 [0, b.val] (leBytes 1 b.val ++ leBytes 1 (bit commanded) ++ leBytes 2 0 ++ leBytes 4 duration))
    ∧ (∀ a r, memRegion a = some r → Always (fun t => .memoryCe t a) isAwake fun s => s.note 0x0080 0 0x61 [] (leBytes 1 r ++ leBytes 3 0))
    ∧ (∀ a r, memRegion a = some r → Always (fun t => .memoryUe t a) isAwake fun s =>
        (({ s with ue := if s.ue.contains (eccWord a) then s.ue else s.ue ++ [eccWord a] } : State).note 0x0081 1 0 [] (leBytes 1 r ++ leBytes 3 0 ++ leBytes 8 a)).ueAction r a))

/-! ## Events of the packet front end, of layers and of single registers -/

/-- A WRITE over SPI is the reception of the packet that it carries, malformed bytes are counted; a READ clocks out the length and the next packet, which leaves when all of
it has been clocked; STATUS answers its three bits (R78, R84); a malformed, fragmented or corrupt datagram is discarded and counted, as is a frame that the MAC discards
(R377); a session times out after its time and an alert is sent again every 200 ms, five times, and then dropped (R88, R100); a transfer times out after 10 s (R108). When
the schedule's time has come, the earliest command leaves the schedule and is checked and executed again, steps 11, 12 and 16 first; a failed one changes nothing but what
its report does (R39, R93, R94); an LED commit of the chain and, in a worker, a move of the manager (R46) take their turn by their times. Completes (its conclusion is
`exec i s = .next …`): spiWrite, spiRead, spiStatus, packetDiscard, sessionTimeout, alertRetransmit, bulkTimeout, scheduledExecute. -/
def Obligations.PacketFrontEvents : Prop :=
  ((∀ bs op p, parsePacket .spi ⟨0, 0, 0⟩ bs = some (op, p) → Does (fun t => .spiWrite t bs) isUp (fun s => s.regB 0x3000 16 = true) fun s => s.receive (opSpec op) op p)
    ∧ (∀ bs, parsePacket .spi ⟨0, 0, 0⟩ bs = none → Does (fun t => .spiWrite t bs) isUp (fun s => s.regB 0x3000 16 = true) fun s => s.count rRxMalformed)
    ∧ (∀ n, Does (fun t => .spiRead t n) isUp (fun s => s.front.spiOut = []) fun s => s.emit (.spi ((leBytes 2 0).take n)))
    ∧ (∀ n b r, Does (fun t => .spiRead t n) isUp (fun s => s.front.spiOut = b :: r ∧ 2 + b.length ≤ n) fun s =>
        (s.emit (.spi (leBytes 2 b.length ++ b))).onFront fun f => { f with spiOut := r })
    ∧ (∀ n b r, Does (fun t => .spiRead t n) isUp (fun s => s.front.spiOut = b :: r ∧ n < 2 + b.length) fun s =>
        s.emit (.spi ((leBytes 2 b.length ++ b).take n)))
    ∧ Does .spiStatus isPowered (fun s => s.mode.mode ≠ .sill) (fun s =>
        s.emit (.spi [BitVec.ofNat 8 ((if s.front.spiOut = [] then 0 else 1) + (if s.runs = true then 4 else 0))]))
    ∧ (∀ port bs f, f ≠ .badMac → Does (fun t => .packetDiscard t port bs f) isUp
        (fun s => s.takes port = true ∧ s.fits port bs.length = true ∧ port ≠ .rafter ∧ ((f = .badUdp ∧ port ≠ .spi) ∨ parsePacket port ⟨0, 0, 0⟩ bs = none)) fun s =>
        (s.frameAt port).count rRxMalformed)
    ∧ (∀ port bs f, Does (fun t => .packetDiscard t port bs f) isUp
        (fun s => s.takes port = true ∧ (f = .badMac ∨ s.fits port bs.length = false)) fun s => s.frameLost port)
    ∧ (∀ k se, Does (fun t => .sessionTimeout t k) isUp (fun s => s.front.sessions.find? (fun x => x.slot == k) = some se) fun s =>
        (s.reach (se.lastAt + se.timeout * second)).closeSession se.id)
    ∧ (∀ k q se a, Does (fun t => .alertRetransmit t k q) isUp
        (fun s => s.front.sessions.find? (fun x => x.slot == k) = some se ∧ se.alerts.find? (fun a => a.seq == q.toNat) = some a ∧ a.resent < 5) fun s =>
        let v := s.reach (a.sentAt + 200 * milli)
        let b : Alert := { a with resent := a.resent + 1, sentAt := v.now }
        (v.setSession { se with alerts := se.alerts.map fun x => if x.seq = a.seq then b else x }).sendAlert se b)
    ∧ (∀ k q se a, Does (fun t => .alertRetransmit t k q) isUp
        (fun s => s.front.sessions.find? (fun x => x.slot == k) = some se ∧ se.alerts.find? (fun a => a.seq == q.toNat) = some a ∧ 5 ≤ a.resent) fun s =>
        (((s.reach (a.sentAt + 200 * milli)).setSession { se with alerts := se.alerts.filter fun x => x.seq != a.seq, lostNow := se.lostNow + 1 }).count rAlertsLost).alertLost k)
    ∧ (∀ id x, Does (fun t => .bulkTimeout t id) isUp (fun s => s.transfer id.toNat = some x) fun s =>
        ((s.reach (x.lastAt + 10 * second)).onFront fun f => { f with transfers := f.transfers.erase x }).raise 0x0200 1 0 [] (leBytes 2 x.id ++ leBytes 2 1)))
  ∧ (let led (s : State) : Option (Nat × Nat) := (sortBy (fun (c : Nat × Nat) => c.1) s.lights.commits).head?
  ((∀ e, Does .scheduledExecute isUp
        (fun s => s.schedule.head? = some e ∧ (∀ c, led s = some c → e.due ≤ c.1) ∧ ∀ m ∈ s.front.moves, e.due ≤ m.1) fun s => s.runSched opSpec e)
      ∧ (∀ c, Does .scheduledExecute isUp
        (fun s => led s = some c ∧ (∀ e, s.schedule.head? = some e → c.1 < e.due) ∧ ∀ m ∈ s.front.moves, c.1 ≤ m.1) fun s =>
          ((s.onLights fun l => { l with commits := l.commits.erase c }).reach c.1).ledCommit c.2)
      ∧ (∀ m, Does .scheduledExecute isUp
        (fun s => (sortBy (fun (m : Nat × Nat) => m.1) s.front.moves).head? = some m ∧ (∀ e, s.schedule.head? = some e → m.1 < e.due) ∧ ∀ c, led s = some c → m.1 < c.1)
          fun s => s.runMove m))
    ∧ (∀ (s : State) (e : Sched) (o : OpSpec), opSpec e.opcode = some o → e.opcode ≠ 0x0010 →
        let u := (s.onFront fun f => { f with sched := f.sched.erase e }).reach e.due
        let v := u.clocked e.opcode
        let c : Ctx := { op := e.opcode, p := e.packet, secure := e.secure, client := e.client, se := u.session e.packet.session, target := .root, lv := [], due := none, later := true }
        (∀ k, (v.mode.mode = .update → v.updateAccepts e.opcode e.packet.params = true) → o.mode v c v.mode.mode = some k →
          s.runSched opSpec e = v.execResult e.packet.session e.packet.sequence (levelsOf e.packet.path) .wrongMode (v.now - e.due))))

/-- EXPOSE ends in PAUSE when every engine stands after a pause has begun, or in the layer's end when the layer is complete (R50, R181): HOLD with UNCOVERED_BEAM when a beam
was not covered, else the mode that the package names; the package check gives VALID or INVALID with its first failure (R162), 0x02 for a package that closed transfers
did not write whole (log entry 93), and the errors that reading the package meets are detected (R527). Completes (its conclusion is `exec i s = .next …`): pauseReached,
layerEndMove, layerChecked. -/
def Obligations.LayerEvents : Prop :=
  let base (s : State) : Nat := halfBase (!s.layers.halfB)
  let failed (f : CheckFail) (s : State) : State :=
    let v := s.onLayers fun l => { l with inactive := .invalid, inactPkg := none }
    (((v.setReg 0x2014 (BitVec.ofNat 32 (f.code + 256 * f.beam + 65536 * f.stick))).setReg 0x2018 (BitVec.ofNat 32 f.index)).raise 0x0300 (if f.code = 0 then 0 else 1) 0 []
      (leBytes 1 f.code ++ leBytes 1 f.beam ++ leBytes 2 f.stick ++ leBytes 4 f.index)).memMet (s.ueIn (base s) (s.readPkg (base s)).length)
  Does .pauseReached isUp (fun s => s.mode.transition = some .pause ∧ s.enginesStill = true ∧ ¬ (s.chain.manager = true ∧ s.chainDone = true)) (fun s => s.enterMode .pause 0)
    ∧ Does .pauseReached isUp (fun s => s.mode.transition = some .pause ∧ s.enginesStill = true ∧ s.chain.manager = true ∧ s.chainDone = true) State.layerEndMove
    ∧ Does .layerEndMove isUp (fun s => s.chain.manager = true ∧ s.mode.mode = .expose ∧ s.chainDone = true ∧ s.chainUncovered = true) (fun s => s.holdCause 3)
    ∧ (∀ p, Does .layerEndMove isUp (fun s => s.chain.manager = true ∧ s.mode.mode = .expose ∧ s.chainDone = true ∧ s.chainUncovered = false ∧ s.layers.activePkg = some p)
        fun s => s.enterMode (if p.nextIdle = true then .idle else .recoat) 0)
    ∧ Does .layerChecked isUp (fun s => s.layers.inactive = .checking ∧ s.halfCovers (s.readPkg (base s)).length = true ∧ s.headCheck (base s) (s.readPkg (base s)) = none
          ∧ s.bodyCheck (base s) (s.readPkg (base s)) = none) (fun s =>
        let v := s.onLayers fun l => { l with inactive := .valid, inactPkg := some (s.pkgFacts (base s) (s.readPkg (base s))) }
        (((v.setReg 0x2014 (BitVec.ofNat 32 ((failAt 0).code + 256 * (failAt 0).beam + 65536 * (failAt 0).stick))).setReg 0x2018 (BitVec.ofNat 32 (failAt 0).index)).raise 0x0300 0 0 []
          (leBytes 1 (failAt 0).code ++ leBytes 1 (failAt 0).beam ++ leBytes 2 (failAt 0).stick ++ leBytes 4 (failAt 0).index)).memMet (s.ueIn (base s) (s.readPkg (base s)).length))
    ∧ (∀ f, Does .layerChecked isUp (fun s => s.layers.inactive = .checking ∧ s.halfCovers (s.readPkg (base s)).length = true ∧ s.headCheck (base s) (s.readPkg (base s)) = some f)
        (failed f))
    ∧ (∀ f, Does .layerChecked isUp (fun s => s.layers.inactive = .checking ∧ s.halfCovers (s.readPkg (base s)).length = true ∧ s.headCheck (base s) (s.readPkg (base s)) = none
          ∧ s.bodyCheck (base s) (s.readPkg (base s)) = some f) (failed f))
    ∧ Does .layerChecked isUp (fun s => s.layers.inactive = .checking ∧ s.halfCovers (s.readPkg (base s)).length = false) (failed (failAt 2))

/-- Single register accesses: reading REFUSE_CAUSE clears it, reading VIN_MIN restarts it and reading DEV_TIME_ERA latches DEV_TIME_NS (R70, R75, R400); writing 1 to
ACK_PENDING acknowledges the unit's fault (R42); a write of MT_CONFIG, TRACE_CTRL or a Grain window register that the checks of R84 let pass is made (R138, R245, R274),
one that step 10 refuses is recorded as DENIED and counted (R481), and one that a later step refuses changes nothing. A write made is audited (R105): the event names no
packet, so its port, session, client and sequence, and in the denial port and session, are free values (log entry 33). Completes (its conclusion is `exec i s = .next …`):
ackPendingWrite, refuseCauseRead, vinMinRead, devTimeEraRead, mtConfigEnableWrite, traceArm, grainWindowWrite. -/
def Obligations.RegisterEvents : Prop :=
  let audited (secure : Bool) (d : List (Nat × Word × Word)) (s : State) : State :=
    let f (i : Nat) : Nat := Config.freeNat (s.draws + i)
    ({ s with draws := s.draws + 4 } : State).audit (f 0 % 4) secure false false (BitVec.ofNat 32 (f 1)) (BitVec.ofNat 32 (f 2)) (BitVec.ofNat 32 (f 3)) 0x0101 (s.fullPath [])
      (.regs d)
  let acked (u : Leaf) (v s : State) : State :=
    audited (Config.freeNat v.draws % 2 == 1) [(statusReg u, regView s (statusReg u), regView v (statusReg u))] { v with draws := v.draws + 1 }
  let writes (i : Nat → Instr) (secure : Bool) (w : RegWr) : Prop :=
    Does i isUp (fun s => s.writesDenied secure [w] = false ∧ s.writesMode [w] = false ∧ s.writesBad [w] = none ∧ s.writesBusy [w] = false)
        (fun s => audited secure (s.doWrites [w]).2 (s.doWrites [w]).1)
      ∧ Does i isUp (fun s => s.writesDenied secure [w] = true) (fun s =>
        (({ s with draws := s.draws + 2 } : State).count rRxDenied).note 0x0084 1 0 []
          (leBytes 2 0x0101 ++ leBytes 1 (Config.freeNat s.draws % 4) ++ leBytes 1 0 ++ leBytes 4 (Config.freeNat (s.draws + 1)) ++ leBytes 8 w.addr))
  let refused (i : Nat → Instr) (secure : Bool) (w : RegWr) : Prop :=
    Does i isUp (fun s => s.writesDenied secure [w] = false ∧ (s.writesMode [w] = true ∨ (s.writesBad [w]).isSome = true ∨ s.writesBusy [w] = true)) (fun s => s)
  (∀ p, Always (fun t => .ackPendingWrite t (.motor p)) isUp fun s => acked (.motor p) (s.ackMotor p) s)
    ∧ (∀ u, (∀ p, u ≠ .motor p) → Always (fun t => .ackPendingWrite t u) isUp fun s => acked u ((s.setB (statusReg u) 4 false).settle u) s)
    ∧ Always .refuseCauseRead isUp (fun s => s.onMode fun m => { m with refuseCause := 0 })
    ∧ Always .vinMinRead isUp (fun s => s.setF 0x0B000008 0 16 0xFFFF)
    ∧ Always .devTimeEraRead isUp (fun s => s.setReg 0x08801054 (BitVec.ofNat 32 (s.now % 4294967296)))
    ∧ (∀ b secure enable, writes (fun t => .mtConfigEnableWrite t b secure enable) secure { addr := mtConfig b, val := word (bit enable), mask := 1, causeA := 0, causeV := 0 }
        ∧ refused (fun t => .mtConfigEnableWrite t b secure enable) secure { addr := mtConfig b, val := word (bit enable), mask := 1, causeA := 0, causeV := 0 })
    ∧ (∀ b secure profile, writes (fun t => .traceArm t b secure profile) secure
        { addr := beamReg b 0x5030, val := word (1 + 2 * profile.val), mask := allBits, causeA := 0, causeV := 0 })
    ∧ (∀ secure a v, grainWindowReg a = true → writes (fun t => .grainWindowWrite t secure a v) secure { addr := a, val := v, mask := allBits, causeA := 0, causeV := 0 }
        ∧ refused (fun t => .grainWindowWrite t secure a v) secure { addr := a, val := v, mask := allBits, causeA := 0, causeV := 0 })

/-! ## Events of the beams -/

/-- A jog ends when its target holds (R141); lock follows eight good frames, stores the tap and ends a link failure, and 1 ms without lock fails the beam (R119, R120); a
frame that fails its CRC or comes out of turn is counted, and 16 in a row or a bad rate fail the beam (R117, R122); axes out of tracking, ALM and RDY inactive past its
grace fail an enabled beam, and the end of a cause clears it (R123, R130, R138). Raster sync: an edge of a facet in its place moves the facet on, and the measured
periods, the stamp and the registers follow (R136); 64 good edges lock, 4 bad ones or a misplaced facet lose it: the planned raster lines are withdrawn, the gate goes low
and the loss is reported, and a loss that lasts past its limit while lines remain fails the beam (R137); a FIFO refill takes the next records into the engine that holds
fewer than 2,048 (R167). Completes (its conclusion is `exec i s = .next …`): jogDone, returnFrame, returnLinkLock, lockTimeout, attachmentCheck, linkEscalation,
scannerTracking, almActive, rdyInactive, rdyGraceEnd, facetEdge, rasterLock, rasterSyncLoss, rasterLossLimit, fifoRefill, almInactive, rdyActive. -/
def Obligations.BeamPortEvents : Prop :=
  ((∀ b x y z n, Does (fun t => .jogDone t b) beamsOn (fun s => (s.chan b).jog = some (x, y, z, n) ∧ (s.chan b).hold = (x, y, z)) fun s =>
      (s.onChan b fun c => { c with jog := none }).raise 0x0401 0 0 [0, b]
        (leBytes 4 (s.reg (actReg b 0)).toNat ++ leBytes 4 (s.reg (actReg b 1)).toNat ++ leBytes 4 (s.reg (actReg b 2)).toNat))
    ∧ (∀ b frame, Does (fun t => .returnFrame t b frame) isUp
        (fun s => (s.chan b).running = true ∧ ((returnFields frame).1 = false ∨ (returnFields frame).2.2.2.1 ≠ (s.chan b).selNext ∧ (s.chan b).selNext ≠ 4)) fun s =>
        let want := (s.chan b).selNext
        (s.count (beamReg b 0x1020)).onChan b fun c => { c with
          goodRun := 0, badRun := c.badRun + 1, nackRun := 0
          selNext := if (returnFields frame).1 = true then ((returnFields frame).2.2.2.1 + 1) % 4 else if want = 4 then 4 else (want + 1) % 4
          invalids := s.now :: c.invalids.filter fun t => decide (s.now < t + nackWindow) })
    ∧ (∀ b frame, Does (fun t => .returnFrame t b frame) isUp
        (fun s => (s.chan b).running = true ∧ (returnFields frame).1 = true ∧ ((s.chan b).selNext = (returnFields frame).2.2.2.1 ∨ (s.chan b).selNext = 4)) fun s =>
        let r := returnFields frame
        let v := (s.setF (mtStatus b) 16 4 r.2.2.1).onChan b fun c => { c with
          goodRun := c.goodRun + 1, badRun := 0, selNext := (r.2.2.2.1 + 1) % 4, nackRun := if r.2.1 = true then c.nackRun else 0 }
        let w := if r.2.1 = true then v.nackSeen b else v
        if r.2.2.2.1 = 3 then w.servoStatus b r.2.2.2.2 else w.actualSeen b r.2.2.2.1 (signed 24 r.2.2.2.2))
    ∧ (∀ b tap, Does (fun t => .returnLinkLock t b tap) isUp (fun s => (s.chan b).running = true ∧ s.rxLock b = false ∧ 8 ≤ (s.chan b).goodRun) fun s =>
        ((((s.setB (mtStatus b) 0 true).setF (mtStatus b) 8 6 tap.toNat).onChan b fun c => { c with
          lockedAt := s.now, haveSet := 0, startAt := none, linkSeen := true, trackX := 0, trackY := 0, trackZ := 0 }).causeEnds b .scannerLink).checkAttach b)
    ∧ (∀ b at_, Does (fun t => .lockTimeout t b) beamsOn (fun s => (s.chan b).startAt = some at_ ∧ s.rxLock b = false) fun s =>
        ((s.reach (at_ + milli)).onChan b fun c => { c with startAt := none }).beamFail b .scannerLink)
    ∧ (∀ b locked rdy alm, Does (fun t => .attachmentCheck t b locked rdy alm) isUp
        (fun s => s.beamEnabled b = true ∧ s.unitState (.beam b) = stAbsent ∧ s.beamClock.beamEnabled b = true ∧ s.beamClock.unitState (.beam b) = stAbsent) fun s =>
        let v := if s.beamClock.mode.mode.beamOn = true then s.beamClock else (s.beamClock.portStart b none).portStop b
        let w := (((v.setB (tnStatus b) 0 rdy).setB (tnStatus b) 1 alm).onChan b fun c => { c with linkSeen := c.linkSeen || locked, rdySeen := c.rdySeen || rdy }).checkAttach b
        if alm = true then w.beamFail b .laserAlarm else w)
    ∧ (∀ b, Does (fun t => .linkEscalation t b) beamsOn (fun s => s.linkBad b = true ∧ (s.chan b).running = true) fun s => s.beamFail b .scannerLink)
    ∧ (∀ b, Does (fun t => .scannerTracking t b) beamsOn
        (fun s => s.posActive b = true ∧ s.regF (beamReg b 0x1004) 24 8 ≠ 0 ∧ s.regF (beamReg b 0x1004) 24 8 ≤ max (s.chan b).trackX (max (s.chan b).trackY (s.chan b).trackZ))
        fun s => s.beamFail b .scannerTracking)
    ∧ (∀ b, Does (fun t => .almActive t b) isUp (fun s => (s.setB (tnStatus b) 1 true).beamEnabled b = true) fun s => (s.setB (tnStatus b) 1 true).beamFail b .laserAlarm)
    ∧ (∀ b, Does (fun t => .almActive t b) isUp (fun s => (s.setB (tnStatus b) 1 true).beamEnabled b = false) fun s => s.setB (tnStatus b) 1 true)
    ∧ (∀ b, Always (fun t => .almInactive t b) isUp fun s => (s.setB (tnStatus b) 1 false).causeEnds b .laserAlarm)
    ∧ (∀ b, Does (fun t => .rdyInactive t b) isUp (fun s => (s.setB (tnStatus b) 0 false).rdyFails b = true) fun s => (s.setB (tnStatus b) 0 false).beamFail b .laserNotReady)
    ∧ (∀ b, Does (fun t => .rdyInactive t b) isUp (fun s => (s.setB (tnStatus b) 0 false).rdyFails b = false) fun s => s.setB (tnStatus b) 0 false)
    ∧ (∀ b, Always (fun t => .rdyActive t b) isUp fun s =>
        (((s.setB (tnStatus b) 0 true).onChan b fun c => { c with rdySeen := true }).causeEnds b .laserNotReady).checkAttach b)
    ∧ (∀ b, Does (fun t => .rdyGraceEnd t b) beamsOn (fun s => (s.reach (s.graceEnd b)).rdyFails b = true ∧ FailCause.laserNotReady ∉ (s.chan b).fails) fun s =>
        (s.reach (s.graceEnd b)).beamFail b .laserNotReady))
  ∧ ((∀ b stamp r, ∀ (t : Nat) (s : State), drivesOn s → s.raster b = some r → s.isRaster b = true → r.lastStamp < stamp →
      ∃ u r', exec (.facetEdge t b stamp) s = .next u ∧ u.raster b = some r' ∧ r'.lastStamp = stamp ∧ r'.facet < max 2 (s.regF (beamReg b 0x6000) 8 6) ∧ r'.locked = r.locked
        ∧ u.kerfs = s.kerfs ∧ u.chans = s.chans ∧ u.mode = s.mode ∧ u.safety = s.safety ∧ u.mem = s.mem
        ∧ regsStand s u [beamReg b 0x600C, beamReg b 0x6010] ∧ (∀ b' : Fin 48, b' ≠ b → u.raster b' = s.raster b'))
    ∧ (∀ b stamp r, Does (fun t => .facetEdge t b stamp) drivesOn (fun s => s.raster b = some r ∧ s.isRaster b = true ∧ r.lastStamp < stamp ∧ r.periods.length = 32
          ∧ 2 * (stamp - r.lastStamp) ≤ 3 * avgPeriod ((r.periods.map avgPeriod).filter (· ≠ 0)) ∧ r.facet + 1 < max 2 (s.regF (beamReg b 0x6000) 8 6)
          ∧ avgPeriod (r.periods.getD (r.facet + 1) []) = stamp - r.lastStamp) fun s =>
        let ps := updAt r.periods (r.facet + 1) fun l => ((stamp - r.lastStamp) :: l).take 8
        let v := (s.setReg (beamReg b 0x6010) (BitVec.ofNat 32 (avgPeriod ((ps.map avgPeriod).filter (· ≠ 0)) / cyc % 2 ^ 24))).setF (beamReg b 0x600C) 8 6 (r.facet + 1)
        (v.onRaster b fun x => { x with facet := r.facet + 1, lastStamp := stamp, periods := ps, goodRun := x.goodRun + 1, badRun := 0, misplaced := false }).rasterBits b)
    ∧ (∀ b r, Does (fun t => .rasterLock t b) drivesOn (fun s => s.raster b = some r ∧ s.isRaster b = true ∧ r.locked = false ∧ 64 ≤ r.goodRun ∧ r.lostAt = none) fun s =>
        ((s.onRaster b fun r => { r with locked := true, badRun := 0, lostAt := none, waitZero := false }).rasterBits b).causeEnds b .rasterSync)
    ∧ (∀ b r, Does (fun t => .rasterLock t b) drivesOn (fun s => s.raster b = some r ∧ s.isRaster b = true ∧ r.locked = false ∧ 64 ≤ r.goodRun ∧ r.lostAt ≠ none) fun s =>
        (((s.onRaster b fun r => { r with locked := true, badRun := 0, lostAt := none, waitZero := true }).rasterBits b).rasterAlert b true).causeEnds b .rasterSync)
    ∧ (∀ b r, Does (fun t => .rasterSyncLoss t b) drivesOn (fun s => s.raster b = some r ∧ s.isRaster b = true ∧ r.locked = true ∧ (4 ≤ r.badRun ∨ r.misplaced = true)) fun s =>
        let v := ((s.onRaster b fun r => { r with locked := false, goodRun := 0, lostAt := some s.now }).rasterBits b)
        let keep (rel : Rel) : Bool := rel.record.ty != tyRaster || decide (rel.begins ≤ v.now)
        let w := v.withdraw b keep
        let x := match ((v.kerf b).rels.dropWhile keep).head? with
          | some rel => if rel.start ≤ w.commitPoint then w.onKerf b fun k => { k with coast := k.coast ++ rel.segs, pos := rel.endPt, raw := rel.rawEnd } else w
          | none => w
        let lines := ((x.kerf b).rels.filter fun rel => rel.record.ty == tyRaster).map (·.place)
        ((x.onKerf b fun k => { k with
          planned := k.planned.filter fun g => !lines.contains g.place, gates := k.gates.filter fun g => !lines.contains g.place }).gateLow b).rasterAlert b false)
    ∧ (∀ b lost, Does (fun t => .rasterLossLimit t b) beamsOn (fun s => (s.raster b).bind (·.lostAt) = some lost ∧ s.isRaster b = true ∧ s.mode.mode.isLaser = true
          ∧ (s.reach (lost + s.regF (beamReg b 0x6004) 24 8 * milli)).rasterLeft b = true) fun s =>
        (s.reach (lost + s.regF (beamReg b 0x6004) 24 8 * milli)).beamFail b .rasterSync)
    ∧ (∀ b count, Does (fun t => .fifoRefill t b count) isUp (fun s => (s.kerf b).engine.runs = true ∧ (s.kerf b).fifo.length + (s.kerf b).queue.length < 2048) fun s => (s.fill b count).memMet (s.fillErrors b count)))

/-- R41 whole: the schedule is the kept commands by execute-at time, those of equal time in the order in which they were accepted; when the earliest is due, one step takes it
alone and carries out all of it, its whole fan-out with it, before anything else happens, and the others stay in their order. Completes (its conclusion is `exec i s =
.next …`): scheduledExecute. -/
def Obligations.ScheduleOrder : Prop :=
  (∀ s : State, s.schedule.Perm s.front.sched ∧ (s.schedule.Pairwise fun a b => a.due ≤ b.due)
      ∧ ∀ d, (s.schedule.filter fun e => e.due == d) = s.front.sched.filter fun e => e.due == d)
    ∧ (∀ (s : State) (e : Sched) (r : List Sched), s.schedule = e :: r → (s.onFront fun f => { f with sched := f.sched.erase e }).schedule = r)
    ∧ (∀ e, Does .scheduledExecute isUp (fun s => s.schedule.head? = some e ∧ s.lights.commits = [] ∧ s.front.moves = []) fun s => s.runSched opSpec e)

/-! ## Events of exposure and of the chain's overlap -/

/-- A record completes: the oldest released record of the engine leaves at its completion time, is counted, and marks the resume point when it is of the main stream, its
stick's progress or the end of the preheat stream, and may end the layer; of a failed beam only what had completed by the failure does, whose pieces are on record since
the failure (R132, R177, R181, R182); a scanner tick advances every beam that is on and sends each channel's frame (R114); a round takes its steps in the order of R194;
waits longer than TR_LONG and a stale blower are reported once (R200, R207). Completes (its conclusion is `exec i s = .next …`): recordComplete, trussRound, waitLong,
gasStale, scannerTick. -/
def Obligations.ExposureEvents : Prop :=
  let closed (s u : State) : State := if s.layers.active.ended = false ∧ u.layers.active.ended = true then u.layerEnded else u
  let gone (b : Fin 48) (r : Rel) (rest : List Rel) (s : State) : State :=
    let v := ((s.reach r.complete).commitStick b).onKerf b fun k =>
      { k with rels := rest, coast := k.coast ++ r.segs, past := if (s.kerf b).failed = false then k.past ++ r.pieces else k.past }
    let w := if r.clamped = 0 then v else v.count (kfClamped b) r.clamped
    ((w.pruneQueries b r.place).count (kfRecords b)).plumbBoundary b
  let drawn (b : Fin 48) (r : Rel) (s u : State) : State := if (s.kerf b).failed = false then u.footprintAdd r.pieces else u
  let tagged (b : Fin 48) (r : Rel) (i : Nat) (s : State) : State := if r.record.ty = tyMarker ∧ r.record.sub = 1 then s.tagReached b r.record i else s
  let due (b : Fin 48) (r : Rel) (rest : List Rel) (s : State) : Prop :=
    (s.kerf b).rels = r :: rest ∧ ((s.kerf b).failed = true → r.complete / cyc ≤ (s.kerf b).failAt / cyc)
  let opened (s : State) : State :=
    let v := (beams.filter fun b => (s.gasUpdate.kerf b).notice).foldl (fun st b => st.takeFailure b (roundStart s.now + s.leadNs) (roundLabel s.now)) s.gasUpdate
    (beams.foldl (fun st b => st.commitStick b) v.pruneImports).settleRevocations
  (∀ b r rest i, Does (fun t => .recordComplete t b) beamsOn (fun s => due b r rest s ∧ r.place = .main i) fun s =>
        let v := (tagged b r i (drawn b r s (gone b r rest s))).setReg (kfLastDone b) (BitVec.ofNat 32 i)
        let w := (v.onResume fun q => { q with index := updAt q.index b.val fun _ => BitVec.ofNat 32 i }).onKerf b fun k => { k with failIndex := BitVec.ofNat 32 i }
        closed s w.completeLayer.preheatDone)
    ∧ (∀ b r rest i, Does (fun t => .recordComplete t b) beamsOn (fun s => due b r rest s ∧ r.place = .pre i ∧ ¬ (r.record.ty = tyMarker ∧ r.record.sub = 3)) fun s =>
        closed s (tagged b r i (gone b r rest s)).completeLayer.preheatDone)
    ∧ (∀ b r rest i, Does (fun t => .recordComplete t b) beamsOn (fun s => due b r rest s ∧ r.place = .pre i ∧ r.record.ty = tyMarker ∧ r.record.sub = 3) fun s =>
        closed s (((gone b r rest s).onKerf b fun k => { k with preDone := true, engine := if k.preheat then .done else k.engine }).completeLayer.preheatDone))
    ∧ (∀ b r rest n i, Does (fun t => .recordComplete t b) beamsOn (fun s => due b r rest s ∧ r.place = .stick n i) fun s =>
        let v := (tagged b r i (drawn b r s (gone b r rest s))).onKerf b fun k => { k with stickDone := i + 1 }
        let w := if i + 1 = (v.layers.stick n).count then
            ((v.onStick n fun t => { t with state := .done }).markStick n).onKerf b fun k => { k with stick := none, stickDone := 0, queue := [], wantStick := true }
          else v
        closed s w.completeLayer.preheatDone)
    ∧ Always .scannerTick isUp (fun s =>
        let n := s.now / tickNs
        beams.foldl (fun st b =>
          if st.mode.mode.beamOn = true then
            let v := ((st.starveCheck b).commitTick b (st.commitPoint / tickNs)).mortiseTick b n
            (((if n % 2 = 0 then v.tenonFrame b else v).gateTick b).deposit b (n - 1)).prunePlan b
          else st.mortiseTick b n) s)
    ∧ Does .trussRound isUp (fun s => ¬ (((opened s).mode.mode = .expose ∨ (opened s).mode.mode = .preheat) ∧ (opened s).mode.transition = none)) (fun s =>
        closed s ((if (opened s).mode.mode = .expose then beams.foldl (fun st b => st.drained b) (opened s) else opened s).heartbeat (roundLabel s.now)).completeLayer)
    ∧ Does .trussRound isUp (fun s => ((opened s).mode.mode = .expose ∨ (opened s).mode.mode = .preheat) ∧ (opened s).mode.transition = none) (fun s =>
        let c := roundStart s.now + s.leadNs
        let v := ((opened s).roundOrder c).foldl (fun st b => State.releaseLoop (st.fetched b) st b c (roundLabel s.now) false) (opened s)
        let w := if v.mode.mode = .expose then (cyclic v.truss.token).foldl (fun st b => st.stickRequest b c (roundLabel s.now)) v else v
        closed s ((w.moveToken c (roundLabel s.now)).heartbeat (roundLabel s.now)).completeLayer.preheatDone)
    ∧ (∀ b since, Does (fun t => .waitLong t b) isUp (fun s => (s.kerf b).waitSince = some since ∧ (s.kerf b).waitSent = false) fun s =>
        let v := s.reach (since + s.regF 0x04000000 16 8 * milli)
        (v.onKerf b fun k => { k with waitSent := true }).raise 0x0502 1 0 [0, b]
          (leBytes 1 b ++ leBytes 1 (((s.kerf b).lastRule.map Rule.code).getD 0) ++ leBytes 1 (s.kerf b).blocker ++ leBytes 1 0
            ++ leBytes 4 (min ((v.now - since) / micro) 0xFFFFFFFF)))
    ∧ (∀ v at_, Does .gasStale isUp (fun s => s.headBlower = some (v, at_) ∧ s.gasSource = 2 ∧ s.truss.gasSent ≠ some at_) fun s =>
        let w : State := { s.reach (at_ + 100 * milli) with truss := { s.truss with gasSent := some at_ } }
        w.raise 0x0505 1 0 [] (leBytes 1 w.gasLane ++ leBytes 3 0 ++ leBytes 4 (min ((w.now - at_) / milli) 0xFFFFFFFF)))

/-- Messages of Truss from a neighbour: one whose CRC fits updates the import memory: a RELEASE or CLAIM is taken, WITHDRAW and UNCLAIM drop what they name, HEARTBEAT changes
nothing; one whose number does not follow the last one starts a resynchronisation first; a stale memory that waits for none, or hears the last message of one, becomes
fresh; one that did not come whole, whose CRC fails or of which a stripe is lost is counted and discarded; 5 us without a message make the memory stale; TRUSS_RESYNC is
answered with all that is live (R210-R212, R341, R362). Completes (its conclusion is `exec i s = .next …`): release, withdraw, claim, unclaim, heartbeat, importStale,
trussResync. -/
def Obligations.TrussMessages : Prop :=
  let comes (p : RPort) (type : Nat) (m : Msg) (s : State) : Prop := msgGood type m = true ∧ ¬ ((s.rport p).port = .up ∧ m.parity ≠ 0)
  let fits (port : RPort) (kind : Nat) (m : Msg) (s : State) : Prop :=
    s.crossEn = true ∧ (s.rport port).carries = true ∧ comes port 0x10 m s ∧ m.payload.length = 40 ∧ byteAt m.payload 0 = kind
  let gap (port : RPort) (m : Msg) (s : State) : Prop := ∃ q, (s.rport port).trussSeq = some q ∧ m.seq ≠ q + 1
  let seen (port : RPort) (m : Msg) (s : State) : State := s.onRport port fun r => { r with trussSeq := some m.seq, lastMsg := s.now }
  let fresh (port : RPort) (ends : Bool) (s : State) : State :=
    if (s.rport port).stale = true ∧ ((s.rport port).resync = false ∨ ends = true) then s.goFresh port else s
  let takes (i : Nat → RPort → Msg → Instr) (kind : Nat) (f : RPort → Msg → State → State) : Prop :=
    (∀ port m, Does (fun t => i t port m) isUp (fun s => fits port kind m s ∧ ¬ gap port m s) fun s => fresh port (m.flags.getLsbD 1) (f port m (seen port m s)))
      ∧ (∀ port m, Does (fun t => i t port m) isUp (fun s => fits port kind m s ∧ gap port m s) fun s => fresh port false (f port m ((seen port m s).startResync port)))
      ∧ (∀ port m, Does (fun t => i t port m) isUp (fun s => s.crossEn = true ∧ (s.rport port).carries = true ∧ ¬ comes port 0x10 m s) fun s =>
          (s.parityErrs port m).count (rpReg port 0x28))
  takes .release 1 (fun port m s => s.takeImport port (s.importOf m.payload false))
    ∧ takes .withdraw 2 (fun port m s => s.dropImports port m.payload false)
    ∧ takes .claim 3 (fun port m s => s.takeImport port (s.importOf m.payload true))
    ∧ takes .unclaim 4 (fun port m s => s.dropImports port m.payload true)
    ∧ takes .heartbeat 5 (fun _ _ s => s)
    ∧ (∀ port, Does (fun t => .importStale t port) isUp (fun s => s.crossEn = true ∧ (s.rport port).stale = false) fun s =>
        (((s.reach ((s.rport port).lastMsg + 5 * micro)).onRport port fun r => { r with stale := true })).crossStale port false)
    ∧ (∀ port m, Does (fun t => .trussResync t port m) isUp (fun s => (s.rport port).carries = true ∧ comes port 0x11 m s ∧ s.liveExports port = []) fun s =>
        s.sendRafter port 0x10 0xFF 2 (trussMsg 5 s.chain.index 0xFF 0 (roundLabel s.now % eraLen) 0 0 0 0 0 0 0))
    ∧ (∀ port m, Does (fun t => .trussResync t port m) isUp (fun s => (s.rport port).carries = true ∧ comes port 0x11 m s ∧ s.liveExports port ≠ []) fun s =>
        let l := s.liveExports port
        l.zipIdx.foldl (fun st x => st.sendPiece port x.1.1 x.1.2.1 x.1.2.2.1 (if x.2 + 1 = l.length then 2 else 0) x.1.2.2.2) s)

/-! ## Events of Plumb, the Grain map, Scribe and Veneer -/

/-- A feature window of twenty samples is evaluated with the feed-forward scale of its end, and its samples are a mark scan's where one runs (R224, R290); a camera that is
late is lost for the beams that use it (R241); excursions end after their windows outside, and a trace of 128 entries ends its tuning (R239, R245); deposits that are due
merge into the map in the order of their time and cell; the next tile of the beam's path is fetched into its cache in the beam's turn, where the least recently queried
tile off the path makes room; a query sums the nine cells of its kernel over the four planes; a roll starts once its deposits are in and takes its time at its end (R262,
R265, R266, R269). What these accesses meet of words in error is detected first (R527). Completes (its conclusion is `exec i s = .next …`): featureWindow, cameraTimeout,
excursionClose, traceDone, depositMerge, tilePrefetch, grainQuery, grainRoll, rollEnd. -/
def Obligations.SensingEvents : Prop :=
  (∀ b smp, smp.length = 20 → Always (fun t => .featureWindow t b smp) beamsOn fun s => (s.window b smp (s.gControl b (s.lastSample s.now + 800))).scanSamples b (s.lastSample s.now) smp)
    ∧ (∀ b, Does (fun t => .cameraTimeout t b) isUp
        (fun s => (s.plumb b).cam.period ≠ 0 ∧ (s.reach (s.cameraSince b + s.regF (beamReg b 0x3100) 8 8 * (s.plumb b).cam.period)).litPeriod b (s.cameraSince b) = true
          ∧ (s.mode.mode = .expose ∨ s.mode.mode = .preheat)
          ∧ (s.reach (s.cameraSince b + s.regF (beamReg b 0x3100) 8 8 * (s.plumb b).cam.period)).usesCamera b = true ∧ (s.plumb b).fallback = false ∧ (s.plumb b).cam.lossWaits = none) fun s =>
        (s.reach (s.cameraSince b + s.regF (beamReg b 0x3100) 8 8 * (s.plumb b).cam.period)).onPlumb b fun c =>
          { c with cam := { c.cam with lost := true, lossWaits := some 3, validRun := 0, back := false } })
    ∧ (∀ b kind x, Does (fun t => .excursionClose t b kind) beamsOn (fun s => (s.plumb b).exc[excIndex kind]? = some x ∧ s.excMin b ≤ x.runOut) fun s => s.excEnd b (excIndex kind))
    ∧ (∀ b, Does (fun t => .traceDone t b) beamsOn (fun s => 128 ≤ (s.plumb b).trace.length ∧ s.regB (beamReg b 0x5030) 0 = true) fun s =>
        ((s.setReg (beamReg b 0x5030) (BitVec.ofNat 32 (2 * s.regF (beamReg b 0x5030) 1 3 + 16))).onPlumb b fun c => { c with tracing := false }).raise 0x0603 0 0 [0, b]
          (leBytes 1 (s.regF (beamReg b 0x5030) 1 3) ++ leBytes 1 0 ++ leBytes 2 128))
    ∧ Does .depositMerge isUp (fun s => s.ue = []) (fun s =>
        let due := sortBy (fun (d : Deposit) => (d.time * 16384 + d.cy) * 16384 + d.cx) (s.grain.deposits.filter fun d => decide (d.time ≤ s.now))
        (mergeSame due).foldl (fun st d => st.mergeOne d.2.1 d.2.2.1 d.2.2.2 d.1) (s.onGrain fun g => { g with deposits := g.deposits.filter fun d => decide (s.now < d.time) }))
    ∧ (∀ (t : Nat) (s : State), isUp s → ∃ ws : List Nat, exec (.depositMerge t) s = leaves s t (((s.touch t).memMet ws).mergeDeposits))
    ∧ (∀ b tile, tile < 250000 → Does (fun t => .tilePrefetch t b tile) isUp
        (fun s => s.ue = [] ∧ s.nextFetch b = some tile ∧ s.fetchTurn b = true ∧ (s.columnsOf b).length < 32) fun s =>
        (s.onGrain fun g => { g with columns := updAt g.columns b.val fun _ => s.columnsOf b ++ [s.fetchColumn tile] }).moveBytes fetchBytes)
    ∧ (∀ b tile w l, tile < 250000 → Does (fun t => .tilePrefetch t b tile) isUp
        (fun s => s.ue = [] ∧ s.nextFetch b = some tile ∧ s.fetchTurn b = true ∧ 32 ≤ (s.columnsOf b).length
          ∧ sortBy (fun (c : Column) => c.queried) ((s.columnsOf b).filter fun c => !(s.pathTiles b).contains c.tile) = w :: l) fun s =>
        (s.onGrain fun g => { g with columns := updAt g.columns b.val fun _ =>
          ((s.columnsOf b).filter fun c => c.tile != w.tile) ++ [s.fetchColumn tile] }).moveBytes fetchBytes)
    ∧ (∀ b tile, tile < 250000 → Does (fun t => .tilePrefetch t b tile) isUp
        (fun s => s.ue ≠ [] ∧ s.nextFetch b = some tile ∧ s.fetchTurn b = true ∧ (s.keptColumns b).isSome = true) fun s =>
        (s.memMet ((List.range 4).flatMap fun k => s.tileUe k tile).dedup).prefetch b tile)
    ∧ (∀ b n, Does (fun t => .grainQuery t b) beamsOn
        (fun s => s.ue = [] ∧ s.queryTick b = some n ∧ (s.kerf b).engine.runs = true ∧ s.inWindow (s.cellOf (s.lookTarget b n).x (s.lookTarget b n).y) = false) fun s =>
        s.onGrain fun g => { g with queries := updAt g.queries b.val fun l => l ++
          [{ place := (tickKey (s.lookRels b) n).1, off := (tickKey (s.lookRels b) n).2, tq := s.now, sums := [0, 0, 0, 0], invalid := false, outside := true }] })
    ∧ (∀ b n, Does (fun t => .grainQuery t b) beamsOn
        (fun s => s.ue = [] ∧ s.queryTick b = some n ∧ (s.kerf b).engine.runs = true ∧ s.inWindow (s.cellOf (s.lookTarget b n).x (s.lookTarget b n).y) = true
            ∧ ∀ t ∈ s.queryTiles b n, ∃ c ∈ s.columnsOf b, c.tile = t) fun s =>
        let ker := (s.kernel (s.cellOf (s.lookTarget b n).x (s.lookTarget b n).y)).filter fun e => s.inWindow e.1
        let v := (s.queryTiles b n).foldl (fun st t => st.useColumn b t) s
        let plane (t k : Nat) : List Host.Cell := (((v.columnsOf b).find? fun c => c.tile == t).map fun c => c.planes.getD k []).getD []
        let entry (t k : Nat) : DirEnt := dirOf v.now (tabulate 8 fun i => getKey (2048 + i) memDefault (plane t k))
        let part (k : Nat) (e : (Int × Int) × Nat) : Nat :=
          let t := tileOf e.1.1.toNat e.1.2.toNat
          let i := 2 * cellIn e.1.1.toNat e.1.2.toNat
          if (entry t k).occupied = true then
            e.2 * roleValue k ((getKey i memDefault (plane t k)).toNat + 256 * (getKey (i + 1) memDefault (plane t k)).toNat) * decay (v.now - (entry t k).tRef) (v.roleHalf k) / 2 ^ 44
          else 0
        v.onGrain fun g => { g with queries := updAt g.queries b.val fun l => l ++
            [{ place := (tickKey (s.lookRels b) n).1, off := (tickKey (s.lookRels b) n).2, tq := v.now, sums := tabulate 4 fun k => (ker.map (part k)).sum
               invalid := (s.queryTiles b n).any fun t => (List.range 4).any fun k => (entry t k).invalid, outside := false }] })
    ∧ (∀ b, ∀ (t : Nat) (s : State), beamsOn s → ∃ ws : List Nat, exec (.grainQuery t b) s = leaves s t (((s.touch t).memMet ws).grainQuery b))
    ∧ Does .grainRoll isUp (fun s => s.rollReady = true) (fun s =>
        let z := s.memMet s.rollUe
        let a := z.slotOf 0
        let b := z.slotOf 1
        let c := z.slotOf 2
        let q := z.slotOf 3
        let tiles := ([a, b, c, q].flatMap z.dirTiles).dedup
        let v := (tiles.foldl (fun st i => st.rollTile a b c q z.now z.grain.rollLayer i) z).moveBytes (rollBytes * tiles.length) true
        (v.setReg grRoles (BitVec.ofNat 32 (q + 4 * a + 16 * b + 64 * c))).onGrain fun g =>
          { g with pendRoll := false, rolling := true, tRoll := z.now, columns := List.replicate 48 [] })
    ∧ Does .rollEnd isUp (fun s => s.grain.rolling = true ∧ s.grain.whole = false) (fun s =>
        (s.setReg 0x0480003C (BitVec.ofNat 32 ((s.now - s.grain.tRoll) / milli))).onGrain fun g => { g with rolling := false })

/-- R240 whole: an excursion that has been outside long enough opens with its first window, and with EXC_ALERT an alert follows: at most one per beam in 10 ms, the others
counted in the next alert's merge count. Completes (its conclusion is `exec i s = .next …`): excursionOpen. -/
def Obligations.ExcursionAlerts : Prop :=
  let opens (b : Fin 48) (k : Nat) (x : Exc) (s : State) : State := s.onPlumb b fun c => { c with exc := updAt c.exc k fun y => { y with opened := some x.first } }
  let due (b : Fin 48) (k : Nat) (x : Exc) (s : State) : Prop := (s.plumb b).exc[k]? = some x ∧ x.opened = none ∧ s.excMin b ≤ x.runIn
  (∀ b kind x, Does (fun t => .excursionOpen t b kind) beamsOn (fun s => due b (excIndex kind) x s ∧ s.regB (beamReg b 0x5000) 1 = false) (opens b (excIndex kind) x))
    ∧ (∀ b kind x, Does (fun t => .excursionOpen t b kind) beamsOn
        (fun s => due b (excIndex kind) x s ∧ s.regB (beamReg b 0x5000) 1 = true ∧ ∀ a, (s.plumb b).excAt = some a → a + 10 * milli ≤ s.now) fun s =>
        ((opens b (excIndex kind) x s).onPlumb b fun c => { c with excAt := some s.now, excMerged := 0 }).raise 0x0600 0 0 [0, b]
          (leBytes 1 (excIndex kind + 1) ++ leBytes 1 x.first.profile ++ leBytes 2 (s.plumb b).excMerged ++ placeBytes x.first.place ++ leBytes 4 (unsignedOf 32 x.first.x)
            ++ leBytes 4 (unsignedOf 32 x.first.y)))
    ∧ (∀ b kind x a, Does (fun t => .excursionOpen t b kind) beamsOn
        (fun s => due b (excIndex kind) x s ∧ s.regB (beamReg b 0x5000) 1 = true ∧ (s.plumb b).excAt = some a ∧ s.now < a + 10 * milli) fun s =>
        (opens b (excIndex kind) x s).onPlumb b fun c => { c with excMerged := min (c.excMerged + 1) 0xFFFF })

/-- A mark scan of the nearest mark that fits starts at the commit point (R289, R290), ends at its end and is measured from its samples or invalid by its cause (R291, R292);
a pass is fitted once all its marks have been attempted, its result applied or held, and fails without enough good marks (R294, R295, R297); a held result that waits is
applied once it may be (R297); a pass that has waited too many layers fails (R294). A live boundary advances the period and composes, unless one runs or a layer-end
boundary is less than 1 ms old; a layer-end boundary waits for its fences until its deadline; a composition ends with its frame written, swapped in unless the host has
locked the shown one; the lock expires; footprint and heat are drawn into their rings, and the errors that these accesses meet are detected (R316, R317, R327, R329, R330,
R527). Completes (its conclusion is `exec i s = .next …`): markScanStart, markScanDone, passFit, resultApply, passTimeout, liveBoundary, layerEndBoundary,
compositionDone, frameLockExpiry, footprintDone, heatRenderDone. -/
def Obligations.ScribeVeneerEvents : Prop :=
  let marksOf (b : Fin 48) (s : State) : List FitMark := (sortBy (fun (m : Nat × Meas) => m.1) ((s.scribe b).meas.filter fun m => m.2.valid)).map fun m =>
    ⟨m.1, (s.fid m.1).x, (s.fid m.1).y, dbl m.2.ex, dbl m.2.ey, m.2.time⟩
  (∀ b sc0 late, Does (fun t => .markScanDone t b late () ()) beamsOn (fun s => (s.scribe b).scan = some sc0) fun s =>
      let v := (s.reach sc0.ends).lateSamples b late
      let sc := (v.scribe b).scan.getD sc0
      let k := sc.fid.val
      let c := centroid (v.fid k) sc.lines sc.points sc.value
      let w := v.onScribe b fun q => { q with scan := none }
      let m : Meas := ⟨true, 0, c.2.1, c.2.2, v.now⟩
      if sc.met = true ∨ w.covered (v.fid k) = true then w.scanInvalid b k 1
      else if sc.ready = false then w.scanInvalid b k 6
      else if sc.sat = true then w.scanInvalid b k 5
      else if v.regF (beamReg b 0x201C) 0 16 = 0 then w.scanInvalid b k 2
      else if c.1 ≠ 0 then w.scanInvalid b k c.1
      else (w.onScribe b fun q => { q with meas := q.meas ++ [(k, m)] }).writeMeas b k m 0 0)
    ∧ (∀ b, ∀ (t : Nat) (s : State), beamsOn s → ∃ u, exec (.markScanStart t b) s = .next u ∧ u.mem = s.mem ∧ u.regs = s.regs ∧ u.mode = s.mode
        ∧ (∀ b' : Fin 48, b' ≠ b → u.scribe b' = s.scribe b' ∧ u.kerf b' = s.kerf b')
        ∧ ((s.scribe b).pass = none ∨ (s.scribe b).scan ≠ none ∨ (s.scribe b).table ≠ .loaded → u = s.touch t))
    ∧ (∀ b code p k l, Does (fun t => .markScanStart t b) beamsOn
        (fun s => s.scanMode = some code ∧ (s.scribe b).pass = some p ∧ (s.scribe b).table = .loaded ∧ (s.unitState (.beam b) = stOk ∨ s.unitState (.beam b) = stDegraded)
          ∧ s.regB (beamReg b 0x1000) 0 = true ∧ s.regB (beamReg b 0x1008) 0 = true ∧ (s.scribe b).scan = none ∧ (s.scribe b).result = none
          ∧ sortBy (fun k => (dist2 ((s.kerf b).target (ceilDiv s.commitPoint tickNs)).x ((s.kerf b).target (ceilDiv s.commitPoint tickNs)).y (s.fid k).x (s.fid k).y).toNat)
              ((s.reachList b).filter (s.scanFits b code)) = k :: l
          ∧ ∀ j ∈ s.lowerChoices b, s.clash j k = false) fun s =>
        let t0 := ceilDiv s.commitPoint tickNs + 1
        let plan := s.scanPlan b (s.fid k) t0
        let ends := ((plan.1.getLast?.map fun g => g.t0 + g.n).getD t0) * tickNs
        let stop := (plan.1.getLast?.map fun g => g.q).getD ((s.kerf b).target (t0 - 1))
        let sc : Scan :=
          { fid := Fin.ofNat 256 k, started := s.now, ends := ends, ready := s.regB (beamReg b 0x200C) 0, lines := s.scanLines, points := s.scanPoints
            spans := plan.2.map fun g => (g.start, g.stop), sums := [], sat := false, met := false }
        let v := s.onScribe b fun c => { c with scan := some sc }
        (v.addGates b plan.2).onKerf b fun x => { x with coast := x.coast ++ plan.1, pos := stop, raw := stop })
    ∧ (∀ b p, Does (fun t => .passFit t b) isUp
        (fun s => (s.scribe b).pass = some p ∧ (s.scribe b).scan = none ∧ s.allAttempted b = true ∧ ((s.scribe b).meas.filter fun m => m.2.valid).length < leastMarks p.model) fun s =>
        let n := ((s.scribe b).meas.filter fun m => m.2.valid).length
        ((((s.count (scb b 0x18)).count 0x05000044).onScribe b fun c => { c with pass := none })).scribeResult b 0 2 p.model n 0xFFFF 0xFFFF 0xFFFF 0xFFFF)
    ∧ (∀ b p, Does (fun t => .passFit t b) isUp
        (fun s => (s.scribe b).pass = some p ∧ (s.scribe b).scan = none ∧ s.allAttempted b = true ∧ leastMarks p.model ≤ (marksOf b s).length
            ∧ (2 ≤ p.model → collinear (scatter (marksOf b s)) (marksOf b s).length = false)
            ∧ ¬ (p.model = 1 ∧ ((marksOf b s).all fun m => m.x == ((marksOf b s).map (·.x)).headD 0 && m.y == ((marksOf b s).map (·.y)).headD 0) = true)) fun s =>
        let good := (s.scribe b).meas.filter fun m => m.2.valid
        let r := fitOf (BitVec.ofNat 32 s.scribeIds) p.model (s.reg 0x0500001C).toNat (marksOf b s) ((Config.freeNat s.draws : Nat) : Rat) s.now
        let v := ({ s with scribeIds := s.scribeIds + 1 } : State).setReg (scb b 0x28) (BitVec.ofNat 32 (r.drms + 65536 * r.dmax))
        let w := (good.foldl (fun (st : State) m =>
          let e := (r.res.find? fun x => x.1 == m.1).map fun x => (x.2.1, x.2.2.1)
          st.writeMeas b m.1 m.2 ((e.map (·.1)).getD 0) ((e.map (·.2)).getD 0)) v).onScribe b fun c => { c with pass := none }
        let x := (w.onScribe b fun c => { c with result := some r }).setReg (scb b 0x24) r.id
        if w.tabRms b ≠ 0xFFFF ∧ w.tabRms b + w.regF 0x0500000C 0 16 < r.rms ∨ w.stepTooLarge b r = true ∨ w.regB 0x05000000 1 = true ∨ p.hold = true then
          (x.note 0x0781 1 0 [0, b] (leBytes 4 s.scribeIds ++ leBytes 2 r.rms ++ leBytes 2 r.max)).scribeResult b r.id 1 r.model r.n r.rms r.max r.drms r.dmax
        else w.applyOrWait b r)
    ∧ (∀ b r, Does (fun t => .resultApply t b) isUp (fun s => (s.scribe b).result = some r ∧ r.wait = true ∧ s.mayApply b = true) fun s => s.applyResult b r)
    ∧ (∀ b p, Does (fun t => .passTimeout t b) isUp (fun s => (s.scribe b).pass = some p ∧ s.regF 0x05000000 16 8 ≤ p.layers ∧ (s.scribe b).scan = none) fun s =>
        s.passFails b p.model ((s.scribe b).meas.filter fun m => m.2.valid).length)
    ∧ (let moved (s : State) : State :=
        let v := ((s.reach s.veneer.nextLive).onVeneer fun n => { n with nextLive := n.nextLive + s.regF 0x06000028 0 16 * milli }).pixelClock
        if v.regB vnConfig 2 = true then v.heatStart else v
      let on (s : State) : Prop := s.regF 0x06000028 0 16 ≠ 0 ∧ ((s.reach s.veneer.nextLive).onVeneer fun n => { n with nextLive := n.nextLive + s.regF 0x06000028 0 16 * milli }).regB vnConfig 0 = true
        ∧ ((s.reach s.veneer.nextLive).onVeneer fun n => { n with nextLive := n.nextLive + s.regF 0x06000028 0 16 * milli }).pixelClock.regB vnConfig 0 = true
      Does .liveBoundary isUp (fun s => on s ∧ (moved s).veneer.endAt = none ∧ (moved s).composing = true) (fun s => (moved s).count vnSkipped)
        ∧ Does .liveBoundary isUp (fun s => on s ∧ (moved s).veneer.endAt = none ∧ (moved s).composing = false)
          (fun s => ((moved s).onVeneer fun n => { n with liveAt := some (moved s).now }).boundary 2)
        ∧ ∀ at_, Does .liveBoundary isUp (fun s => on s ∧ (moved s).veneer.endAt = some at_ ∧ (moved s).now < at_ + milli) moved)
    ∧ (let first (s : State) (since : Nat) (fs : List Word) : State :=
        if (∀ f, f < 32 → flag (s.reg 0x06000004) f = true → s.fenceSeen f ≠ fs.getD f 0) then s else s.reach (since + s.regF vnConfig 16 16 * milli)
      ∀ since fs due, Does .layerEndBoundary isUp (fun s => s.veneer.endSince = (since, fs) :: due ∧ s.regB vnConfig 0 = true ∧ s.regB vnConfig 1 = true
          ∧ (∀ a, s.veneer.liveAt = some a → a + milli ≤ (first s since fs).now) ∧ s.veneer.compose = none ∧ s.veneer.swapWait = none
          ∧ ((first s since fs).onVeneer fun n => { n with endSince := due }).pixelClock.regB vnConfig 0 = true) fun s =>
        (((first s since fs).onVeneer fun n => { n with endSince := due }).pixelClock.onVeneer fun n => { n with endAt := some (first s since fs).now }).boundary 1)
    ∧ (let shown (s : State) : State := if s.badTiles = 0 then s else s.count vnDecodeErr s.badTiles
      let met (s u : State) : State := (u.memMet s.composeMeets).memMet (if s.outOk (s.outSurf !(s.regB vnStatus 1)) = true then u.tiledMet (s.surface (s.outSurf !(s.regB vnStatus 1))) else [])
      (∀ c, Does .compositionDone isUp (fun s => s.veneer.compose = some c ∧ (shown s).writeFrame.1.veneer.lockUntil ≠ none) fun s =>
        let w := (shown s).writeFrame
        met s (w.1.onVeneer fun n => { n with compose := none, swapWait := some { c with took := ((shown s).now - c.started) / 1000, bad := w.2 } }))
        ∧ ∀ c, Does .compositionDone isUp (fun s => s.veneer.compose = some c ∧ (shown s).writeFrame.1.veneer.lockUntil = none) fun s =>
          let w := (shown s).writeFrame
          met s (((w.1.onVeneer fun n => { n with compose := none }).swap { c with took := ((shown s).now - c.started) / 1000, bad := w.2 }).waitingEnd))
    ∧ (∀ at_, Does .frameLockExpiry isUp (fun s => s.veneer.lockUntil = some at_) fun s => (s.reach at_).unlock)
    ∧ (∀ i, Does .footprintDone isUp (fun s => s.ue = [] ∧ (s.ring 16).writing = some i ∧ (s.layers.active = .complete ∨ s.layers.active = .abandoned)) fun s =>
        let f := s.surface i
        let lit := ((List.range f.h).flatMap fun y => (List.range f.w).map fun x => (x, y)).filter fun e =>
          s.veneer.footprint.any fun q => nearPiece q (s.regF 0x0600001C 0 24) (s.pixelCentre e.1 e.2).1 (s.pixelCentre e.1 e.2).2
        ((lit.foldl (fun (st : State) e =>
          st.writeMem (f.addr + e.2 * f.pitch + e.1 / 8) [Memory.read st.mem (f.addr + e.2 * f.pitch + e.1 / 8) ||| BitVec.ofNat 8 (2 ^ (e.1 % 8))]) s).onVeneer
            fun n => { n with footprint := [] }).ringDone 16)
    ∧ (∀ i, Does .heatRenderDone isUp (fun s => s.ue = [] ∧ (s.ring 17).writing = some i ∧ (s.surface i).tiled = false) fun s =>
        ((List.range (s.surface i).h).foldl (fun st y => st.writeMem ((s.surface i).addr + y * (s.surface i).pitch)
          (tabulate (s.surface i).w fun x => BitVec.ofNat 8 (s.heatPixel s.veneer.heatStart x y))) s).ringDone 17)
    ∧ (∀ i, Does .heatRenderDone isUp (fun s => s.ue = [] ∧ (s.ring 17).writing = some i ∧ (s.surface i).tiled = true) fun s =>
        (s.writeTiled (s.surface i) 1 (s.heatPixel s.veneer.heatStart) fun _ => false).ringDone 17)
    ∧ (∀ (t : Nat) (s : State), isUp s → ∃ ws : List Nat, exec (.footprintDone t) s = leaves s t ((s.touch t).footprintDone.memMet ws))
    ∧ (∀ (t : Nat) (s : State), isUp s → ∃ ws vs : List Nat, exec (.heatRenderDone t) s = leaves s t ((((s.touch t).memMet ws).heatDone).memMet vs))

/-! ## Events of the lanes, the heads and the chain -/

/-- Lanes: a signal lost on a lane that is up is reported, counted and starts the lane again, on one that trains it is noted (R340); signal takes a training lane to
alignment, alignment to HELLO, a time-out of 20 ms is a failed attempt, and a backoff ends after 10 ms or 30 ms (R342-R344); rescans come every second of the time since
start-up (R344); an ALIGN block that names its lane and matches another lane of the stripe lets the lane join or rejoin, another one loses the lane (R356, R358); a lane
of the stripe with an invalid header is lost, a first one leaves the port degraded and a second takes it down (R357, R358). The heads of the joist lanes: a message that
did not come whole is counted and discarded, and spoils an open frame if it is a line of it (R339, R341, R349); a HELLO of a known class brings a training lane up and is
welcomed, one of an unknown class fails the attempt, and another identity makes a lane that is up train again (R346); frames are collected line by line and given whole,
with their CRC, to the capture ring or to the beams of their camera, and counted as bad otherwise (R347, R349), with the errors in memory that this meets (R527); sensor
values go to their registers with their times (R351); the reply with the command's tag ends it and goes to the hosts, as does its time-out after 100 ms (R352); windows
are kept for the lights; time goes out and its echo gives the delay, and 1 ms without echo is counted (R348, R350). Completes (its conclusion is `exec i s = .next …`):
laneSignalLost, laneSignalOk, laneAligned, attemptTimeout, backoffEnd, discoveryRescan, hello, frameStart, line, frameEnd, sensor, reply, window, time, timeEcho,
timeMiss, headReplyTimeout, align, laneErased. -/
def Obligations.LaneAndHeadEvents : Prop :=
  (let seen (p : RPort) (k : Nat) (c : Word) (s : State) : State := s.onRport p fun r => { r with aligns := updAt r.aligns k fun _ => (s.now, c.toNat) }
  (∀ l c, Does (fun t => .laneSignalLost t l c) isAwake (fun s => s.laneOn l = true ∧ (s.lane l).link = .up) fun s => (s.loseLane l c).onLane l fun x => x.lose c)
    ∧ (∀ l c, Does (fun t => .laneSignalLost t l c) isAwake (fun s => s.laneOn l = true ∧ (s.lane l).link ≠ .up ∧ (s.lane l).link.trains = true) fun s => s.onLane l fun x => x.lose c)
    ∧ (∀ l, Does (fun t => .laneSignalOk t l) isAwake (fun s => (s.lane l).link = .signal) fun s =>
        s.onLane l fun x => { x with los := false, lol := false, link := .align, manualDone := false })
    ∧ (∀ n pos, Does (fun t => .laneAligned t (.joist n) pos) isAwake (fun s => (s.lane (.joist n)).link = .align ∧ s.alignManual (.joist n) = false) fun s =>
        s.onLane (.joist n) fun x => { x with link := .hello, slip := pos, syncOk := true })
    ∧ (∀ l p k pos, lanePort l = some (p, k) → Does (fun t => .laneAligned t l pos) isAwake (fun s => (s.lane l).link = .align ∧ s.alignManual l = false) fun s =>
        (s.onLane l fun x => { x with link := .hello, slip := pos, syncOk := true }).sendHello p)
    ∧ (∀ l, Does (fun t => .attemptTimeout t l) isAwake (fun s => (s.lane l).link = .signal ∨ (s.lane l).link = .hello ∨ ((s.lane l).link = .align ∧ (s.alignManual l && !(s.lane l).manualDone) = false)) fun s =>
        (s.reach ((s.lane l).since + 20 * milli)).attemptFails l)
    ∧ (∀ l, Does (fun t => .backoffEnd t l) isAwake (fun s => (s.lane l).link = .backoff) fun s =>
        (s.reach ((s.lane l).since + (if (s.lane l).fails = 1 then 10 else 30) * milli)).startLane l false (s.lane l).fails)
    ∧ Always .discoveryRescan isUp (fun s => (s.reach (s.power.startupEnd + max 1 (ceilDiv (s.now - s.power.startupEnd) second) * second)).rescan)
    ∧ (∀ p (k num : Fin 4) c, Does (fun t => .align t p k num c) isAwake
        (fun s => (s.lane (portLane p k)).link = .up ∧ (s.rport p).alignOk s.now k num c.toNat = true) fun s => (seen p k c s).alignSeen p k)
    ∧ (∀ p (k num : Fin 4) c, Does (fun t => .align t p k num c) isAwake
        (fun s => (s.lane (portLane p k)).link = .up ∧ (s.rport p).alignOk s.now k num c.toNat = false) fun s => (seen p k c s).laneSignalLost (portLane p k) .align)
    ∧ (∀ p (k num : Fin 4) c, Does (fun t => .align t p k num c) isAwake (fun s => (s.lane (portLane p k)).link ≠ .up) fun s => s)
    ∧ (∀ (s : State) (p : RPort) (k : Fin 4), ((s.rport p).lanes.getD k.val noLane).link = .up → (s.rport p).inStripe.getD k.val false = false → (s.rport p).port = .degraded →
        s.alignSeen p k = if (s.rport p).clean.getD k.val false then
            ((s.countRebuilt p).onRport p fun r => { r with inStripe := updAt r.inStripe k.val fun _ => true, port := .up }).settle (portLeaf p)
          else s.onRport p fun r => { r with clean := updAt r.clean k.val fun _ => true })
    ∧ (∀ p (k : Fin 4), Does (fun t => .laneErased t p k) isAwake (fun s => (s.rport p).inStripe.getD k.val false = true) fun s => s.loseLane (portLane p k) .headers)
    ∧ (∀ p (k : Fin 4), Does (fun t => .laneErased t p k) isAwake (fun s => (s.rport p).inStripe.getD k.val false = false) fun s => s.onRport p fun r => { r with clean := updAt r.clean k.val fun _ => false })
    ∧ (∀ (s : State) (p : RPort) (k : Fin 4), (s.rport p).inStripe.getD k.val false = true → (s.rport p).port = .up →
        s.erase p k = (s.onRport p fun r => { r with
          inStripe := updAt r.inStripe k.val fun _ => false, erasedAt := updAt r.erasedAt k.val fun _ => s.now, clean := updAt r.clean k.val fun _ => false, port := .degraded }).unitFault
            (portLeaf p) stDegraded 0x42))
  ∧ (let good (n : Fin 16) (type : Nat) (m : Msg) (s : State) : Prop := msgGood type m = true ∧ (s.joist n).lane.link = .up
  let lost (n : Fin 16) (type : Nat) (m : Msg) (s : State) : Prop := msgGood type m = false ∧ (s.joist n).lane.link = .up
  let said (m : Msg) : List Byte := (m.payload ++ List.replicate 32 0).take 32
  (∀ n m, Does (fun t => .hello t n m) isAwake (lost n 0x01 m) fun s => s.count (jlReg n 0x10))
    ∧ (∀ n m, Does (fun t => .hello t n m) isAwake
        (fun s => msgGood 0x01 m = true ∧ (s.joist n).lane.link = .hello ∧ (byteAt (said m) 0 = 0 ∨ 3 < byteAt (said m) 0) ∧ (s.joist n).head = []) fun s =>
        (s.takeHead n (said m)).attemptFails (.joist n))
    ∧ (∀ n m, Does (fun t => .hello t n m) isAwake (fun s => good n 0x01 m s ∧ (s.joist n).head ≠ [] ∧ headId (s.joist n).head = headId (said m)) fun s =>
        (s.takeHead n (said m)).sendJoist n 0x41 [])
    ∧ (∀ n m, Does (fun t => .hello t n m) isAwake (fun s => good n 0x01 m s ∧ (s.joist n).head ≠ [] ∧ headId (s.joist n).head ≠ headId (said m)) fun s =>
        let v := s.takeHead n (said m)
        let w := v.onJoist (v.headLane n) fun j => { j with command := loseReply j.command }
        ((w.dropFrame (w.headLane n)).count (jlReg n 0x20)).startLane (.joist n) false 0)
    ∧ (∀ n m, Does (fun t => .hello t n m) isAwake
        (fun s => msgGood 0x01 m = true ∧ (s.joist n).lane.link = .hello ∧ 1 ≤ byteAt (said m) 0 ∧ byteAt (said m) 0 ≤ 3 ∧ (s.joist n).head = []) fun s =>
        let v := ((s.takeHead n (said m)).sendJoist n 0x41 []).laneUp (.joist n) (byteAt (said m) 0)
        let w := (v.onJoist n fun j => { j with echoAt := v.now }).rateBack n
        if w.unitState (.joist n) = stAbsent then w.setUnit (.joist n) stOk else w.settle (.joist n))
    ∧ (∀ n m, Does (fun t => .frameStart t n m) isUp (fun s => good n 0x02 m s ∧ ((s.dropFrame (s.headLane n)).joist (s.headLane n)).half = false) fun s =>
        (s.dropFrame (s.headLane n)).onJoist (s.headLane n) fun j => { j with
          frame := some { num := leWord m.payload 0, width := leAt m.payload 4 2, height := leAt m.payload 6 2, bits := byteAt m.payload 8, lines := [], bad := false } })
    ∧ (∀ n m, Does (fun t => .line t n m) isUp (lost n 0x03 m) fun s =>
        (s.onJoist (s.headLane n) fun j => { j with frame := j.frame.map fun f => { f with bad := true } }).count (jlReg n 0x10))
    ∧ (∀ n m f, Does (fun t => .line t n m) isUp (fun s => good n 0x03 m s ∧ (s.joist (s.headLane n)).frame = some f ∧ leAt m.payload 0 2 = f.num.toNat % 65536 ∧ leAt m.payload 2 2 < f.height
          ∧ (m.payload.drop 4).length = f.width * (if f.bits = 8 then 1 else 2) ∧ ∀ l ∈ f.lines, l.1 ≠ leAt m.payload 2 2) fun s =>
        s.onJoist (s.headLane n) fun j => { j with frame := some { f with lines := (leAt m.payload 2 2, m.payload.drop 4) :: f.lines } })
    ∧ (∀ n m, Does (fun t => .frameEnd t n m) isUp (fun s => good n 0x04 m s ∧ (s.joist (s.headLane n)).frame = none) fun s =>
        (if byteAt (s.joist (s.headLane n)).head 0 = 3 then s else (s.count (jlReg (s.headLane n) 0x18)).coaxBad (s.headLane n)).memMet (s.captureMeets n m))
    ∧ (∀ n m f, Does (fun t => .frameEnd t n m) isUp (fun s => good n 0x04 m s ∧ (s.joist (s.headLane n)).frame = some f ∧ f.whole m = none ∧ byteAt (s.joist (s.headLane n)).head 0 ≠ 3) fun s =>
        (((s.onJoist (s.headLane n) fun j => { j with frame := none }).count (jlReg (s.headLane n) 0x18)).coaxBad (s.headLane n)).memMet (s.captureMeets n m))
    ∧ (∀ n m f rows, Does (fun t => .frameEnd t n m) isUp
        (fun s => good n 0x04 m s ∧ (s.joist (s.headLane n)).frame = some f ∧ f.rows = some rows ∧ f.bad = false ∧ leWord m.payload 0 = f.num ∧ crc32c rows.flatten = leWord m.payload 20
          ∧ byteAt (s.joist (s.headLane n)).head 0 = 1) fun s =>
        (((s.onJoist (s.headLane n) fun j => { j with frame := none }).count (jlReg (s.headLane n) 0x14)).capture (s.headLane n) f rows).memMet (s.captureMeets n m))
    ∧ (∀ n m f rows, Does (fun t => .frameEnd t n m) isUp
        (fun s => good n 0x04 m s ∧ (s.joist (s.headLane n)).frame = some f ∧ f.whole m = some rows ∧ byteAt (s.joist (s.headLane n)).head 0 = 2
          ∧ (s.onJoist (s.headLane n) fun j => { j with frame := none }).camBeams (s.headLane n) ≠ []) fun s =>
        let v := (s.onJoist (s.headLane n) fun j => { j with frame := none }).count (jlReg (s.headLane n) 0x14)
        ((v.camBeams (s.headLane n)).foldl (fun st b =>
          st.coaxFrame b f.width f.height f.bits (timeAt m.payload 4) (timeAt m.payload 12) (rows.map (pixelsOf f.bits)) false (st.gNext b)) v).memMet (s.captureMeets n m))
    ∧ (∀ n m, Does (fun t => .sensor t n m) isUp (fun s => good n 0x05 m s ∧ m.payload.length < 12) fun s => s)
    ∧ (∀ n m c, Does (fun t => .sensor t n m) isUp (fun s => good n 0x05 m s ∧ m.payload.length = 12 ∧ byteAt m.payload 8 = c ∧ c ≤ 15) fun s =>
        let t := timeAt m.payload 0
        let v := byteAt m.payload 9 * 65536 + leAt m.payload 10 2
        let h := s.headLane n
        ((s.onJoist h fun j => { j with sensors := putSensor (c, v, t) j.sensors }).setReg (jlReg h (0x80 + 8 * c)) (BitVec.ofNat 32 v)).setReg (jlReg h (0x84 + 8 * c)) (BitVec.ofNat 32 (nsOf t)))
    ∧ (∀ n m tag at_, Does (fun t => .reply t n m) isUp (fun s => good n 0x06 m s ∧ (s.joist (s.headLane n)).command = some (tag, at_, false) ∧ leAt m.payload 0 2 = tag.toNat) fun s =>
        (s.onJoist (s.headLane n) fun j => { j with command := none }).headReply (s.headLane n) tag.toNat 0 ((m.payload.drop 4).take 1024))
    ∧ (∀ n m, Does (fun t => .window t n m) isUp (good n 0x07 m) fun s =>
        s.takeWindow n { start := timeAt m.payload 0, dur := leAt m.payload 8 4, num := leWord m.payload 12, running := false })
    ∧ (∀ n, Does (fun t => .time t n) isUp (fun s => (s.joist n).lane.link = .up) fun s =>
        (s.onJoist n fun j => { j with timeAt := ((getKey 0x42 0 j.seqOut, s.now) :: j.timeAt).take 32 }).sendJoist n 0x42 (timeBytes s.now ++ leBytes 4 (s.reg (jlReg n 0xC)).toNat))
    ∧ (∀ n m q at_, Does (fun t => .timeEcho t n m) isUp (fun s => good n 0x08 m s ∧ (s.joist n).timeAt.find? (fun e => e.1 == byteAt m.payload 0) = some (q, at_)) fun s =>
        (s.onJoist n fun j => { j with echoAt := s.now }).setReg (jlReg n 0xC) (BitVec.ofNat 32 ((s.now - at_ - leAt m.payload 4 4) / 2)))
    ∧ (∀ n, Does (fun t => .timeMiss t n) isUp (fun s => (s.joist n).lane.link = .up) fun s =>
        ((s.reach ((s.joist n).echoAt + milli)).onJoist n fun j => { j with echoAt := max s.now ((s.joist n).echoAt + milli) }).count (jlReg n 0x24))
    ∧ (∀ n tag at_ gone, Does (fun t => .headReplyTimeout t n) isUp (fun s => (s.joist n).command = some (tag, at_, gone)) fun s =>
        ((s.reach (at_ + 100 * milli)).onJoist n fun j => { j with command := none }).headReply n tag.toNat 1 []))

/-- The chain: HELLO of the neighbour and INDEX form it, TIME_SYNC and its echo measure the hops, CONTROL is acknowledged, executed once and sent again until its
acknowledgement, packets travel in TIRRIL segments, a message that did not come whole is counted and discarded, and a worker that is lost gives hold cause 8 (R341,
R360-R367). Which way TIME_SYNC of a worker goes is the model's reading (log entry 104). Completes (its conclusion is `exec i s = .next …`): portHello, index,
timeSyncSend, timeSync, rafterTimeEcho, control, controlAck, controlRetry, tirril, workerLost. -/
def Obligations.ChainEvents : Prop :=
  let comes (p : RPort) (type : Nat) (m : Msg) (s : State) : Prop := msgGood type m = true ∧ ¬ ((s.rport p).port = .up ∧ m.parity ≠ 0)
  let sync (p : RPort) (s : State) : State := (List.range 4).foldl (fun st k =>
    if ((st.rport p).lanes.getD k noLane).link = .up then
      let v := st.sendRafter p 0x03 0xFF 0 (timeBytes st.now ++ leBytes 1 k ++ leBytes 3 0)
      v.onRport p fun r => { r with timeAt := ((k, BitVec.ofNat 8 (st.nextSeq p 0x03).1, v.now) :: r.timeAt).take 64 }
    else st) s
  let acked (p : RPort) (m : Msg) (s : State) : State := s.sendRafter p 0x21 0xFF 0 ([m.src, m.seq] ++ leBytes 2 0)
  let fresh (p : RPort) (m : Msg) (s : State) : Prop := (s.rport p).carries = true ∧ comes p 0x20 m s ∧ ((acked p m s).rport p).ctlSeen.contains m.seq = false
  let noted (p : RPort) (m : Msg) (s : State) : State := (acked p m s).onRport p fun r => { r with ctlSeen := (m.seq :: r.ctlSeen).take 64 }
  (∀ m, Does (fun t => .portHello t .down m) isAwake (fun s => comes .down 0x01 m s ∧ m.dst = 0xFF) fun s => s.neighbourHello .down m)
    ∧ (∀ m, Does (fun t => .portHello t .down m) isAwake (fun s => comes .down 0x01 m s ∧ m.dst ≠ 0xFF ∧ s.chain.manager = true) fun s => s.partnerFound { helloOf m with via := m.src.toNat })
    ∧ (∀ m, Does (fun t => .portHello t .down m) isAwake (fun s => comes .down 0x01 m s ∧ m.dst ≠ 0xFF ∧ s.chain.manager = false) fun s =>
        s.sendFrom .up 0x01 m.src.toNat m.dst.toNat 0 m.payload)
    ∧ (∀ p m, Does (fun t => .portHello t p m) isAwake (fun s => ¬ comes p 0x01 m s) fun s => (s.parityErrs p m).count (rpReg p 0x28))
    ∧ (∀ m, Does (fun t => .index t m) isAwake (fun s => s.chain.manager = false ∧ comes .up 0x02 m s ∧ m.dst = 0xFF) fun s => s.takeIndex (byteAt m.payload 0) (timeAt m.payload 4))
    ∧ Does .timeSyncSend isAwake (fun s => s.chain.manager = true) (fun s => sync .down s)
    ∧ Does .timeSyncSend isAwake (fun s => (sync .down s).chain.manager = false) (fun s => sync .up (sync .down s))
    ∧ (∀ m, Does (fun t => .timeSync t (.up, 0) m) isAwake (fun s => (s.draw.2.sendRafter .up 0x04 0xFF 0 (leBytes 1 m.seq.toNat ++ leBytes 1 0 ++ leBytes 2 0 ++ leBytes 4 s.draw.1)).chain.manager = false
          ∧ (s.lane (.up 0)).link = .up ∧ comes .up 0x03 m s) fun s =>
        let v := s.draw.2.sendRafter .up 0x04 0xFF 0 (leBytes 1 m.seq.toNat ++ leBytes 1 0 ++ leBytes 2 0 ++ leBytes 4 s.draw.1)
        v.setReg 0x0800800C (wordOfInt (clampInt (-0x80000000) 0x7FFFFFFF
          (((v.now : Nat) : Int) * 100 - ((timeAt m.payload 0 * 100 + (v.reg (hopDelay .up 0)).toNat : Nat) : Int)))))
    ∧ (∀ (k : Fin 4) m, Does (fun t => .timeSync t (.down, k) m) isAwake (fun s => (s.lane (.down k)).link = .up ∧ comes .down 0x03 m s) fun s =>
        s.draw.2.sendRafter .down 0x04 0xFF 0 (leBytes 1 m.seq.toNat ++ leBytes 1 k ++ leBytes 2 0 ++ leBytes 4 s.draw.1))
    ∧ (∀ p k m q at_, Does (fun t => .rafterTimeEcho t p k m) isAwake
        (fun s => comes p 0x04 m s ∧ (s.rport p).timeAt.find? (fun e => e.1 == k.val && e.2.1.toNat == byteAt m.payload 0) = some (k.val, q, at_)) fun s =>
        s.setReg (hopDelay p k) (BitVec.ofNat 32 (((s.now - at_) * 100 - leAt m.payload 4 4) / 2)))
    ∧ (∀ p m, Does (fun t => .control t p m) isUp (fun s => (s.rport p).carries = true ∧ comes p 0x20 m s ∧ ((acked p m s).rport p).ctlSeen.contains m.seq = true) fun s => acked p m s)
    ∧ (∀ p m, Does (fun t => .control t p m) isUp (fun s => fresh p m s ∧ m.dst.toNat ≠ (noted p m s).chain.index) fun s =>
        (noted p m s).controlFrom (otherPort p) m.src.toNat m.dst.toNat m.payload)
    ∧ (∀ p m, Does (fun t => .control t p m) isUp (fun s => fresh p m s ∧ m.dst.toNat = (noted p m s).chain.index ∧ (noted p m s).chain.manager = true) fun s =>
        (noted p m s).managerControl m.src.toNat (byteAt m.payload 0) (m.payload.drop 4))
    ∧ (∀ p m, Does (fun t => .control t p m) isUp (fun s => fresh p m s ∧ m.dst.toNat = (noted p m s).chain.index ∧ (noted p m s).chain.manager = false) fun s =>
        (noted p m s).workerControl (byteAt m.payload 0) (m.payload.drop 4))
    ∧ (∀ (s : State) b, s.workerControl ctlMode b = (s.reach (timeAt b 4)).follow (byteAt b 0) (leAt b 1 3))
    ∧ (∀ p m, Does (fun t => .controlAck t p m) isUp (fun s => (s.rport p).carries = true ∧ comes p 0x21 m s) fun s =>
        s.onRport p fun r => { r with controls := r.controls.filter fun c => !(c.m.src.toNat == byteAt m.payload 0 && c.m.seq.toNat == byteAt m.payload 1) })
    ∧ (∀ p c l, Does (fun t => .controlRetry t p) isUp (fun s => sortBy (fun (c : Ctl) => c.sentAt) (s.rport p).controls = c :: l
          ∧ (((s.reach (c.sentAt + 5 * micro)).onRport p fun r => { r with
            controls := r.controls.map fun x => if x.m = c.m then { x with sentAt := (s.reach (c.sentAt + 5 * micro)).now } else x }).rport p).carries = true) fun s =>
        ((s.reach (c.sentAt + 5 * micro)).onRport p fun r => { r with
          controls := r.controls.map fun x => if x.m = c.m then { x with sentAt := (s.reach (c.sentAt + 5 * micro)).now } else x }).emitRafter p 0x20 c.m)
    ∧ (∀ p m, Does (fun t => .tirril t p m) isAwake (fun s => (s.rport p).carries = true ∧ comes p 0x30 m s ∧ m.dst.toNat ≠ s.chain.index) fun s =>
        s.sendFrom (otherPort p) 0x30 m.src.toNat m.dst.toNat m.flags.toNat m.payload)
    ∧ (∀ p m, Does (fun t => .tirril t p m) isAwake (fun s => (s.rport p).carries = true ∧ comes p 0x30 m s ∧ m.dst.toNat = s.chain.index ∧ m.flags.getLsbD 0 = true ∧ m.flags.getLsbD 1 = true) fun s =>
        (s.onRport p fun r => { r with segs := putKey m.src.toNat [] [] r.segs }).chainPacket m.src.toNat m.payload)
    ∧ (∀ p m, Does (fun t => .tirril t p m) isAwake (fun s => (s.rport p).carries = true ∧ comes p 0x30 m s ∧ m.dst.toNat = s.chain.index ∧ m.flags.getLsbD 0 = false ∧ m.flags.getLsbD 1 = false) fun s =>
        s.onRport p fun r => { r with segs := putKey m.src.toNat (getKey m.src.toNat [] (s.rport p).segs ++ m.payload) [] r.segs })
    ∧ (∀ i : Fin 16, Does (fun t => .workerLost t i) isUp (fun s => s.chain.manager = true ∧ i ≠ 0 ∧ s.chain.present.getLsbD i.val = true) fun s => (s.deviceLost i.val 1).holdCause 8)

/-! ## Events of the network, of motion, of the lights and of the recorder -/

/-- Ethernet and PTP: a link comes up or goes down with its status, alert and unit; ARP and echo requests to the port's address are counted and answered (R378, R380);
Announces that qualify their sender choose the master, Syncs and Follow_Ups move the servo, Delay_Resp gives the path delay from the second one on, and a master lost for
too long gives holdover (R384, R385, R387, R388); OFFSET goes to the workers and is applied at its time (R392). Completes (its conclusion is `exec i s = .next …`):
ethLinkUp, ethLinkDown, arpRequest, icmpEcho, announce, sync, followUp, delayReq, delayResp, holdover, offsetBroadcast, offsetApply. -/
def Obligations.NetworkEvents : Prop :=
  let heard (n : Fin 2) (s : State) : State := (s.count (ethReg n 0x20)).dropStale
  let known (n : Fin 2) (s : State) : PtpPort := (heard n s).time.ports.getD n.1 ⟨none, 0, []⟩
  let list (n : Fin 2) (a : Announce) (s : State) := (a.sender, (heard n s).now) :: ((known n s).heard.filter fun h => h.1 != a.sender).take 4
  let fits (n : Fin 2) (a : Announce) (s : State) : Prop := s.regB (ethReg n 4) 0 = true ∧ (s.count (ethReg n 0x20)).ptpRuns = true ∧ (s.count (ethReg n 0x20)).ptpOn n = true
    ∧ a.domain.toNat = (s.count (ethReg n 0x20)).regF ptpConfig 0 8 ∧ a.sdo.toNat = (s.count (ethReg n 0x20)).regF ptpConfig 20 4
  (∀ n : Fin 2, Does (fun t => .ethLinkUp t n) isUp (fun s => s.regB (ethReg n 4) 0 = true ∧ s.linkUp (if n = 0 then .eth0 else .eth1) = false) fun s =>
      let v := (s.onTime fun u => if n = 0 then { u with linkUp0 := true, everUp0 := true } else { u with linkUp1 := true, everUp1 := true }).setF (ethReg n 0x18) 0 3 (3 + 4 * bit (s.regB (ethReg n 4) 2))
      let w := if v.unitState (.eth n) = stAbsent then v.setUnit (.eth n) stOk else v.settle (.eth n)
      ((if w.ptpOn n = true then w.emit (.igmp n) else w).linkAlert n true).chooseMaster)
    ∧ (∀ n : Fin 2, Does (fun t => .ethLinkUp t n) isUp (fun s => s.regB (ethReg n 4) 0 = false) State.chooseMaster)
    ∧ (∀ n : Fin 2, Does (fun t => .ethLinkDown t n) isUp (fun s => s.linkUp (if n = 0 then .eth0 else .eth1) = true) fun s =>
        let v := s.onTime fun u => if n = 0 then { u with linkUp0 := false } else { u with linkUp1 := false }
        let w := (((v.setF (ethReg n 0x18) 0 3 0).count (ethReg n 0x1C)).unitFault (.eth n) stFault 0x50).linkAlert n false
        (w.onTime fun u => { u with ports := updAt u.ports n.1 fun p => { p with best := none } }).chooseMaster)
    ∧ (∀ (n : Fin 2) sender target, Does (fun t => .arpRequest t n sender target) isUp (fun s => s.regB (ethReg n 4) 0 = true ∧ target = s.reg (ethReg n 0x10)) fun s =>
        (s.count (ethReg n 0x20)).emit (.arp n sender))
    ∧ (∀ (n : Fin 2) sender target data, Does (fun t => .icmpEcho t n sender target data) isUp (fun s => s.regB (ethReg n 4) 0 = true ∧ target = s.reg (ethReg n 0x10) ∧ data.length ≤ 1472) fun s =>
        (s.count (ethReg n 0x20)).emit (.icmp n sender data))
    ∧ (∀ (n : Fin 2) a, Does (fun t => .announce t n a) isUp (fun s => fits n a s ∧ (known n s).qualifies a (heard n s).now = true ∧ (∀ b, (known n s).best = some b → b.sender = a.sender ∨ betterMaster a b = true)) fun s =>
        ((heard n s).onTime fun u => { u with ports := updAt u.ports n.1 fun _ => ⟨some a, (heard n s).now, list n a s⟩ }).chooseMaster)
    ∧ (∀ (n : Fin 2) a, Does (fun t => .announce t n a) isUp (fun s => fits n a s ∧ (known n s).qualifies a (heard n s).now = false) fun s =>
        ((heard n s).onTime fun u => { u with ports := updAt u.ports n.1 fun _ => { known n s with heard := list n a s } }).chooseMaster)
    ∧ (∀ (n : Fin 2) m stamp interval, Does (fun t => .sync t n m stamp interval) isUp (fun s => s.regB (ethReg n 4) 0 = true) fun s => (s.count (ethReg n 0x20)).offsetStep fun u => u.ptpSync n m stamp interval)
    ∧ (∀ (n : Fin 2) m, Does (fun t => .followUp t n m) isUp (fun s => s.regB (ethReg n 4) 0 = true) fun s => (s.count (ethReg n 0x20)).offsetStep fun u => u.ptpFollow n m)
    ∧ (∀ (s : State) (n : Fin 2) (m : PtpTime) (stamp interval : Int), s.fromMaster n m = true → m.twoStep = true →
        s.ptpSync n m stamp interval = (if s.time.sync.isSome then (s.onTime fun u => { u with sync := none }).count syncMissed else s).onTime fun u =>
          { u with sync := some (m.seqId, stamp - s.latRx n, interval) })
    ∧ (∀ (s : State) (n : Fin 2) (m : PtpTime) (stamp interval d : Int), s.fromMaster n m = true → m.twoStep = false → s.time.sync = none → s.time.pathDelay = some d →
        s.ptpSync n m stamp interval = (s.onTime fun u => { u with lastT2 := some (m.time, stamp - s.latRx n) }).servoUpdate n m.time (stamp - s.latRx n) interval.toNat d)
    ∧ (∀ (s : State) (n : Fin 2) (m : PtpTime) (t2 interval d : Int), s.fromMaster n m = true → s.time.sync = some (m.seqId, t2, interval) → s.time.pathDelay = some d →
        s.ptpFollow n m = (s.onTime fun u => { u with sync := none, lastT2 := some (m.time, t2) }).servoUpdate n m.time t2 interval.toNat d)
    ∧ (∀ n, Does .delayReq isUp (fun s => s.time.ptpPort = some n ∧ s.ptpRuns = true) fun s =>
        let t3 : Int := 100 * (s.draw.2.now : Int) + (s.draw.1 % 100 : Nat) + s.draw.2.latTx n
        (s.draw.2.onTime fun u => { u with reqId := s.time.reqId + 1, reqAt := some (s.time.reqId + 1, t3) }).emit (.delayReq n (s.time.reqId + 1) t3))
    ∧ (∀ (n : Fin 2) m t1 t2 t3, Does (fun t => .delayResp t n m) isUp (fun s => s.regB (ethReg n 4) 0 = true ∧ s.time.reqAt = some (m.seqId, t3) ∧ s.time.lastT2 = some (t1, t2) ∧ (s.count (ethReg n 0x20)).fromMaster n m = true) fun s =>
        (s.count (ethReg n 0x20)).onTime fun u => { u with
          reqAt := none, delays := min (u.delays + 1) 2, pathDelay := if 1 ≤ u.delays then some (((t2 - t1) + (m.time - t3)) / 2) else u.pathDelay })
    ∧ Does .holdover isUp (fun s => s.ptpRuns = true ∧ (s.time.servo = .acquiring ∨ s.time.servo = .tracking ∨ s.time.servo = .locked ∨ s.time.servo = .stepHeld)) (fun s =>
        let v := s.dropStale.chooseMaster
        if v.time.ptpPort.isSome = true ∧ (v.time.ptpPort ≠ s.time.ptpPort ∨ v.time.chosen ≠ s.time.chosen) then v
        else v.setServo (v.idleServo (if v.time.valid then .holdover else .listening)))
    ∧ Does .offsetBroadcast isUp (fun s => s.chain.manager = true ∧ s.workers ≠ []) (fun s => s.toWorkers ctlOffset (timeBytes (s.now + 50 * micro) ++ s64 s.newOffset))
    ∧ (∀ at_ v, Does .offsetApply isUp (fun s => s.time.apply = some (at_, v)) fun s => ((s.reach at_).onTime fun u => { u with offset := v, valid := true, apply := none }).timeStatus)

/-- Motion: a planning tick takes the limits that wait, moves a moving axis one step of its plan, runs a BLDC loop and makes the tick's checks (R408); an arrived move ends
with its alert, a rest of 200 ms goes to the holding current, a driver short and too many encoder errors fault the axis (R404, R405, R420, R429); homing ends at its stall
or limit and is counted (R415); a limit input in the axis' way trips it and chatter of more than eight edges in 100 ms is a fault, which ends 100 ms after the last edge
(R418); feedback edges count as their class says and an index corrects or marks the count (R420, R421). Completes (its conclusion is `exec i s = .next …`): planningTick,
moveDone, holdCurrent, driverShort, homeStall, homeDone, limitEdge, indexEvent, encoderFault, feedbackEdge, chatterQuiet. -/
def Obligations.MotionEvents : Prop :=
  let seen (p : Fin 8) (positive level : Bool) (s : State) : State := s.onAxis p fun a =>
    if positive then { a with limP := level == s.regB (mpReg p 4) 11, edgesP := (s.now :: a.edgesP.filter fun e => decide (s.now ≤ e + 100 * milli)).take 16 }
    else { a with limN := level == s.regB (mpReg p 4) 11, edgesN := (s.now :: a.edgesN.filter fun e => decide (s.now ≤ e + 100 * milli)).take 16 }
  (∀ p, Does (fun t => .planningTick t p) drivesOn (fun s => s.mpKind p ≠ 0 ∧ (s.axis p).gatesOff = false ∧ ((s.takeLims p).axis p).motion = .rest) fun s => (((s.takeLims p).bldcLoop p).tickChecks p).coverWatch.closeEnd)
    ∧ (∀ p, Does (fun t => .planningTick t p) drivesOn (fun s => s.mpKind p ≠ 0 ∧ (s.axis p).gatesOff = false ∧ ((s.takeLims p).axis p).motion ≠ .rest) fun s =>
        let v := s.takeLims p
        (((v.onAxis p fun x => x.step (v.lims p) (s32 (v.reg (mpReg p 0x24)))).bldcLoop p).tickChecks p).coverWatch.closeEnd)
    ∧ (∀ p, Does (fun t => .moveDone t p) drivesOn
        (fun s => ((s.axis p).motion = .position ∨ (s.axis p).motion = .velocity ∨ (s.axis p).motion = .stopping) ∧ (s.axis p).homeWhy = none ∧ (s.axis p).arrived = true) fun s =>
        ((s.axisRests p ((s.axis p).motion == .position)).moveDoneAlert p (if (s.axis p).motion = .stopping then 1 else 0)).closeEnd)
    ∧ (∀ p at_, Does (fun t => .holdCurrent t p) drivesOn (fun s => (s.axis p).motion = .rest ∧ (s.axis p).restAt = some at_ ∧ (s.axis p).gatesOff = false) fun s =>
        (s.reach (at_ + 200 * milli)).onAxis p fun a => { a with holding := true })
    ∧ (∀ p, Does (fun t => .driverShort t p) drivesOn (fun s => s.mpKind p ≠ 0 ∧ (s.axis p).gatesOff = false) fun s => (s.axisFault p 0x20).closeEnd)
    ∧ (∀ p, Does (fun t => .homeStall t p) drivesOn (fun s => (s.axis p).motion = .homing ∧ (s.axis p).stalled = false
          ∧ ((s.onAxis p fun a => { a with v := 0, a := 0, stalled := true, stallAt := s.now }).gangOf p).all (fun q => ((s.onAxis p fun a => { a with v := 0, a := 0, stalled := true, stallAt := s.now }).axis q).stalled) = false)
        fun s => (s.onAxis p fun a => { a with v := 0, a := 0, stalled := true, stallAt := s.now }).closeEnd)
    ∧ (∀ p, Does (fun t => .homeDone t p) drivesOn (fun s => (s.axis p).arrived = true ∧ (s.axis p).motion = .backoff) fun s =>
        (((s.rings fun r => { r with homings := updAt r.homings p.val fun v => min (v + 1) 0xFFFFFFFF }).axisRests p true).homeDoneAlert p 0).closeEnd)
    ∧ (∀ p w, Does (fun t => .homeDone t p) drivesOn (fun s => (s.axis p).arrived = true ∧ (s.axis p).motion = .stopping ∧ (s.axis p).homeWhy = some w) fun s =>
        (((s.axisRests p false).onAxis p fun a => { a with homed := false }).homeDoneAlert p w).closeEnd)
    ∧ (∀ p level, Does (fun t => .limitEdge t p true level) drivesOn (fun s => s.regB (mpReg p 4) 10 = false) fun s =>
        (seen p true level s).closeEnd)
    ∧ (∀ p level, Does (fun t => .limitEdge t p false level) drivesOn (fun s => s.regB (mpReg p 4) 10 = false) fun s =>
        (seen p false level s).closeEnd)
    ∧ (∀ p positive level, Does (fun t => .limitEdge t p positive level) drivesOn
        (fun s => s.regB (mpReg p 4) 10 = true ∧ s.mpKind p ≠ 0 ∧ 8 < (if positive then ((seen p positive level s).axis p).edgesP else ((seen p positive level s).axis p).edgesN).length ∧ 0x25 ∉ (s.axis p).faults) fun s =>
        ((seen p positive level s).axisFault p 0x25).closeEnd)
    ∧ (∀ p positive, Does (fun t => .limitEdge t p positive (!positive)) drivesOn
        (fun s => s.regB (mpReg p 4) 10 = true ∧ s.mpKind p ≠ 0 ∧ s.regB (mpReg p 4) 11 = !positive ∧ (s.axis p).edgesP = [] ∧ (s.axis p).edgesN = [] ∧ (s.axis p).moving = true
          ∧ (if positive then 0 < (s.axis p).dir else (s.axis p).dir < 0)) fun s => ((seen p positive (!positive) s).limitTrip p).closeEnd)
    ∧ (∀ p positive, Does (fun t => .chatterQuiet t p positive) isUp (fun s => 0x25 ∈ (s.axis p).faults ∧ s.ackPending (.motor p) = false
          ∧ ∀ e ∈ (s.axis p).edgesN ++ (s.axis p).edgesP, e + 100 * milli ≤ (s.reach (((if positive then (s.axis p).edgesP else (s.axis p).edgesN).head?).getD 0 + 100 * milli)).now) fun s =>
        ((s.reach (((if positive then (s.axis p).edgesP else (s.axis p).edgesN).head?).getD 0 + 100 * milli)).onAxis p fun a => { a with faults := a.faults.filter (· != 0x25) }).settle (.motor p))
    ∧ (∀ f quad, Does (fun t => .indexEvent t f quad) drivesOn (fun s => s.regF (fbReg f 0) 0 2 = 0 ∧ ((s.feed f).refArmed = true ∨ (s.feed f).ref = none)) fun s =>
        s.onFeed f fun x => { x with errs := 0, revFrom := s.fbCount f, ref := if x.refArmed then some (s.fbCount f) else x.ref, refArmed := false })
    ∧ (∀ f r, Does (fun t => .indexEvent t f false) drivesOn
        (fun s => s.regF (fbReg f 0) 0 2 = 0 ∧ (s.feed f).refArmed = false ∧ (s.feed f).ref = some r ∧ (s.reg (fbReg f 4)).toNat ≠ 0
          ∧ s.fbCount f ≠ r + roundHalfAway (s.fbCount f - r) (s.reg (fbReg f 4)).toNat * (s.reg (fbReg f 4)).toNat
          ∧ (s.fbCount f - (r + roundHalfAway (s.fbCount f - r) (s.reg (fbReg f 4)).toNat * (s.reg (fbReg f 4)).toNat)).natAbs ≤ s.regF (fbReg f 0) 12 4) fun s =>
        let c := s.fbCount f
        let e := r + roundHalfAway (c - r) (s.reg (fbReg f 4)).toNat * (s.reg (fbReg f 4)).toNat
        let v := (s.onFeed f fun x => { x with errs := 0, revFrom := c, ref := if x.refArmed then some c else x.ref, refArmed := false }).setReg (fbReg f 8) (wordOfInt e)
        ((v.count16 (fbReg f 0x18) 0).setF (fbReg f 0x18) 16 16 (unsignedOf 16 (e - c))).note 0x0B80 0 0 [1, f] (leBytes 1 f ++ leBytes 3 0 ++ leBytes 4 (unsignedOf 32 (e - c))))
    ∧ (∀ f, Does (fun t => .encoderFault t f) drivesOn (fun s => s.regF (fbReg f 0) 16 8 < (s.feed f).errs) fun s =>
        ((s.axesOf f).foldl (fun st p => st.axisFault p 0x23) (s.onFeed f fun x => { x with errs := 0 })).closeEnd)
    ∧ (∀ f a b z, Does (fun t => .feedbackEdge t f a b z false) drivesOn (fun _ => True) fun s => s.fbError f 0x14)
    ∧ (∀ f a b z, Does (fun t => .feedbackEdge t f a b z true) drivesOn (fun s => s.regF (fbReg f 0) 0 2 = 1 ∧ s.regB (fbReg f 0) 11 = false ∧ (s.feed f).a = false ∧ a = true
          ∧ ((s.onFeed f fun x => { x with a := a, b := b, z := z }).setReg (fbReg f 0x1C) (BitVec.ofNat 32 (bit a + 2 * bit b + 4 * bit z))).regF (fbReg f 0) 0 2 = 1) fun s =>
        ((s.onFeed f fun x => { x with a := a, b := b, z := z }).setReg (fbReg f 0x1C) (BitVec.ofNat 32 (bit a + 2 * bit b + 4 * bit z))).tooth f)

/-- Lights: a light window opens at its time and restarts the phase of the channels that follow it, and closes after its length (R438, R442); a temperature conversion sets
each channel's factor (R439); a short, an open and a missed proving pulse fault or unverify a channel, a good one confirms it (R435, R444, R445); an adjacency step passes
the channel or faults it with its neighbours (R446). The recorder: a page is committed when one is due and takes a token; each second brings a token up to the burst and
counts in the Rings; the Rings are committed every ten minutes since start-up; every 65,536 eras a mark is written; staging that has been written is done (R464, R465,
R468, R472). Completes (its conclusion is `exec i s = .next …`): windowStart, windowEnd, ntcConversion, ledShort, ledOpen, provingPulse, adjacencyStep, pageCommit,
tokenAccrual, ringsCommit, eraMark, stagingWriteComplete. -/
def Obligations.LightAndRecorderEvents : Prop :=
  ((∀ n w, Does (fun t => .windowStart t n) drivesOn (fun s => (s.joist n).windows.find? (fun w => !w.running) = some w) fun s =>
      leds16.foldl (fun st c => if st.ledOn c && st.ledPhased c && st.headLane (st.ledLane c) == n then st.onLed c fun l => { l with pwmStart := w.start } else st)
        ((s.reach w.start).onJoist n fun j => { j with windows := j.windows.map fun x => if x = w then { x with running := true } else x }))
    ∧ (∀ n w, Does (fun t => .windowEnd t n) drivesOn (fun s => (s.joist n).windows.find? (fun w => w.running) = some w) fun s =>
        ((s.reach (w.start + w.dur)).onJoist n fun j => { j with windows := j.windows.filter fun x => x != w }).endWindow n)
    ∧ (∀ ohms, Always (fun t => .ntcConversion t ohms) drivesOn fun s =>
        let temps := tabulate 4 fun k => (ohms.getD k none).bind fun r => ntcTemp (s.reg (0x07802020 + 4 * k)) r
        leds16.foldl (fun st c => st.onLed c fun l => { l with factor := st.ledFactor c (temps.getD (st.ledNtc c) none) })
          ((List.range 4).foldl (fun st k => st.ntcInput k (temps.getD k none)) s))
    ∧ (∀ c, Does (fun t => .ledShort t c) drivesOn (fun s => s.ledEmits c = true) fun s => s.unitFault (.led c) stFault 0x30)
    ∧ (∀ c, Does (fun t => .ledOpen t c) drivesOn (fun s => s.ledEmits c = true ∧ s.ledBrief c = false ∧ 0x31 ∉ (s.led c).faults) fun s =>
        (s.onLed c fun l => { l with faults := l.faults ++ [0x31] }).unitFault (.led c) stFault 0x31)
    ∧ (∀ c slot, Does (fun t => .provingPulse t c slot true) drivesOn (fun s => s.ledOn c = true ∧ s.ledOff c = false ∧ s.ledProves c = false ∧ s.mode.mode.driveOn = true) fun s =>
        (s.onLed c fun l => { l with openOk := true }).ledConfirm c)
    ∧ (∀ c, Does (fun t => .provingPulse t c true true) drivesOn (fun s => s.ledOn c = true ∧ s.ledOff c = false ∧ s.ledProves c = true ∧ s.ledShut c = false ∧ s.stepFirst c = false ∧ s.mode.mode.driveOn = true) fun s =>
        let v := s.reach ((s.led c).provedAt + second)
        (((v.onLed c fun l => { l with provedAt := v.now }).count (ledReg c 0x18)).onLed c fun l => { l with openOk := true, faults := l.faults.filter (· != 0x31) }).ledConfirm c)
    ∧ (∀ c pass, Does (fun t => .provingPulse t c true pass) drivesOn (fun s => s.ledOn c = true ∧ s.ledOff c = false ∧ s.ledProves c = true ∧ (s.ledShut c = true ∨ s.stepFirst c = true)) fun s => s)
    ∧ (∀ c pass, Does (fun t => .provingPulse t c false pass) drivesOn (fun s => s.ledOn c = true ∧ s.ledOff c = false ∧ s.ledProves c = true ∧ s.mode.mode.driveOn = true) fun s =>
        let v := s.reach ((s.led c).provedAt + second)
        let w := v.onLed c fun l => { l with provedAt := v.now }
        let x := if w.unitState (.led c) = stOk then w.setUnit (.led c) stUnverified else w
        x.raise 0x0C02 1 0 [2, c] (leBytes 1 c ++ leBytes 3 0 ++ leBytes 4 (x.ledOnNs c)))
    ∧ (∀ c : Fin 16, Does (fun t => .adjacencyStep t c ⟨true, true⟩) drivesOn (fun s => c.val ∈ s.lights.testing ∧ s.mode.mode.driveOn = true) fun s =>
        let near := leds16.filter fun d => d.val + 1 == c.val || d.val == c.val + 1
        let v := (c :: near).foldl (fun st d => (st.onLed d fun l => { l with faults := l.faults.filter (· != 0x33) ++ [0x33] }).unitFault (.led d) stFault 0x33)
          (s.onLights fun l => { l with testing := l.testing.filter (· != c.val) })
        let w := v.onLights fun l => { l with found := ((c :: near).map fun d => 2 ^ d.val).foldl Nat.lor l.found }
        w.raise 0x0C01 2 0x33 [2] (leBytes 2 w.lights.found ++ leBytes 2 0))
    ∧ (∀ c : Fin 16, Does (fun t => .adjacencyStep t c ⟨false, false⟩) drivesOn (fun s => c.val ∈ s.lights.testing ∧ s.mode.mode.driveOn = true) fun s =>
        ((s.onLights fun l => { l with testing := l.testing.filter (· != c.val) }).onLed c fun l => { l with adjOk := true, faults := l.faults.filter (· != 0x33) }).ledConfirm c))
  ∧ (Does .pageCommit isUp (fun s => s.pageDue = true ∧ 0 < s.tally.tokens) (fun s => (s.commitOldest 1).onTally fun t => { t with tokens := t.tokens - 1 })
    ∧ (∀ v, Does .tokenAccrual isUp (fun s =>
          ((((s.onTally fun t => { t with tokens := min (t.tokens + 1) (max t.tokens s.burst) }).rings fun r => { r with hubSecs := r.hubSecs + 1 }).ringHist 1
            (centi (signed 16 (regView ((s.onTally fun t => { t with tokens := min (t.tokens + 1) (max t.tokens s.burst) }).rings fun r => { r with hubSecs := r.hubSecs + 1 }) 0x0B00001C).toNat)))).hottest = some v) fun s =>
        let w := (s.onTally fun t => { t with tokens := min (t.tokens + 1) (max t.tokens s.burst) }).rings fun r => { r with hubSecs := r.hubSecs + 1 }
        (w.ringHist 1 (centi (signed 16 (regView w 0x0B00001C).toNat))).ringHist 2 v)
    ∧ Always .ringsCommit isUp (fun s =>
        (s.reach (s.power.startupEnd + 600 * second * ((s.tally.rings.commitAt - s.power.startupEnd) / (600 * second) + 1))).ringsWrite.commitAll)
    ∧ Always .eraMark isUp (fun s => (s.reach ((s.tally.lastEra / 65536 + 1) * 65536 * eraLen)).eraMark 1)
    ∧ Does .stagingWriteComplete isUp (fun s => s.tally.writing ≠ none) (fun s => s.stagingDone.reportLost)
    ∧ Does .stagingWriteComplete isUp (fun s => s.tally.writing = none) (fun s => s))
end

