-- ==== Sys2Proof/Laws/Memory.lean ====
section
/-! SUPPORT. Memory keeps its one form under every operation, and what a byte reads after a write. -/

namespace Sys2Proof.Machine

open Sys2Proof

/-! ## The form as a statement about all pairs -/

theorem Memory.wf_cons (a : Nat) (v : Byte) (m : List Host.Cell) :
    Memory.wf ((a, v) :: m) = true ↔ v ≠ memDefault ∧ (∀ c ∈ m, a < c.1) ∧ Memory.wf m = true := by
  induction m generalizing a v with
  | nil => simp [Memory.wf]
  | cons c m ih =>
    obtain ⟨b, w⟩ := c
    simp only [Memory.wf, Bool.and_eq_true, decide_eq_true_eq, bne_iff_ne, ne_eq, List.mem_cons, forall_eq_or_imp]
    constructor
    · rintro ⟨⟨h1, h2⟩, h3⟩
      refine ⟨h2, ⟨h1, fun c hc => ?_⟩, h3⟩
      exact Nat.lt_trans h1 (((ih b w).mp h3).2.1 c hc)
    · rintro ⟨h2, ⟨h1, -⟩, h3⟩
      exact ⟨⟨h1, h2⟩, h3⟩

theorem Memory.putKey_above (k : Nat) (v : Byte) (b : Nat) (m : List Host.Cell) (hb : b < k) (h : ∀ c ∈ m, b < c.1) :
    ∀ c ∈ putKey k v memDefault m, b < c.1 := by
  induction m with
  | nil => unfold putKey; split <;> simp [hb]
  | cons e m ih =>
    obtain ⟨k', v'⟩ := e
    have hm : ∀ c ∈ m, b < c.1 := fun c hc => h c (List.mem_cons_of_mem _ hc)
    have hk : b < k' := h (k', v') List.mem_cons_self
    unfold putKey
    split_ifs <;> try simp only [List.mem_cons, forall_eq_or_imp]
    all_goals first
      | exact ⟨hk, ih hm⟩ | exact hm | exact ⟨hb, hm⟩ | exact ⟨hk, hm⟩ | exact ⟨hb, hk, hm⟩

/-- A byte written keeps the form. -/
theorem Memory.wf_write (m : List Host.Cell) (a : Nat) (v : Byte) (h : Memory.wf m = true) : Memory.wf (Memory.write m a v) = true := by
  unfold Memory.write
  induction m with
  | nil => unfold putKey; split <;> simp_all [Memory.wf]
  | cons e m ih =>
    obtain ⟨k', v'⟩ := e
    obtain ⟨h1, h2, h3⟩ := (Memory.wf_cons k' v' m).mp h
    unfold putKey
    split_ifs with c1 c2 c3 c4
    · exact (Memory.wf_cons _ _ _).mpr ⟨h1, Memory.putKey_above a v k' m c1 h2, ih h3⟩
    · exact h3
    · exact (Memory.wf_cons _ _ _).mpr ⟨c3, c2 ▸ h2, h3⟩
    · exact h
    · refine (Memory.wf_cons _ _ _).mpr ⟨c4, ?_, h⟩
      have : a < k' := by omega
      simp only [List.mem_cons, forall_eq_or_imp]
      exact ⟨this, fun c hc => Nat.lt_trans this (h2 c hc)⟩

/-- Bytes written keep the form. -/
theorem Memory.wf_writes (bs : List Byte) : ∀ (m : List Host.Cell) (a : Nat), Memory.wf m = true → Memory.wf (Memory.writes m a bs) = true := by
  induction bs with
  | nil => intro m a h; exact h
  | cons b r ih => intro m a h; exact ih _ _ (Memory.wf_write m a b h)

/-- Erasing keeps the form. -/
theorem Memory.wf_filter (f : Host.Cell → Bool) (m : List Host.Cell) (h : Memory.wf m = true) : Memory.wf (m.filter f) = true := by
  induction m with
  | nil => rfl
  | cons e m ih =>
    obtain ⟨k, v⟩ := e
    obtain ⟨h1, h2, h3⟩ := (Memory.wf_cons k v m).mp h
    rw [List.filter_cons]
    split
    · exact (Memory.wf_cons _ _ _).mpr ⟨h1, fun c hc => h2 c (List.mem_filter.mp hc).1, ih h3⟩
    · exact ih h3

theorem Memory.wf_erase (m : List Host.Cell) (a n : Nat) (h : Memory.wf m = true) : Memory.wf (Memory.erase m a n) = true :=
  Memory.wf_filter _ m h

/-- A write of a command keeps the form, whatever words in error it meets (R527). -/
theorem State.writeMem_wf (s : State) (a : Nat) (bs : List Byte) (h : Memory.wf s.mem = true) : Memory.wf (s.writeMem a bs).mem = true := by
  have key : ∀ (l : List Nat) (m : List Host.Cell), Memory.wf m = true →
      Memory.wf (l.foldl (fun m' w => Memory.writes m' w (Memory.reads s.mem w (eccLen w))) m) = true := by
    intro l
    induction l with
    | nil => intro m hm; exact hm
    | cons w l ih => intro m hm; exact ih _ (Memory.wf_writes _ _ _ hm)
  exact key _ _ (Memory.wf_writes _ _ _ h)

/-- The memory and the nonvolatile areas right after reset have the form. -/
theorem reset_memories : Memory.wf State.reset.mem = true ∧ Memory.wf State.reset.nv = true := ⟨rfl, rfl⟩

/-! ## Reading after one write -/

/-- What one key reads after another was given a value, in a list whose keys rise. -/
theorem getKey_below {α : Type} (k : Nat) (d : α) (l : List (Nat × α)) (h : ∀ c ∈ l, k < c.1) : getKey k d l = d := by
  induction l with
  | nil => rfl
  | cons e l ih =>
    obtain ⟨k', v'⟩ := e
    have hk : k < k' := h (k', v') List.mem_cons_self
    unfold getKey
    rw [if_neg (by omega)]
    exact ih fun c hc => h c (List.mem_cons_of_mem _ hc)

/-- A byte written is read back. -/
theorem Memory.read_write_same (m : List Host.Cell) (a : Nat) (v : Byte) (h : Memory.wf m = true) : Memory.read (Memory.write m a v) a = v := by
  unfold Memory.read Memory.write
  induction m with
  | nil => unfold putKey; split <;> simp_all [getKey]
  | cons e m ih =>
    obtain ⟨k', v'⟩ := e
    obtain ⟨-, h2, h3⟩ := (Memory.wf_cons k' v' m).mp h
    unfold putKey
    split_ifs with c1 c2 c3 c4
    · unfold getKey; rw [if_neg (by omega)]; exact ih h3
    · rw [getKey_below a memDefault m (c2 ▸ h2), c3]
    · simp [getKey]
    · unfold getKey
      rw [if_neg (by omega), getKey_below a memDefault m fun c hc => Nat.lt_trans (by omega) (h2 c hc), c4]
    · simp [getKey]

/-- Another byte is as it was. -/
theorem Memory.read_write_other (m : List Host.Cell) (a b : Nat) (v : Byte) (hab : a ≠ b) : Memory.read (Memory.write m a v) b = Memory.read m b := by
  unfold Memory.read Memory.write
  induction m with
  | nil => unfold putKey; split <;> simp [getKey, hab]
  | cons e m ih =>
    obtain ⟨k', v'⟩ := e
    unfold putKey
    split_ifs with c1 c2 c3 c4
    · unfold getKey; split_ifs <;> first | rfl | exact ih
    · subst c2; conv => rhs; unfold getKey
      rw [if_neg hab]
    · subst c2; unfold getKey; rw [if_neg hab, if_neg hab]
    · rfl
    · conv => lhs; unfold getKey
      rw [if_neg hab]

end Sys2Proof.Machine
end

