-- ==== Sys2Proof/Laws/State.lean ====
section
/-! SUPPORT. What each update of the state leaves in each field; true by definition. -/

namespace Sys2Proof.Machine

open Sys2Proof

/-! ## A command's time comes (R16) -/

@[simp] theorem State.touch_pending (s : State) (t : Nat) : (s.touch t).pending = s.pending := rfl
@[simp] theorem State.touch_now (s : State) (t : Nat) : (s.touch t).now = max s.now t := rfl
@[simp] theorem State.touch_draws (s : State) (t : Nat) : (s.touch t).draws = s.draws := rfl
@[simp] theorem State.touch_out (s : State) (t : Nat) : (s.touch t).out = [] := rfl
@[simp] theorem State.touch_regs (s : State) (t : Nat) : (s.touch t).regs = s.regs := rfl
@[simp] theorem State.touch_held (s : State) (t : Nat) : (s.touch t).held = s.held := rfl
@[simp] theorem State.touch_blockOn (s : State) (t : Nat) : (s.touch t).blockOn = false := rfl
@[simp] theorem State.touch_mem (s : State) (t : Nat) : (s.touch t).mem = s.mem := rfl
@[simp] theorem State.touch_nv (s : State) (t : Nat) : (s.touch t).nv = s.nv := rfl
@[simp] theorem State.touch_blobOk (s : State) (t : Nat) : (s.touch t).blobOk = s.blobOk := rfl
@[simp] theorem State.touch_ue (s : State) (t : Nat) : (s.touch t).ue = s.ue := rfl
@[simp] theorem State.touch_mode (s : State) (t : Nat) : (s.touch t).mode = s.mode := rfl
@[simp] theorem State.touch_safety (s : State) (t : Nat) : (s.touch t).safety = s.safety := rfl
@[simp] theorem State.touch_power (s : State) (t : Nat) : (s.touch t).power = s.power := rfl
@[simp] theorem State.touch_resume (s : State) (t : Nat) : (s.touch t).resume = s.resume := rfl
@[simp] theorem State.touch_front (s : State) (t : Nat) : (s.touch t).front = s.front := rfl
@[simp] theorem State.touch_layers (s : State) (t : Nat) : (s.touch t).layers = s.layers := rfl
@[simp] theorem State.touch_truss (s : State) (t : Nat) : (s.touch t).truss = s.truss := rfl
@[simp] theorem State.touch_chans (s : State) (t : Nat) : (s.touch t).chans = s.chans := rfl
@[simp] theorem State.touch_kerfs (s : State) (t : Nat) : (s.touch t).kerfs = s.kerfs := rfl
@[simp] theorem State.touch_rasters (s : State) (t : Nat) : (s.touch t).rasters = s.rasters := rfl
@[simp] theorem State.touch_plumbs (s : State) (t : Nat) : (s.touch t).plumbs = s.plumbs := rfl
@[simp] theorem State.touch_grain (s : State) (t : Nat) : (s.touch t).grain = s.grain := rfl
@[simp] theorem State.touch_scribes (s : State) (t : Nat) : (s.touch t).scribes = s.scribes := rfl
@[simp] theorem State.touch_scribeIds (s : State) (t : Nat) : (s.touch t).scribeIds = s.scribeIds := rfl
@[simp] theorem State.touch_veneer (s : State) (t : Nat) : (s.touch t).veneer = s.veneer := rfl
@[simp] theorem State.touch_joists (s : State) (t : Nat) : (s.touch t).joists = s.joists := rfl
@[simp] theorem State.touch_up (s : State) (t : Nat) : (s.touch t).up = s.up := rfl
@[simp] theorem State.touch_down (s : State) (t : Nat) : (s.touch t).down = s.down := rfl
@[simp] theorem State.touch_chain (s : State) (t : Nat) : (s.touch t).chain = s.chain := rfl
@[simp] theorem State.touch_time (s : State) (t : Nat) : (s.touch t).time = s.time := rfl
@[simp] theorem State.touch_axes (s : State) (t : Nat) : (s.touch t).axes = s.axes := rfl
@[simp] theorem State.touch_feeds (s : State) (t : Nat) : (s.touch t).feeds = s.feeds := rfl
@[simp] theorem State.touch_lights (s : State) (t : Nat) : (s.touch t).lights = s.lights := rfl
@[simp] theorem State.touch_tally (s : State) (t : Nat) : (s.touch t).tally = s.tally := rfl
@[simp] theorem State.touch_sec (s : State) (t : Nat) : (s.touch t).sec = s.sec := rfl

/-! ## An interval has passed -/

@[simp] theorem State.reach_pending (s : State) (t : Nat) : (s.reach t).pending = s.pending := rfl
@[simp] theorem State.reach_now (s : State) (t : Nat) : (s.reach t).now = max s.now t := rfl
@[simp] theorem State.reach_draws (s : State) (t : Nat) : (s.reach t).draws = s.draws := rfl
@[simp] theorem State.reach_out (s : State) (t : Nat) : (s.reach t).out = s.out := rfl
@[simp] theorem State.reach_regs (s : State) (t : Nat) : (s.reach t).regs = s.regs := rfl
@[simp] theorem State.reach_held (s : State) (t : Nat) : (s.reach t).held = s.held := rfl
@[simp] theorem State.reach_blockOn (s : State) (t : Nat) : (s.reach t).blockOn = s.blockOn := rfl
@[simp] theorem State.reach_mem (s : State) (t : Nat) : (s.reach t).mem = s.mem := rfl
@[simp] theorem State.reach_nv (s : State) (t : Nat) : (s.reach t).nv = s.nv := rfl
@[simp] theorem State.reach_blobOk (s : State) (t : Nat) : (s.reach t).blobOk = s.blobOk := rfl
@[simp] theorem State.reach_ue (s : State) (t : Nat) : (s.reach t).ue = s.ue := rfl
@[simp] theorem State.reach_mode (s : State) (t : Nat) : (s.reach t).mode = s.mode := rfl
@[simp] theorem State.reach_safety (s : State) (t : Nat) : (s.reach t).safety = s.safety := rfl
@[simp] theorem State.reach_power (s : State) (t : Nat) : (s.reach t).power = s.power := rfl
@[simp] theorem State.reach_resume (s : State) (t : Nat) : (s.reach t).resume = s.resume := rfl
@[simp] theorem State.reach_front (s : State) (t : Nat) : (s.reach t).front = s.front := rfl
@[simp] theorem State.reach_layers (s : State) (t : Nat) : (s.reach t).layers = s.layers := rfl
@[simp] theorem State.reach_truss (s : State) (t : Nat) : (s.reach t).truss = s.truss := rfl
@[simp] theorem State.reach_chans (s : State) (t : Nat) : (s.reach t).chans = s.chans := rfl
@[simp] theorem State.reach_kerfs (s : State) (t : Nat) : (s.reach t).kerfs = s.kerfs := rfl
@[simp] theorem State.reach_rasters (s : State) (t : Nat) : (s.reach t).rasters = s.rasters := rfl
@[simp] theorem State.reach_plumbs (s : State) (t : Nat) : (s.reach t).plumbs = s.plumbs := rfl
@[simp] theorem State.reach_grain (s : State) (t : Nat) : (s.reach t).grain = s.grain := rfl
@[simp] theorem State.reach_scribes (s : State) (t : Nat) : (s.reach t).scribes = s.scribes := rfl
@[simp] theorem State.reach_scribeIds (s : State) (t : Nat) : (s.reach t).scribeIds = s.scribeIds := rfl
@[simp] theorem State.reach_veneer (s : State) (t : Nat) : (s.reach t).veneer = s.veneer := rfl
@[simp] theorem State.reach_joists (s : State) (t : Nat) : (s.reach t).joists = s.joists := rfl
@[simp] theorem State.reach_up (s : State) (t : Nat) : (s.reach t).up = s.up := rfl
@[simp] theorem State.reach_down (s : State) (t : Nat) : (s.reach t).down = s.down := rfl
@[simp] theorem State.reach_chain (s : State) (t : Nat) : (s.reach t).chain = s.chain := rfl
@[simp] theorem State.reach_time (s : State) (t : Nat) : (s.reach t).time = s.time := rfl
@[simp] theorem State.reach_axes (s : State) (t : Nat) : (s.reach t).axes = s.axes := rfl
@[simp] theorem State.reach_feeds (s : State) (t : Nat) : (s.reach t).feeds = s.feeds := rfl
@[simp] theorem State.reach_lights (s : State) (t : Nat) : (s.reach t).lights = s.lights := rfl
@[simp] theorem State.reach_tally (s : State) (t : Nat) : (s.reach t).tally = s.tally := rfl
@[simp] theorem State.reach_sec (s : State) (t : Nat) : (s.reach t).sec = s.sec := rfl

/-! ## What every command keeps -/

@[simp] theorem State.keep_pending (s : State) (u : State) : (s.keep u).pending = s.pending := rfl
@[simp] theorem State.keep_now (s : State) (u : State) : (s.keep u).now = max s.now u.now := rfl
@[simp] theorem State.keep_draws (s : State) (u : State) : (s.keep u).draws = u.draws := rfl
@[simp] theorem State.keep_out (s : State) (u : State) : (s.keep u).out = u.out := rfl
@[simp] theorem State.keep_regs (s : State) (u : State) : (s.keep u).regs = u.regs := rfl
@[simp] theorem State.keep_held (s : State) (u : State) : (s.keep u).held = u.held := rfl
@[simp] theorem State.keep_blockOn (s : State) (u : State) : (s.keep u).blockOn = u.blockOn := rfl
@[simp] theorem State.keep_mem (s : State) (u : State) : (s.keep u).mem = u.mem := rfl
@[simp] theorem State.keep_nv (s : State) (u : State) : (s.keep u).nv = u.nv := rfl
@[simp] theorem State.keep_blobOk (s : State) (u : State) : (s.keep u).blobOk = u.blobOk := rfl
@[simp] theorem State.keep_ue (s : State) (u : State) : (s.keep u).ue = u.ue := rfl
@[simp] theorem State.keep_mode (s : State) (u : State) : (s.keep u).mode = u.mode := rfl
@[simp] theorem State.keep_safety (s : State) (u : State) : (s.keep u).safety = u.safety := rfl
@[simp] theorem State.keep_power (s : State) (u : State) : (s.keep u).power = u.power := rfl
@[simp] theorem State.keep_resume (s : State) (u : State) : (s.keep u).resume = u.resume := rfl
@[simp] theorem State.keep_front (s : State) (u : State) : (s.keep u).front = u.front := rfl
@[simp] theorem State.keep_layers (s : State) (u : State) : (s.keep u).layers = u.layers := rfl
@[simp] theorem State.keep_truss (s : State) (u : State) : (s.keep u).truss = u.truss := rfl
@[simp] theorem State.keep_chans (s : State) (u : State) : (s.keep u).chans = u.chans := rfl
@[simp] theorem State.keep_kerfs (s : State) (u : State) : (s.keep u).kerfs = u.kerfs := rfl
@[simp] theorem State.keep_rasters (s : State) (u : State) : (s.keep u).rasters = u.rasters := rfl
@[simp] theorem State.keep_plumbs (s : State) (u : State) : (s.keep u).plumbs = u.plumbs := rfl
@[simp] theorem State.keep_grain (s : State) (u : State) : (s.keep u).grain = u.grain := rfl
@[simp] theorem State.keep_scribes (s : State) (u : State) : (s.keep u).scribes = u.scribes := rfl
@[simp] theorem State.keep_scribeIds (s : State) (u : State) : (s.keep u).scribeIds = u.scribeIds := rfl
@[simp] theorem State.keep_veneer (s : State) (u : State) : (s.keep u).veneer = u.veneer := rfl
@[simp] theorem State.keep_joists (s : State) (u : State) : (s.keep u).joists = u.joists := rfl
@[simp] theorem State.keep_up (s : State) (u : State) : (s.keep u).up = u.up := rfl
@[simp] theorem State.keep_down (s : State) (u : State) : (s.keep u).down = u.down := rfl
@[simp] theorem State.keep_chain (s : State) (u : State) : (s.keep u).chain = u.chain := rfl
@[simp] theorem State.keep_time (s : State) (u : State) : (s.keep u).time = u.time := rfl
@[simp] theorem State.keep_axes (s : State) (u : State) : (s.keep u).axes = u.axes := rfl
@[simp] theorem State.keep_feeds (s : State) (u : State) : (s.keep u).feeds = u.feeds := rfl
@[simp] theorem State.keep_lights (s : State) (u : State) : (s.keep u).lights = u.lights := rfl
@[simp] theorem State.keep_tally (s : State) (u : State) : (s.keep u).tally = u.tally := rfl
@[simp] theorem State.keep_sec (s : State) (u : State) : (s.keep u).sec = u.sec := rfl

/-! ## A register -/

@[simp] theorem State.setReg_pending (s : State) (a : Nat) (w : Word) : (s.setReg a w).pending = s.pending := rfl
@[simp] theorem State.setReg_now (s : State) (a : Nat) (w : Word) : (s.setReg a w).now = s.now := rfl
@[simp] theorem State.setReg_draws (s : State) (a : Nat) (w : Word) : (s.setReg a w).draws = s.draws := rfl
@[simp] theorem State.setReg_out (s : State) (a : Nat) (w : Word) : (s.setReg a w).out = s.out := rfl
@[simp] theorem State.setReg_regs (s : State) (a : Nat) (w : Word) : (s.setReg a w).regs = putKey a w (resetOf a) s.regs := rfl
@[simp] theorem State.setReg_held (s : State) (a : Nat) (w : Word) : (s.setReg a w).held = s.held := rfl
@[simp] theorem State.setReg_blockOn (s : State) (a : Nat) (w : Word) : (s.setReg a w).blockOn = s.blockOn := rfl
@[simp] theorem State.setReg_mem (s : State) (a : Nat) (w : Word) : (s.setReg a w).mem = s.mem := rfl
@[simp] theorem State.setReg_nv (s : State) (a : Nat) (w : Word) : (s.setReg a w).nv = s.nv := rfl
@[simp] theorem State.setReg_blobOk (s : State) (a : Nat) (w : Word) : (s.setReg a w).blobOk = s.blobOk := rfl
@[simp] theorem State.setReg_ue (s : State) (a : Nat) (w : Word) : (s.setReg a w).ue = s.ue := rfl
@[simp] theorem State.setReg_mode (s : State) (a : Nat) (w : Word) : (s.setReg a w).mode = s.mode := rfl
@[simp] theorem State.setReg_safety (s : State) (a : Nat) (w : Word) : (s.setReg a w).safety = s.safety := rfl
@[simp] theorem State.setReg_power (s : State) (a : Nat) (w : Word) : (s.setReg a w).power = s.power := rfl
@[simp] theorem State.setReg_resume (s : State) (a : Nat) (w : Word) : (s.setReg a w).resume = s.resume := rfl
@[simp] theorem State.setReg_front (s : State) (a : Nat) (w : Word) : (s.setReg a w).front = s.front := rfl
@[simp] theorem State.setReg_layers (s : State) (a : Nat) (w : Word) : (s.setReg a w).layers = s.layers := rfl
@[simp] theorem State.setReg_truss (s : State) (a : Nat) (w : Word) : (s.setReg a w).truss = s.truss := rfl
@[simp] theorem State.setReg_chans (s : State) (a : Nat) (w : Word) : (s.setReg a w).chans = s.chans := rfl
@[simp] theorem State.setReg_kerfs (s : State) (a : Nat) (w : Word) : (s.setReg a w).kerfs = s.kerfs := rfl
@[simp] theorem State.setReg_rasters (s : State) (a : Nat) (w : Word) : (s.setReg a w).rasters = s.rasters := rfl
@[simp] theorem State.setReg_plumbs (s : State) (a : Nat) (w : Word) : (s.setReg a w).plumbs = s.plumbs := rfl
@[simp] theorem State.setReg_grain (s : State) (a : Nat) (w : Word) : (s.setReg a w).grain = s.grain := rfl
@[simp] theorem State.setReg_scribes (s : State) (a : Nat) (w : Word) : (s.setReg a w).scribes = s.scribes := rfl
@[simp] theorem State.setReg_scribeIds (s : State) (a : Nat) (w : Word) : (s.setReg a w).scribeIds = s.scribeIds := rfl
@[simp] theorem State.setReg_veneer (s : State) (a : Nat) (w : Word) : (s.setReg a w).veneer = s.veneer := rfl
@[simp] theorem State.setReg_joists (s : State) (a : Nat) (w : Word) : (s.setReg a w).joists = s.joists := rfl
@[simp] theorem State.setReg_up (s : State) (a : Nat) (w : Word) : (s.setReg a w).up = s.up := rfl
@[simp] theorem State.setReg_down (s : State) (a : Nat) (w : Word) : (s.setReg a w).down = s.down := rfl
@[simp] theorem State.setReg_chain (s : State) (a : Nat) (w : Word) : (s.setReg a w).chain = s.chain := rfl
@[simp] theorem State.setReg_time (s : State) (a : Nat) (w : Word) : (s.setReg a w).time = s.time := rfl
@[simp] theorem State.setReg_axes (s : State) (a : Nat) (w : Word) : (s.setReg a w).axes = s.axes := rfl
@[simp] theorem State.setReg_feeds (s : State) (a : Nat) (w : Word) : (s.setReg a w).feeds = s.feeds := rfl
@[simp] theorem State.setReg_lights (s : State) (a : Nat) (w : Word) : (s.setReg a w).lights = s.lights := rfl
@[simp] theorem State.setReg_tally (s : State) (a : Nat) (w : Word) : (s.setReg a w).tally = s.tally := rfl
@[simp] theorem State.setReg_sec (s : State) (a : Nat) (w : Word) : (s.setReg a w).sec = s.sec := rfl

/-! ## An output -/

@[simp] theorem State.emit_pending (s : State) (o : Out) : (s.emit o).pending = s.pending := rfl
@[simp] theorem State.emit_now (s : State) (o : Out) : (s.emit o).now = s.now := rfl
@[simp] theorem State.emit_draws (s : State) (o : Out) : (s.emit o).draws = s.draws := rfl
@[simp] theorem State.emit_out (s : State) (o : Out) : (s.emit o).out = s.out ++ [o] := rfl
@[simp] theorem State.emit_regs (s : State) (o : Out) : (s.emit o).regs = s.regs := rfl
@[simp] theorem State.emit_held (s : State) (o : Out) : (s.emit o).held = s.held := rfl
@[simp] theorem State.emit_blockOn (s : State) (o : Out) : (s.emit o).blockOn = s.blockOn := rfl
@[simp] theorem State.emit_mem (s : State) (o : Out) : (s.emit o).mem = s.mem := rfl
@[simp] theorem State.emit_nv (s : State) (o : Out) : (s.emit o).nv = s.nv := rfl
@[simp] theorem State.emit_blobOk (s : State) (o : Out) : (s.emit o).blobOk = s.blobOk := rfl
@[simp] theorem State.emit_ue (s : State) (o : Out) : (s.emit o).ue = s.ue := rfl
@[simp] theorem State.emit_mode (s : State) (o : Out) : (s.emit o).mode = s.mode := rfl
@[simp] theorem State.emit_safety (s : State) (o : Out) : (s.emit o).safety = s.safety := rfl
@[simp] theorem State.emit_power (s : State) (o : Out) : (s.emit o).power = s.power := rfl
@[simp] theorem State.emit_resume (s : State) (o : Out) : (s.emit o).resume = s.resume := rfl
@[simp] theorem State.emit_front (s : State) (o : Out) : (s.emit o).front = s.front := rfl
@[simp] theorem State.emit_layers (s : State) (o : Out) : (s.emit o).layers = s.layers := rfl
@[simp] theorem State.emit_truss (s : State) (o : Out) : (s.emit o).truss = s.truss := rfl
@[simp] theorem State.emit_chans (s : State) (o : Out) : (s.emit o).chans = s.chans := rfl
@[simp] theorem State.emit_kerfs (s : State) (o : Out) : (s.emit o).kerfs = s.kerfs := rfl
@[simp] theorem State.emit_rasters (s : State) (o : Out) : (s.emit o).rasters = s.rasters := rfl
@[simp] theorem State.emit_plumbs (s : State) (o : Out) : (s.emit o).plumbs = s.plumbs := rfl
@[simp] theorem State.emit_grain (s : State) (o : Out) : (s.emit o).grain = s.grain := rfl
@[simp] theorem State.emit_scribes (s : State) (o : Out) : (s.emit o).scribes = s.scribes := rfl
@[simp] theorem State.emit_scribeIds (s : State) (o : Out) : (s.emit o).scribeIds = s.scribeIds := rfl
@[simp] theorem State.emit_veneer (s : State) (o : Out) : (s.emit o).veneer = s.veneer := rfl
@[simp] theorem State.emit_joists (s : State) (o : Out) : (s.emit o).joists = s.joists := rfl
@[simp] theorem State.emit_up (s : State) (o : Out) : (s.emit o).up = s.up := rfl
@[simp] theorem State.emit_down (s : State) (o : Out) : (s.emit o).down = s.down := rfl
@[simp] theorem State.emit_chain (s : State) (o : Out) : (s.emit o).chain = s.chain := rfl
@[simp] theorem State.emit_time (s : State) (o : Out) : (s.emit o).time = s.time := rfl
@[simp] theorem State.emit_axes (s : State) (o : Out) : (s.emit o).axes = s.axes := rfl
@[simp] theorem State.emit_feeds (s : State) (o : Out) : (s.emit o).feeds = s.feeds := rfl
@[simp] theorem State.emit_lights (s : State) (o : Out) : (s.emit o).lights = s.lights := rfl
@[simp] theorem State.emit_tally (s : State) (o : Out) : (s.emit o).tally = s.tally := rfl
@[simp] theorem State.emit_sec (s : State) (o : Out) : (s.emit o).sec = s.sec := rfl

/-! ## The part front -/

@[simp] theorem State.onFront_pending (s : State) (f : Front → Front) : (s.onFront f).pending = s.pending := rfl
@[simp] theorem State.onFront_now (s : State) (f : Front → Front) : (s.onFront f).now = s.now := rfl
@[simp] theorem State.onFront_regs (s : State) (f : Front → Front) : (s.onFront f).regs = s.regs := rfl
@[simp] theorem State.onFront_mem (s : State) (f : Front → Front) : (s.onFront f).mem = s.mem := rfl
@[simp] theorem State.onFront_mode (s : State) (f : Front → Front) : (s.onFront f).mode = s.mode := rfl
@[simp] theorem State.onFront_safety (s : State) (f : Front → Front) : (s.onFront f).safety = s.safety := rfl
@[simp] theorem State.onFront_power (s : State) (f : Front → Front) : (s.onFront f).power = s.power := rfl
@[simp] theorem State.onFront_front (s : State) (f : Front → Front) : (s.onFront f).front = f s.front := rfl

/-! ## The part safety -/

@[simp] theorem State.onSafety_pending (s : State) (f : Safety → Safety) : (s.onSafety f).pending = s.pending := rfl
@[simp] theorem State.onSafety_now (s : State) (f : Safety → Safety) : (s.onSafety f).now = s.now := rfl
@[simp] theorem State.onSafety_regs (s : State) (f : Safety → Safety) : (s.onSafety f).regs = s.regs := rfl
@[simp] theorem State.onSafety_mem (s : State) (f : Safety → Safety) : (s.onSafety f).mem = s.mem := rfl
@[simp] theorem State.onSafety_mode (s : State) (f : Safety → Safety) : (s.onSafety f).mode = s.mode := rfl
@[simp] theorem State.onSafety_safety (s : State) (f : Safety → Safety) : (s.onSafety f).safety = f s.safety := rfl
@[simp] theorem State.onSafety_power (s : State) (f : Safety → Safety) : (s.onSafety f).power = s.power := rfl
@[simp] theorem State.onSafety_front (s : State) (f : Safety → Safety) : (s.onSafety f).front = s.front := rfl

/-! ## The part power -/

@[simp] theorem State.onPower_pending (s : State) (f : Power → Power) : (s.onPower f).pending = s.pending := rfl
@[simp] theorem State.onPower_now (s : State) (f : Power → Power) : (s.onPower f).now = s.now := rfl
@[simp] theorem State.onPower_regs (s : State) (f : Power → Power) : (s.onPower f).regs = s.regs := rfl
@[simp] theorem State.onPower_mem (s : State) (f : Power → Power) : (s.onPower f).mem = s.mem := rfl
@[simp] theorem State.onPower_mode (s : State) (f : Power → Power) : (s.onPower f).mode = s.mode := rfl
@[simp] theorem State.onPower_safety (s : State) (f : Power → Power) : (s.onPower f).safety = s.safety := rfl
@[simp] theorem State.onPower_power (s : State) (f : Power → Power) : (s.onPower f).power = f s.power := rfl
@[simp] theorem State.onPower_front (s : State) (f : Power → Power) : (s.onPower f).front = s.front := rfl

/-! ## The part mode -/

@[simp] theorem State.onMode_pending (s : State) (f : ModeCtl → ModeCtl) : (s.onMode f).pending = s.pending := rfl
@[simp] theorem State.onMode_now (s : State) (f : ModeCtl → ModeCtl) : (s.onMode f).now = s.now := rfl
@[simp] theorem State.onMode_regs (s : State) (f : ModeCtl → ModeCtl) : (s.onMode f).regs = s.regs := rfl
@[simp] theorem State.onMode_mem (s : State) (f : ModeCtl → ModeCtl) : (s.onMode f).mem = s.mem := rfl
@[simp] theorem State.onMode_mode (s : State) (f : ModeCtl → ModeCtl) : (s.onMode f).mode = f s.mode := rfl
@[simp] theorem State.onMode_safety (s : State) (f : ModeCtl → ModeCtl) : (s.onMode f).safety = s.safety := rfl
@[simp] theorem State.onMode_power (s : State) (f : ModeCtl → ModeCtl) : (s.onMode f).power = s.power := rfl
@[simp] theorem State.onMode_front (s : State) (f : ModeCtl → ModeCtl) : (s.onMode f).front = s.front := rfl

/-! ## The part layers -/

@[simp] theorem State.onLayers_pending (s : State) (f : Layers → Layers) : (s.onLayers f).pending = s.pending := rfl
@[simp] theorem State.onLayers_now (s : State) (f : Layers → Layers) : (s.onLayers f).now = s.now := rfl
@[simp] theorem State.onLayers_regs (s : State) (f : Layers → Layers) : (s.onLayers f).regs = s.regs := rfl
@[simp] theorem State.onLayers_mem (s : State) (f : Layers → Layers) : (s.onLayers f).mem = s.mem := rfl
@[simp] theorem State.onLayers_mode (s : State) (f : Layers → Layers) : (s.onLayers f).mode = s.mode := rfl
@[simp] theorem State.onLayers_safety (s : State) (f : Layers → Layers) : (s.onLayers f).safety = s.safety := rfl
@[simp] theorem State.onLayers_power (s : State) (f : Layers → Layers) : (s.onLayers f).power = s.power := rfl
@[simp] theorem State.onLayers_front (s : State) (f : Layers → Layers) : (s.onLayers f).front = s.front := rfl
@[simp] theorem State.onLayers_layers (s : State) (f : Layers → Layers) : (s.onLayers f).layers = f s.layers := rfl

/-! ## The part veneer -/

@[simp] theorem State.onVeneer_pending (s : State) (f : Veneer → Veneer) : (s.onVeneer f).pending = s.pending := rfl
@[simp] theorem State.onVeneer_now (s : State) (f : Veneer → Veneer) : (s.onVeneer f).now = s.now := rfl
@[simp] theorem State.onVeneer_regs (s : State) (f : Veneer → Veneer) : (s.onVeneer f).regs = s.regs := rfl
@[simp] theorem State.onVeneer_mem (s : State) (f : Veneer → Veneer) : (s.onVeneer f).mem = s.mem := rfl
@[simp] theorem State.onVeneer_mode (s : State) (f : Veneer → Veneer) : (s.onVeneer f).mode = s.mode := rfl
@[simp] theorem State.onVeneer_safety (s : State) (f : Veneer → Veneer) : (s.onVeneer f).safety = s.safety := rfl
@[simp] theorem State.onVeneer_power (s : State) (f : Veneer → Veneer) : (s.onVeneer f).power = s.power := rfl
@[simp] theorem State.onVeneer_front (s : State) (f : Veneer → Veneer) : (s.onVeneer f).front = s.front := rfl
@[simp] theorem State.onVeneer_veneer (s : State) (f : Veneer → Veneer) : (s.onVeneer f).veneer = f s.veneer := rfl

/-! ## The part lights -/

@[simp] theorem State.onLights_pending (s : State) (f : Lights → Lights) : (s.onLights f).pending = s.pending := rfl
@[simp] theorem State.onLights_now (s : State) (f : Lights → Lights) : (s.onLights f).now = s.now := rfl
@[simp] theorem State.onLights_regs (s : State) (f : Lights → Lights) : (s.onLights f).regs = s.regs := rfl
@[simp] theorem State.onLights_mem (s : State) (f : Lights → Lights) : (s.onLights f).mem = s.mem := rfl
@[simp] theorem State.onLights_mode (s : State) (f : Lights → Lights) : (s.onLights f).mode = s.mode := rfl
@[simp] theorem State.onLights_safety (s : State) (f : Lights → Lights) : (s.onLights f).safety = s.safety := rfl
@[simp] theorem State.onLights_power (s : State) (f : Lights → Lights) : (s.onLights f).power = s.power := rfl
@[simp] theorem State.onLights_front (s : State) (f : Lights → Lights) : (s.onLights f).front = s.front := rfl
@[simp] theorem State.onLights_lights (s : State) (f : Lights → Lights) : (s.onLights f).lights = f s.lights := rfl

/-! ## The part tally -/

@[simp] theorem State.onTally_pending (s : State) (f : Tally → Tally) : (s.onTally f).pending = s.pending := rfl
@[simp] theorem State.onTally_now (s : State) (f : Tally → Tally) : (s.onTally f).now = s.now := rfl
@[simp] theorem State.onTally_regs (s : State) (f : Tally → Tally) : (s.onTally f).regs = s.regs := rfl
@[simp] theorem State.onTally_mem (s : State) (f : Tally → Tally) : (s.onTally f).mem = s.mem := rfl
@[simp] theorem State.onTally_mode (s : State) (f : Tally → Tally) : (s.onTally f).mode = s.mode := rfl
@[simp] theorem State.onTally_safety (s : State) (f : Tally → Tally) : (s.onTally f).safety = s.safety := rfl
@[simp] theorem State.onTally_power (s : State) (f : Tally → Tally) : (s.onTally f).power = s.power := rfl
@[simp] theorem State.onTally_front (s : State) (f : Tally → Tally) : (s.onTally f).front = s.front := rfl
@[simp] theorem State.onTally_tally (s : State) (f : Tally → Tally) : (s.onTally f).tally = f s.tally := rfl

/-! ## The part grain -/

@[simp] theorem State.onGrain_pending (s : State) (f : Grain → Grain) : (s.onGrain f).pending = s.pending := rfl
@[simp] theorem State.onGrain_now (s : State) (f : Grain → Grain) : (s.onGrain f).now = s.now := rfl
@[simp] theorem State.onGrain_regs (s : State) (f : Grain → Grain) : (s.onGrain f).regs = s.regs := rfl
@[simp] theorem State.onGrain_mem (s : State) (f : Grain → Grain) : (s.onGrain f).mem = s.mem := rfl
@[simp] theorem State.onGrain_mode (s : State) (f : Grain → Grain) : (s.onGrain f).mode = s.mode := rfl
@[simp] theorem State.onGrain_safety (s : State) (f : Grain → Grain) : (s.onGrain f).safety = s.safety := rfl
@[simp] theorem State.onGrain_power (s : State) (f : Grain → Grain) : (s.onGrain f).power = s.power := rfl
@[simp] theorem State.onGrain_front (s : State) (f : Grain → Grain) : (s.onGrain f).front = s.front := rfl
@[simp] theorem State.onGrain_grain (s : State) (f : Grain → Grain) : (s.onGrain f).grain = f s.grain := rfl

/-! ## The part time -/

@[simp] theorem State.onTime_pending (s : State) (f : TimeUnit → TimeUnit) : (s.onTime f).pending = s.pending := rfl
@[simp] theorem State.onTime_now (s : State) (f : TimeUnit → TimeUnit) : (s.onTime f).now = s.now := rfl
@[simp] theorem State.onTime_regs (s : State) (f : TimeUnit → TimeUnit) : (s.onTime f).regs = s.regs := rfl
@[simp] theorem State.onTime_mem (s : State) (f : TimeUnit → TimeUnit) : (s.onTime f).mem = s.mem := rfl
@[simp] theorem State.onTime_mode (s : State) (f : TimeUnit → TimeUnit) : (s.onTime f).mode = s.mode := rfl
@[simp] theorem State.onTime_safety (s : State) (f : TimeUnit → TimeUnit) : (s.onTime f).safety = s.safety := rfl
@[simp] theorem State.onTime_power (s : State) (f : TimeUnit → TimeUnit) : (s.onTime f).power = s.power := rfl
@[simp] theorem State.onTime_front (s : State) (f : TimeUnit → TimeUnit) : (s.onTime f).front = s.front := rfl
@[simp] theorem State.onTime_time (s : State) (f : TimeUnit → TimeUnit) : (s.onTime f).time = f s.time := rfl

/-! ## The part chain -/

@[simp] theorem State.onChain_pending (s : State) (f : Chain → Chain) : (s.onChain f).pending = s.pending := rfl
@[simp] theorem State.onChain_now (s : State) (f : Chain → Chain) : (s.onChain f).now = s.now := rfl
@[simp] theorem State.onChain_regs (s : State) (f : Chain → Chain) : (s.onChain f).regs = s.regs := rfl
@[simp] theorem State.onChain_mem (s : State) (f : Chain → Chain) : (s.onChain f).mem = s.mem := rfl
@[simp] theorem State.onChain_mode (s : State) (f : Chain → Chain) : (s.onChain f).mode = s.mode := rfl
@[simp] theorem State.onChain_safety (s : State) (f : Chain → Chain) : (s.onChain f).safety = s.safety := rfl
@[simp] theorem State.onChain_power (s : State) (f : Chain → Chain) : (s.onChain f).power = s.power := rfl
@[simp] theorem State.onChain_front (s : State) (f : Chain → Chain) : (s.onChain f).front = s.front := rfl
@[simp] theorem State.onChain_chain (s : State) (f : Chain → Chain) : (s.onChain f).chain = f s.chain := rfl

/-! ## The part resume -/

@[simp] theorem State.onResume_pending (s : State) (f : Resume → Resume) : (s.onResume f).pending = s.pending := rfl
@[simp] theorem State.onResume_now (s : State) (f : Resume → Resume) : (s.onResume f).now = s.now := rfl
@[simp] theorem State.onResume_regs (s : State) (f : Resume → Resume) : (s.onResume f).regs = s.regs := rfl
@[simp] theorem State.onResume_mem (s : State) (f : Resume → Resume) : (s.onResume f).mem = s.mem := rfl
@[simp] theorem State.onResume_mode (s : State) (f : Resume → Resume) : (s.onResume f).mode = s.mode := rfl
@[simp] theorem State.onResume_safety (s : State) (f : Resume → Resume) : (s.onResume f).safety = s.safety := rfl
@[simp] theorem State.onResume_power (s : State) (f : Resume → Resume) : (s.onResume f).power = s.power := rfl
@[simp] theorem State.onResume_front (s : State) (f : Resume → Resume) : (s.onResume f).front = s.front := rfl
@[simp] theorem State.onResume_resume (s : State) (f : Resume → Resume) : (s.onResume f).resume = f s.resume := rfl

/-! ## The part sec -/

@[simp] theorem State.onSec_pending (s : State) (f : Security → Security) : (s.onSec f).pending = s.pending := rfl
@[simp] theorem State.onSec_now (s : State) (f : Security → Security) : (s.onSec f).now = s.now := rfl
@[simp] theorem State.onSec_regs (s : State) (f : Security → Security) : (s.onSec f).regs = s.regs := rfl
@[simp] theorem State.onSec_mem (s : State) (f : Security → Security) : (s.onSec f).mem = s.mem := rfl
@[simp] theorem State.onSec_mode (s : State) (f : Security → Security) : (s.onSec f).mode = s.mode := rfl
@[simp] theorem State.onSec_safety (s : State) (f : Security → Security) : (s.onSec f).safety = s.safety := rfl
@[simp] theorem State.onSec_power (s : State) (f : Security → Security) : (s.onSec f).power = s.power := rfl
@[simp] theorem State.onSec_front (s : State) (f : Security → Security) : (s.onSec f).front = s.front := rfl
@[simp] theorem State.onSec_sec (s : State) (f : Security → Security) : (s.onSec f).sec = f s.sec := rfl

/-! ## One of the axes -/

@[simp] theorem State.onAxis_pending (s : State) (k : Fin 8) (f : Axis → Axis) : (s.onAxis k f).pending = s.pending := rfl
@[simp] theorem State.onAxis_now (s : State) (k : Fin 8) (f : Axis → Axis) : (s.onAxis k f).now = s.now := rfl
@[simp] theorem State.onAxis_regs (s : State) (k : Fin 8) (f : Axis → Axis) : (s.onAxis k f).regs = s.regs := rfl
@[simp] theorem State.onAxis_mem (s : State) (k : Fin 8) (f : Axis → Axis) : (s.onAxis k f).mem = s.mem := rfl
@[simp] theorem State.onAxis_mode (s : State) (k : Fin 8) (f : Axis → Axis) : (s.onAxis k f).mode = s.mode := rfl
@[simp] theorem State.onAxis_safety (s : State) (k : Fin 8) (f : Axis → Axis) : (s.onAxis k f).safety = s.safety := rfl
@[simp] theorem State.onAxis_power (s : State) (k : Fin 8) (f : Axis → Axis) : (s.onAxis k f).power = s.power := rfl
@[simp] theorem State.onAxis_front (s : State) (k : Fin 8) (f : Axis → Axis) : (s.onAxis k f).front = s.front := rfl
@[simp] theorem State.onAxis_axes (s : State) (k : Fin 8) (f : Axis → Axis) : (s.onAxis k f).axes = vmod s.axes k f := rfl

/-! ## One of the feeds -/

@[simp] theorem State.onFeed_pending (s : State) (k : Fin 8) (f : Feed → Feed) : (s.onFeed k f).pending = s.pending := rfl
@[simp] theorem State.onFeed_now (s : State) (k : Fin 8) (f : Feed → Feed) : (s.onFeed k f).now = s.now := rfl
@[simp] theorem State.onFeed_regs (s : State) (k : Fin 8) (f : Feed → Feed) : (s.onFeed k f).regs = s.regs := rfl
@[simp] theorem State.onFeed_mem (s : State) (k : Fin 8) (f : Feed → Feed) : (s.onFeed k f).mem = s.mem := rfl
@[simp] theorem State.onFeed_mode (s : State) (k : Fin 8) (f : Feed → Feed) : (s.onFeed k f).mode = s.mode := rfl
@[simp] theorem State.onFeed_safety (s : State) (k : Fin 8) (f : Feed → Feed) : (s.onFeed k f).safety = s.safety := rfl
@[simp] theorem State.onFeed_power (s : State) (k : Fin 8) (f : Feed → Feed) : (s.onFeed k f).power = s.power := rfl
@[simp] theorem State.onFeed_front (s : State) (k : Fin 8) (f : Feed → Feed) : (s.onFeed k f).front = s.front := rfl
@[simp] theorem State.onFeed_feeds (s : State) (k : Fin 8) (f : Feed → Feed) : (s.onFeed k f).feeds = vmod s.feeds k f := rfl

/-! ## One of the chans -/

@[simp] theorem State.onChan_pending (s : State) (k : Fin 48) (f : Chan → Chan) : (s.onChan k f).pending = s.pending := rfl
@[simp] theorem State.onChan_now (s : State) (k : Fin 48) (f : Chan → Chan) : (s.onChan k f).now = s.now := rfl
@[simp] theorem State.onChan_regs (s : State) (k : Fin 48) (f : Chan → Chan) : (s.onChan k f).regs = s.regs := rfl
@[simp] theorem State.onChan_mem (s : State) (k : Fin 48) (f : Chan → Chan) : (s.onChan k f).mem = s.mem := rfl
@[simp] theorem State.onChan_mode (s : State) (k : Fin 48) (f : Chan → Chan) : (s.onChan k f).mode = s.mode := rfl
@[simp] theorem State.onChan_safety (s : State) (k : Fin 48) (f : Chan → Chan) : (s.onChan k f).safety = s.safety := rfl
@[simp] theorem State.onChan_power (s : State) (k : Fin 48) (f : Chan → Chan) : (s.onChan k f).power = s.power := rfl
@[simp] theorem State.onChan_front (s : State) (k : Fin 48) (f : Chan → Chan) : (s.onChan k f).front = s.front := rfl
@[simp] theorem State.onChan_chans (s : State) (k : Fin 48) (f : Chan → Chan) : (s.onChan k f).chans = vmod s.chans k f := rfl

/-! ## One of the kerfs -/

@[simp] theorem State.onKerf_pending (s : State) (k : Fin 48) (f : Kerf → Kerf) : (s.onKerf k f).pending = s.pending := rfl
@[simp] theorem State.onKerf_now (s : State) (k : Fin 48) (f : Kerf → Kerf) : (s.onKerf k f).now = s.now := rfl
@[simp] theorem State.onKerf_regs (s : State) (k : Fin 48) (f : Kerf → Kerf) : (s.onKerf k f).regs = s.regs := rfl
@[simp] theorem State.onKerf_mem (s : State) (k : Fin 48) (f : Kerf → Kerf) : (s.onKerf k f).mem = s.mem := rfl
@[simp] theorem State.onKerf_mode (s : State) (k : Fin 48) (f : Kerf → Kerf) : (s.onKerf k f).mode = s.mode := rfl
@[simp] theorem State.onKerf_safety (s : State) (k : Fin 48) (f : Kerf → Kerf) : (s.onKerf k f).safety = s.safety := rfl
@[simp] theorem State.onKerf_power (s : State) (k : Fin 48) (f : Kerf → Kerf) : (s.onKerf k f).power = s.power := rfl
@[simp] theorem State.onKerf_front (s : State) (k : Fin 48) (f : Kerf → Kerf) : (s.onKerf k f).front = s.front := rfl
@[simp] theorem State.onKerf_kerfs (s : State) (k : Fin 48) (f : Kerf → Kerf) : (s.onKerf k f).kerfs = vmod s.kerfs k f := rfl

/-! ## One of the plumbs -/

@[simp] theorem State.onPlumb_pending (s : State) (k : Fin 48) (f : Plumb → Plumb) : (s.onPlumb k f).pending = s.pending := rfl
@[simp] theorem State.onPlumb_now (s : State) (k : Fin 48) (f : Plumb → Plumb) : (s.onPlumb k f).now = s.now := rfl
@[simp] theorem State.onPlumb_regs (s : State) (k : Fin 48) (f : Plumb → Plumb) : (s.onPlumb k f).regs = s.regs := rfl
@[simp] theorem State.onPlumb_mem (s : State) (k : Fin 48) (f : Plumb → Plumb) : (s.onPlumb k f).mem = s.mem := rfl
@[simp] theorem State.onPlumb_mode (s : State) (k : Fin 48) (f : Plumb → Plumb) : (s.onPlumb k f).mode = s.mode := rfl
@[simp] theorem State.onPlumb_safety (s : State) (k : Fin 48) (f : Plumb → Plumb) : (s.onPlumb k f).safety = s.safety := rfl
@[simp] theorem State.onPlumb_power (s : State) (k : Fin 48) (f : Plumb → Plumb) : (s.onPlumb k f).power = s.power := rfl
@[simp] theorem State.onPlumb_front (s : State) (k : Fin 48) (f : Plumb → Plumb) : (s.onPlumb k f).front = s.front := rfl
@[simp] theorem State.onPlumb_plumbs (s : State) (k : Fin 48) (f : Plumb → Plumb) : (s.onPlumb k f).plumbs = vmod s.plumbs k f := rfl

/-! ## One of the scribes -/

@[simp] theorem State.onScribe_pending (s : State) (k : Fin 48) (f : Scribe → Scribe) : (s.onScribe k f).pending = s.pending := rfl
@[simp] theorem State.onScribe_now (s : State) (k : Fin 48) (f : Scribe → Scribe) : (s.onScribe k f).now = s.now := rfl
@[simp] theorem State.onScribe_regs (s : State) (k : Fin 48) (f : Scribe → Scribe) : (s.onScribe k f).regs = s.regs := rfl
@[simp] theorem State.onScribe_mem (s : State) (k : Fin 48) (f : Scribe → Scribe) : (s.onScribe k f).mem = s.mem := rfl
@[simp] theorem State.onScribe_mode (s : State) (k : Fin 48) (f : Scribe → Scribe) : (s.onScribe k f).mode = s.mode := rfl
@[simp] theorem State.onScribe_safety (s : State) (k : Fin 48) (f : Scribe → Scribe) : (s.onScribe k f).safety = s.safety := rfl
@[simp] theorem State.onScribe_power (s : State) (k : Fin 48) (f : Scribe → Scribe) : (s.onScribe k f).power = s.power := rfl
@[simp] theorem State.onScribe_front (s : State) (k : Fin 48) (f : Scribe → Scribe) : (s.onScribe k f).front = s.front := rfl
@[simp] theorem State.onScribe_scribes (s : State) (k : Fin 48) (f : Scribe → Scribe) : (s.onScribe k f).scribes = vmod s.scribes k f := rfl

/-! ## One of the joists -/

@[simp] theorem State.onJoist_pending (s : State) (k : Fin 16) (f : Joist → Joist) : (s.onJoist k f).pending = s.pending := rfl
@[simp] theorem State.onJoist_now (s : State) (k : Fin 16) (f : Joist → Joist) : (s.onJoist k f).now = s.now := rfl
@[simp] theorem State.onJoist_regs (s : State) (k : Fin 16) (f : Joist → Joist) : (s.onJoist k f).regs = s.regs := rfl
@[simp] theorem State.onJoist_mem (s : State) (k : Fin 16) (f : Joist → Joist) : (s.onJoist k f).mem = s.mem := rfl
@[simp] theorem State.onJoist_mode (s : State) (k : Fin 16) (f : Joist → Joist) : (s.onJoist k f).mode = s.mode := rfl
@[simp] theorem State.onJoist_safety (s : State) (k : Fin 16) (f : Joist → Joist) : (s.onJoist k f).safety = s.safety := rfl
@[simp] theorem State.onJoist_power (s : State) (k : Fin 16) (f : Joist → Joist) : (s.onJoist k f).power = s.power := rfl
@[simp] theorem State.onJoist_front (s : State) (k : Fin 16) (f : Joist → Joist) : (s.onJoist k f).front = s.front := rfl
@[simp] theorem State.onJoist_joists (s : State) (k : Fin 16) (f : Joist → Joist) : (s.onJoist k f).joists = vmod s.joists k f := rfl

/-! ## Vectors -/

@[simp] theorem vmod_same {α : Type} {n : Nat} (v : Vector α n) (i : Fin n) (f : α → α) : (vmod v i f)[i.1]'i.2 = f (v[i.1]'i.2) := by simp [vmod]

theorem vmod_other {α : Type} {n : Nat} (v : Vector α n) (i j : Fin n) (f : α → α) (h : i ≠ j) : (vmod v i f)[j.1]'j.2 = v[j.1]'j.2 := by
  have : i.1 ≠ j.1 := fun e => h (Fin.ext e)
  simp [vmod, this]

end Sys2Proof.Machine
end

