-- ==== Sys2Proof/Laws/Packets.lean ====
section
/-! SUPPORT. What the shared operations of commands do: the guards of events, and a packet's way to its execution. -/

namespace Sys2Proof.Machine

open Sys2Proof

/-! ## The guards of events -/

theorem act_runs {s : State} {t : Nat} {f : State → State} (h : s.runs = true) : s.act t f = (s.touch t).keep (f (s.touch t)) := by
  have : (s.touch t).runs = true := h
  simp [State.act, this]

theorem act_deaf {s : State} {t : Nat} {f : State → State} (h : s.runs = false) : s.act t f = s.touch t := by
  have : (s.touch t).runs = false := h
  simp [State.act, this]

theorem chainAct_awake {s : State} {t : Nat} {f : State → State} (h : s.awake = true) : s.chainAct t f = (s.touch t).keep (f (s.touch t)) := by
  have : (s.touch t).awake = true := h
  simp [State.chainAct, this]

theorem chainAct_deaf {s : State} {t : Nat} {f : State → State} (h : s.awake = false) : s.chainAct t f = s.touch t := by
  have : (s.touch t).awake = false := h
  simp [State.chainAct, this]

theorem sillAct_on {s : State} {t : Nat} {f : State → State} (h : s.power.power = .on) : s.sillAct t f = (s.touch t).keep (f (s.touch t)) := by
  simp [State.sillAct, h]

theorem beamAct_on {s : State} {t : Nat} {f : State → State} (h : s.runs = true) (hb : s.mode.mode.beamOn = true) :
    s.beamAct t f = (s.touch t).keep (f (s.touch t)) := by
  simp [State.beamAct, act_runs h, hb]

theorem driveAct_on {s : State} {t : Nat} {f : State → State} (h : s.runs = true) (hb : s.mode.mode.driveOn = true) :
    s.driveAct t f = (s.touch t).keep (f (s.touch t)) := by
  simp [State.driveAct, act_runs h, hb]

theorem watch_awake {s : State} {t : Nat} {f : State → State} (h : s.awake = true) : s.watch t f = (s.touch t).keep (f (s.touch t)) := by
  have hp : s.power.power = .on := by
    simp only [State.awake, Bool.and_eq_true, beq_iff_eq] at h; exact h.1.1
  have : (s.touch t).awake = true := h
  simp [State.watch, sillAct_on hp, this]

/-! ## What an event leaves -/

theorem doesOf {i ready cond f} {g : State → State} (he : ∀ t s, ready s → exec (i t) s = .next ((s.touch t).keep (g (s.touch t)))) (hg : ∀ u, cond u → g u = f u) :
    Does i ready cond f := by
  intro t s hr hc; rw [he t s hr, hg _ hc]; rfl

theorem alwaysOf {i ready f} {g : State → State} (he : ∀ t s, ready s → exec (i t) s = .next ((s.touch t).keep (g (s.touch t)))) (hg : ∀ u, g u = f u) :
    Always i ready f := by
  intro t s hr; rw [he t s hr, hg]; rfl

theorem doesOffOf {i cond f} {g : State → State} (he : ∀ t s, s.power.power ≠ .on → exec (i t) s = .next (s.unpowered g)) (hg : ∀ u : State, cond u → g u = f u)
    (hc : ∀ s : State, cond s → cond { s with out := [] }) :
    DoesOff i cond f := by
  intro t s hr h; rw [he t s hr, State.unpowered, hg _ (hc _ h)]; rfl

theorem watchesOf {i cond f} {g : State → State} (he : ∀ t s, s.power.power = .on → exec (i t) s = .next (s.watch t g)) (hg : ∀ u, cond u → g u = f u) : Watches i cond f := by
  intro t s hp hc
  rw [he t s hp, State.watch, sillAct_on hp]
  have ha : (s.touch t).awake = s.awake := rfl
  cases h : s.awake
  · simp only [ha, h, Bool.false_eq_true, if_false, State.quiet, hg _ hc]; rfl
  · simp only [ha, h, if_true, hg _ hc]; rfl

theorem upE {s : State} {t : Nat} {g : State → State} (h : isUp s) : s.act t g = (s.touch t).keep (g (s.touch t)) := act_runs h

theorem awE {s : State} {t : Nat} {g : State → State} (h : isAwake s) : s.chainAct t g = (s.touch t).keep (g (s.touch t)) := chainAct_awake h

theorem poE {s : State} {t : Nat} {g : State → State} (h : isPowered s) : s.sillAct t g = (s.touch t).keep (g (s.touch t)) := sillAct_on h

theorem beE {s : State} {t : Nat} {g : State → State} (h : beamsOn s) : s.beamAct t g = (s.touch t).keep (g (s.touch t)) := beamAct_on h.1 h.2

theorem drE {s : State} {t : Nat} {g : State → State} (h : drivesOn s) : s.driveAct t g = (s.touch t).keep (g (s.touch t)) := driveAct_on h.1 h.2

/-! ## A packet's way to its execution (R84) -/

/-- A command that executes at once is the command that its checks saw. -/
theorem judge_now {o : OpSpec} {s : State} {op : Nat} {p : Packet} {sec : Bool} {cl : Word} {c : Ctx} {l : Option Nat}
    (h : o.judge s op p sec cl = .now c l) : c = o.ctx s op p sec cl := by
  unfold OpSpec.judge at h
  simp only at h
  repeat' split at h
  all_goals first | (cases h; rfl) | cases h

theorem perform_now {o : OpSpec} {s : State} {op : Nat} {p : Packet} {sec : Bool} {cl : Word} {late : Option Nat}
    (h : (o.judge (s.clocked op) op p sec cl).runsNow late = true) :
    o.perform s op p sec cl = o.finish op p sec cl (o.ctx (s.clocked op) op p sec cl) late (o.effect (s.clocked op) (o.ctx (s.clocked op) op p sec cl)) := by
  cases hv : o.judge (s.clocked op) op p sec cl with
  | now c l =>
    rw [hv, Verdict.runsNow, beq_iff_eq] at h
    rw [← judge_now hv, ← h]
    simp only [OpSpec.perform, hv]
  | refuse | later => simp [hv, Verdict.runsNow] at h

/-- The frame of a packet decides neither whether it is heard nor what its head holds. -/
theorem touch_hears {s : State} {t : Nat} {p : Packet} (h : s.hears p = true) : (s.touch t).hears p = true := by
  rw [← h]; cases hp : p.port <;> simp only [State.hears, State.takes, State.fits, ethOf, hp] <;> rfl

/-- A packet that arrives as a new one of its sender reaches the check of its opcode in the state that its arrival left. -/
theorem packet_arrives {o : Option OpSpec} {op t : Nat} {p : Packet} {s : State} {who : Caller} (h : arrivesNew op t p s who = true) :
    s.packet t o op p = (s.touch t).keep ((newState s t p who).dispatch o op p p.isSecure (who.client (inState s t p) p)) := by
  cases who with
  | session se =>
    simp only [arrivesNew, headPasses, formPasses, Bool.and_eq_true, and_assoc, bne_iff_ne, beq_iff_eq, Option.isNone_iff_eq_none] at h
    obtain ⟨hr, hears, formed, head, port, named, caller, fresh, here⟩ := h
    obtain ⟨se0, hs0, hse⟩ := Option.map_eq_some_iff.mp caller
    rw [State.packet, act_runs hr, if_pos (touch_hears hears)]
    simp only [inState] at head hs0 here hse
    simp only [State.receive, formed, Bool.true_eq_false, if_false, head, port, named, hs0, State.inSession, hse, fresh, here, Option.isSome_none]
    rfl
  | host =>
    simp only [arrivesNew, headPasses, formPasses, Bool.and_eq_true, and_assoc, bne_iff_ne, beq_iff_eq, Option.isNone_iff_eq_none, Bool.not_eq_true'] at h
    obtain ⟨hr, hears, formed, head, port, named, opens, once, here⟩ := h
    rw [State.packet, act_runs hr, if_pos (touch_hears hears)]
    simp only [inState] at head opens once here
    simp only [State.receive, formed, Bool.true_eq_false, if_false, head, port, named, if_true, State.sessionless, opens]
    simp only [once, Bool.false_eq_true, if_false]
    cases k : ((s.touch t).frameAt p.port).keepsSeq0 p
    · have at_ : State.forwardTo (((s.touch t).frameAt p.port).count rRxOk) op p = none := here
      simp only [Bool.false_eq_true, if_false, at_, newState, inState, k]; rfl
    · have at_ : State.forwardTo (State.count { (s.touch t).frameAt p.port with sec := { ((s.touch t).frameAt p.port).sec with seq0 := some p.sequence } } rRxOk) op p = none := here
      simp only [if_true, at_, newState, inState, k]; rfl
  | manager =>
    simp only [arrivesNew, formPasses, Bool.and_eq_true, and_assoc, beq_iff_eq, Option.isNone_iff_eq_none] at h
    obtain ⟨hr, hears, formed, head, port, once⟩ := h
    rw [State.packet, act_runs hr, if_pos (touch_hears hears)]
    simp only [inState] at head once
    simp only [State.receive, formed, Bool.true_eq_false, if_false, head, State.fromManager, once]
    rw [if_pos port]; rfl

/-- A packet that passes every step of R84 is executed in the state that its arrival left. -/
theorem packet_executes {o : OpSpec} {op t : Nat} {p : Packet} {s : State} {who : Caller} {late : Option Nat} (h : executes o op t p s who late = true) :
    s.packet t (some o) op p
      = (s.touch t).keep (o.finish op p p.isSecure (who.client (inState s t p) p) (ctxOf o op t p s who) late
          (o.effect (startState op s t p who) (ctxOf o op t p s who))) := by
  obtain ⟨arrives, once⟩ := (Bool.and_eq_true _ _).mp h
  rw [packet_arrives arrives, State.dispatch, perform_now once]; rfl

/-! ## What follows an execution -/

theorem finish_done {o : OpSpec} {op : Nat} {p : Packet} {cl : Word} {late : Option Nat} {c : Ctx} {r : Res} (h : r.status.done = true) :
    o.finish op p p.isSecure cl c late r = o.after (answered op p cl late r) c := by
  have hd : r.status ≠ .denied := by intro e; rw [e] at h; cases h
  cases late <;> simp [OpSpec.finish, h, hd, answered]

theorem finish_undone {o : OpSpec} {op : Nat} {p : Packet} {cl : Word} {late : Option Nat} {c : Ctx} {r : Res} (h : r.status.done = false)
    (hd : r.status ≠ .denied) (ha : r.audit = none) : o.finish op p p.isSecure cl c late r = answered op p cl late r := by
  cases late <;> simp [OpSpec.finish, h, hd, answered, ha, State.auditCmd]

/-- An opcode whose execution is `f` where `cond` holds, and whose result is answered and no more. -/
theorem givesIf {o op i cond f} (he : ∀ t p s, exec (i t p) s = .next (s.packet t (some o) op p))
    (hx : ∀ u c, cond u c → o.effect u c = f u c)
    (hf : ∀ p cl late u c, o.finish op p p.isSecure cl c late (f u c) = answered op p cl late (f u c)) : GivesIf o op i cond f := by
  intro t p s who late h hc
  rw [he, packet_executes h, hx _ _ hc, hf]; rfl

theorem gives {o op i f} (he : ∀ t p s, exec (i t p) s = .next (s.packet t (some o) op p)) (hx : ∀ u c, o.effect u c = f u c)
    (hf : ∀ p cl late u c, o.finish op p p.isSecure cl c late (f u c) = answered op p cl late (f u c)) : Gives o op i f :=
  givesIf he (fun u c _ => hx u c) hf

theorem givesThen {o op i f g} (he : ∀ t p s, exec (i t p) s = .next (s.packet t (some o) op p)) (hx : ∀ u c, o.effect u c = f u c)
    (hf : ∀ p cl late u c, o.finish op p p.isSecure cl c late (f u c) = g (answered op p cl late (f u c)) c) : GivesThen o op i f g := by
  intro t p s who late h
  rw [he, packet_executes h, hx, hf]; rfl

end Sys2Proof.Machine
end

