-- ==== Sys2Proof/Tests/Slice0.lean ====
section
/-! SUPPORT. Tests of single commands on small states, ill-formed terms that WellFormed refuses, and a witness for the hypotheses of every statement. -/

namespace Sys2Proof.Tests

open Sys2Proof Sys2Proof.Machine

section

set_option Elab.async false

/-! ## States and packets for tests -/

/-- An open session of a host at SPI. -/
def sess : Session :=
  { slot := 0, id := 9, client := 5, dual := false, jumbo := false, timeout := 10, highest := none, seen := [], alertMask := 0xFFFF, alertSeq := 1, alerts := [], lostNow := 0
    addr0 := none, addr1 := none, lastPort := .spi, lastAddr := ⟨0, 0, 0⟩, lastAt := 0 }

/-- The reset state with power, past start-up, in a mode, with that session, and with every block in the normal world (R480). -/
def ready (m : Mode) : State :=
  { State.reset with
    regs := [(0x0A000004, 0)]
    power := { State.reset.power with power := .on }
    mode := { State.reset.mode with mode := m }
    front := { State.reset.front with sessions := [sess] } }

/-- A packet of that session at SPI, without its tag and its CRC. -/
def raw (flags : Byte) (path params : List Byte) : Packet :=
  { port := .spi, origin := ⟨0, 0, 0⟩, dport := 0, version := 1, flags := flags, sequence := 1, path := path, atEra := 0, atNs := 0, session := 9, params := params, tag := [], crc := 0 }

/-- The packet with the CRC that R82 asks for. -/
def sealed (op : Nat) (p : Packet) : Packet := { p with crc := crc32c (rawHead op p ++ p.tag) }

/-- A packet without flags. -/
def pk (op : Nat) (path params : List Byte) : Packet := sealed op (raw 0 path params)

/-- A SECURE packet with the tag that R83 asks for, under the key of the reset state. -/
def spk (op : Nat) (path params : List Byte) : Packet := sealed op { raw 2 path params with tag := tagOf State.reset.sec.key (rawHead op (raw 2 path params)) }

/-- The path of the device root, and of a unit of the tree. -/
def root : List Byte := [0, 0xFF, 0xFF, 0xFF, 0xFF, 0xFF, 0xFF, 0xFF]
def at1 (a : Byte) : List Byte := [0, a, 0xFF, 0xFF, 0xFF, 0xFF, 0xFF, 0xFF]
def at2 (a b : Byte) : List Byte := [0, a, b, 0xFF, 0xFF, 0xFF, 0xFF, 0xFF]

/-- Words, half-words and bytes of parameters. -/
def w (l : List Nat) : List Byte := l.flatMap (leBytes 4)
def h (l : List Nat) : List Byte := l.flatMap (leBytes 2)
def b8 (l : List Nat) : List Byte := l.flatMap (leBytes 1)

/-- The session as a packet's arrival finds it. -/
def caller (s : State) : Session := { sess with lastAt := s.now }
def byCaller (s : State) : Caller := .session (caller s)

/-- Whether a packet of that session executes at once, and a condition holds of the state and the command in which it does. -/
def runsAt (o : OpSpec) (op : Nat) (p : Packet) (s : State) (cond : State → Ctx → Bool) : Bool :=
  executes o op 0 p s (byCaller s) none && cond (startState op s 0 p (byCaller s)) (ctxOf o op 0 p s (byCaller s))

/-- The same without the CRC and the tag. -/
def bodyRuns (o : OpSpec) (op : Nat) (p : Packet) (s : State) (cond : State → Ctx → Bool) : Bool :=
  s.runs && s.hears p && p.wellFormed && p.port != .rafter && p.session != 0 && callerOf s 0 p == some (caller s)
    && (caller s).seqCase p.port p.sequence == .fresh && (((inState s 0 p).setSession (caller s)).forwardTo op p).isNone
    && (o.judge (startState op s 0 p (byCaller s)) op p p.isSecure (caller s).client).runsNow none
    && cond (startState op s 0 p (byCaller s)) (ctxOf o op 0 p s (byCaller s))

/-- A packet whose CRC and tag are those of R82 and R83 passes steps 3-6. -/
theorem runs_spk {o : OpSpec} {op : Nat} {path params : List Byte} {s : State} {cond : State → Ctx → Bool} (hk : s.sec.key = State.reset.sec.key) (ho : op < 0x8000)
    (hb : bodyRuns o op (spk op path params) s cond = true) : runsAt o op (spk op path params) s cond = true := by
  have hh : ((inState s 0 (spk op path params)).headFails op (spk op path params)) = none := by
    have h1 : crc32c (rawHead op (spk op path params) ++ (spk op path params).tag) = (spk op path params).crc := rfl
    have h2 : (inState s 0 (spk op path params)).sec = s.sec := rfl
    have h3 : (spk op path params).flags = 2 := rfl
    have h4 : (spk op path params).version = 1 := rfl
    have h6 : rawHead op (spk op path params) = rawHead op (raw 2 path params) := rfl
    have h5 : (spk op path params).tag = tagOf State.reset.sec.key (rawHead op (spk op path params)) := by rw [h6]; simp only [spk, sealed]
    rw [State.headFails, if_neg (fun h => h h1)]
    simp [h3, h4, h5, State.tagOk, h2, hk, Packet.isAlert, ho]
  simp only [bodyRuns, Bool.and_eq_true] at hb
  obtain ⟨⟨⟨⟨⟨⟨⟨⟨⟨a1, a2⟩, a3⟩, a4⟩, a5⟩, a6⟩, a7⟩, a8⟩, a9⟩, a10⟩ := hb
  have hh' : ((inState s 0 (spk op path params)).headFails op (spk op path params)).isNone = true := by rw [hh]; rfl
  simp only [runsAt, executes, arrivesNew, headPasses, formPasses, byCaller, a1, a2, a3, a4, a5, a6, a7, a8, hh', Bool.and_true, Bool.true_and, Bool.and_eq_true]
  exact ⟨a9, a10⟩

/-- That state in IDLE with another front end, and in a mode with slot B in a state. -/
def fronts (f : Front → Front) : State := { ready .idle with front := f (ready .idle).front }
def slotB (m : Mode) (x : SlotSt) : State := { ready m with sec := { State.reset.sec with slotB := { State.reset.sec.slotB with st := x } } }

/-- A ready state with both latches clear. -/
def unlatched (m : Mode) : State := { ready m with safety := { State.reset.safety with laserLatch := false, bridgeLatch := false } }

/-- A package without beams, a fit that is held, and a key. -/
def pkg0 : Pkg :=
  { nextIdle := false, hasPreheat := false, layer := 0, jobGen := 0, length := 0, stickCount := 0, stickDir := 0, rasterOff := 0, rasterLen := 0, beamMask := 0, beams := [] }
def fit0 : FitResult :=
  { id := 3, model := 0, n := 0, rms := 0, max := 0, drms := 0, dmax := 0, last := 0, fitAt := 0, wait := false, spread := 0, res := [], tx := 0, ty := 0
    axx := 0, axy := 0, ayx := 0, ayy := 0, mx := 0, my := 0, marks := [] }
def key1 : List Byte := 1 :: List.replicate 31 0

/-- Worker 1 in IDLE, and a manager in IDLE with a worker. -/
def worker1 : State :=
  { ready .idle with chain := { State.reset.chain with manager := false, index := 1 }, front := State.reset.front }
def manager1 : State := { ready .idle with chain := { State.reset.chain with members := [(1, 7)], present := 3 } }

/-! ## Ill-formed commands -/

theorem test_wf_path : (Instr.ping 0 { raw 0 [] [] with path := [0] }).wf = false := by decide
theorem test_wf_params : (Instr.ping 0 (raw 0 root [1, 2, 3])).wf = false := by decide
theorem test_wf_tag : (Instr.ping 0 (raw 2 root [])).wf = false := by decide
theorem test_wf_length : (Instr.ping 0 (raw 0 root (List.replicate 8196 0))).wf = false := by
  simp only [Instr.wf, Packet.formed, raw, List.length_replicate]
  decide
theorem test_wf_rafter : (Instr.release 0 .up ⟨0, 0, 0, 0, List.replicate 257 0, 0, true, 0⟩).wf = false := by
  simp only [Instr.wf, Msg.onRafter, List.length_replicate]
  decide
theorem test_wf_joist : (Instr.hello 0 0 ⟨0, 0, 0, 0, List.replicate 65536 0, 0, true, 0⟩).wf = false := by
  simp only [Instr.wf, Msg.onJoist, List.length_replicate]
  decide
theorem test_wf_ohms : (Instr.ntcConversion 0 [none, none]).wf = false := by decide
theorem test_wf_good : (Instr.ping 0 (pk 0 root [])).wf = true := by decide +kernel

/-! ## Numbers and codes -/

/-- The check value that R82 gives: the CRC-32C of the nine digits 1 to 9. -/
theorem test_crc : crc32c [0x31, 0x32, 0x33, 0x34, 0x35, 0x36, 0x37, 0x38, 0x39] = 0xE3069283 := by decide +kernel
/-- The digest of "abc", as FIPS 180 prints it. -/
theorem test_sha : (sha256 [0x61, 0x62, 0x63]).take 8 = [0xBA, 0x78, 0x16, 0xBF, 0x8F, 0x01, 0xCF, 0xEA] := by decide +kernel
/-- R12: the least significant byte comes first. -/
theorem test_le : leBytes 4 0x01020304 = [4, 3, 2, 1] := by decide
/-- A saturating counter stays at its end. -/
theorem test_satInc : satInc 0xFFFFFFFF 1 = 0xFFFFFFFF := by decide
/-- Writing the default value leaves no entry. -/
theorem test_write_default : Memory.write [(5, 7)] 5 0 = [] := by decide

/-! ## Single commands -/

/-- What a command leaves. -/
def left (i : Instr) (s : State) (f : State → Bool) : Bool := match exec i s with
  | .next u => f u
  | _ => false

/-- R54: VIN above 4.8 V starts the filter, 4.8 V itself does not. -/
theorem test_powerOn : left (.powerOn 0 4801) { State.reset with power := { State.reset.power with power := .off } } (fun u => u.power.power == .filtering) = true := by decide +kernel
theorem test_powerOn_edge : left (.powerOn 0 4800) { State.reset with power := { State.reset.power with power := .off } } (fun u => u.power.power == .off) = true := by decide +kernel
/-- R59: SAFE sets the laser-safety latch with cause 5. -/
theorem test_safe : left (.safe 0 (pk 0x0012 root [])) (unlatched .idle) (fun u => u.safety.laserLatch && u.safety.laserCause == 5) = true := by decide +kernel
/-- R59: a fall of LASER_EN sets both latches with cause 2. -/
theorem test_laserEnFall :
    left (.laserEnFall 0 true 100) ((unlatched .idle).onSafety fun c => { c with enA := true, enB := true })
      (fun u => u.safety.laserLatch && u.safety.bridgeLatch && u.safety.laserCause == 2 && u.safety.bridgeCause == 2) = true := by decide +kernel
/-- R49: MODE_SET takes IDLE to CONFIG. -/
theorem test_modeSet : left (.modeSet 0 (pk 0x0010 root (w [2]))) (ready .idle) (fun u => u.mode.mode == .config && u.mode.prev == .idle) = true := by decide +kernel
/-- R87: the second session takes slot 1, and a timeout of 0 means 10 s. -/
theorem test_sessionOpen :
    left (.sessionOpen 0 (pk 0x0001 root (w [7, 0]))) (ready .idle) (fun u => (u.front.sessions.map fun x => (x.slot.val, x.timeout)) == [(0, 10), (1, 10)]) = true := by decide +kernel
/-- R25, R103: a register whose clock runs keeps what it is given; where the clock is stopped the value waits, and is applied when the clock starts. -/
theorem test_regWrite : left (.regWrite 0 (pk 0x0101 root (w [0x04000004, 0] ++ h [1, 0] ++ w [5]))) (ready .recoat) (fun u => u.reg 0x04000004 == 5) = true := by decide +kernel
theorem test_regWrite_gated :
    left (.regWrite 0 (pk 0x0101 root (w [0x04000004, 0] ++ h [1, 0] ++ w [5]))) (ready .idle)
      (fun u => u.reg 0x04000004 != 5 && u.heldReg 0x04000004 == 5 && u.beamClock.reg 0x04000004 == 5) = true := by decide +kernel
/-- R314: an advanced fence counts up by 1. -/
theorem test_fence : left (.veneerFence 0 (pk 0x0802 root (b8 [18, 1, 0, 0] ++ w [0]))) (ready .idle) (fun u => u.fence 18 == 1) = true := by decide +kernel
/-- R37: a frame created under the root has the index that its path names. -/
theorem test_frameCreate :
    left (.frameCreate 0 (pk 0x0F00 (at1 254) (b8 [0, 1, 0, 0] ++ at2 1 0))) (ready .idle)
      (fun u => (u.front.frames.map fun f => (f.level1, f.members)) == [(some 254, [(0, .leaf (.motor 0))])]) = true := by decide +kernel
/-- R93: a command with an execute-at time that lies ahead waits in the schedule. -/
theorem test_scheduled :
    left (.hold 0 (sealed 0x0011 { raw 4 root [] with atNs := 5 })) (ready .recoat) (fun u => (u.front.sched.map (·.due)) == [5] && u.mode.mode == .recoat) = true := by decide +kernel

/-! ## Witnesses: a packet that executes, for each clause of the statements on opcodes, at a bound of what its parameters may be -/

/-- Every clause of DeviceReads executes somewhere. -/
theorem met_DeviceReads :
    runsAt opPing 0x0000 (pk 0x0000 root ([])) (ready .idle) (fun _ _ => true) = true
      ∧ runsAt opDeviceInfo 0x0003 (pk 0x0003 root ([])) (ready .idle) (fun _ _ => true) = true
      ∧ runsAt opStatusGet 0x0004 (pk 0x0004 (at2 5 3) ([])) (ready .idle) (fun _ c => c.target == .leaf .spi) = true
      ∧ runsAt opStatusGet 0x0004 (pk 0x0004 (at1 5) ([])) (ready .idle) (fun _ c => c.target == .dflt 5) = true
      ∧ runsAt opScheduleList 0x0020 (pk 0x0020 root (h [0, 0])) (ready .idle) (fun _ _ => true) = true :=
  by decide +kernel

/-- Every clause of SessionCommands executes somewhere. -/
theorem met_SessionCommands :
    runsAt opSessionOpen 0x0001 (pk 0x0001 root (w [7] ++ h [3, 600])) (ready .idle) (fun u _ => u.freeSlot == some 1) = true
      ∧ runsAt opSessionClose 0x0002 (pk 0x0002 root ([])) (ready .idle) (fun _ _ => true) = true
      ∧ runsAt opAlertMask 0x0030 (pk 0x0030 root (h [0xFFFF, 0])) (ready .idle) (fun u c => (u.session c.p.session).isSome) = true
      ∧ runsAt opAlertAck 0x0031 (pk 0x0031 root (w [1])) (ready .idle) (fun u c => (u.session c.p.session).isSome) = true
      ∧ runsAt opScheduleCancel 0x0021 (pk 0x0021 root (w [0, 3])) (fronts fun f => { f with sched := [⟨1, 0x0011, { raw 4 root [] with sequence := 3, atNs := 1 }, false, 5⟩] }) (fun u c => (u.cancelled c).isSome) = true :=
  by decide +kernel

/-- Every clause of ModeCommands executes somewhere. -/
theorem met_ModeCommands :
    runsAt opModeSet 0x0010 (pk 0x0010 root (w [2])) (ready .idle) (fun _ c => modeArg c == some .config) = true
      ∧ runsAt opModeSet 0x0010 (pk 0x0010 root (w [9])) (ready .recoat) (fun _ c => modeArg c == some .hold) = true
      ∧ runsAt opModeSet 0x0010 (pk 0x0010 root (w [8])) (ready .expose) (fun u c => modeArg c == some .pause && u.mode.mode == .expose) = true
      ∧ runsAt opModeSet 0x0010 (pk 0x0010 root (w [8])) (unlatched .hold) (fun u c => modeArg c == some .pause && u.mode.mode != .expose) = true
      ∧ runsAt opHold 0x0011 (pk 0x0011 root ([])) (ready .idle) (fun _ _ => true) = true
      ∧ runsAt opSafe 0x0012 (pk 0x0012 root ([])) (ready .idle) (fun _ _ => true) = true
      ∧ runsAt opLatchClear 0x0013 (pk 0x0013 root (w [3])) ({ ready .hold with now := 10000000, safety := { State.reset.safety with enA := true, enB := true } }) (fun _ _ => true) = true
      ∧ runsAt opFaultAck 0x0005 (pk 0x0005 (at1 5) ([])) (ready .idle) (fun _ _ => true) = true
      ∧ runsAt opReset 0x0014 (pk 0x0014 root ([])) (ready .idle) (fun _ _ => true) = true
      ∧ runsAt opShutdown 0x0015 (pk 0x0015 root (w [1, 0, 999])) (ready .idle) (fun _ _ => true) = true :=
  by decide +kernel

/-- Every clause of RegisterCommands executes somewhere. -/
theorem met_RegisterCommands :
    runsAt opRegRead 0x0100 (pk 0x0100 root (w [0x08801050, 0] ++ h [2, 0])) (ready .idle) (fun _ _ => true) = true
      ∧ runsAt opRegReadList 0x0103 (pk 0x0103 root (h [2, 0] ++ w [0x10, 0, 0x0B000008, 0])) (ready .idle) (fun _ _ => true) = true
      ∧ runsAt opRegWrite 0x0101 (pk 0x0101 root (w [0x04000004, 0] ++ h [1, 0] ++ w [5])) (ready .idle) (fun _ _ => true) = true
      ∧ runsAt opRegWriteList 0x0104 (pk 0x0104 root (h [1, 0] ++ w [0x04000004, 0, 5])) (ready .idle) (fun _ _ => true) = true
      ∧ runsAt opRegModify 0x0102 (pk 0x0102 root (w [0x04000004, 0, 1, 1])) (ready .idle) (fun _ _ => true) = true :=
  by decide +kernel

/-- Every clause of BulkCommands executes somewhere. -/
theorem met_BulkCommands :
    runsAt opBulkOpen 0x0200 (pk 0x0200 root (w [1, 0, 0, 4, 0])) (ready .idle) (fun _ _ => true) = true
      ∧ runsAt opBulkData 0x0201 (pk 0x0201 root (h [1, 0] ++ w [0, 77])) (fronts fun f => { f with transfers := [{ id := 1, session := 9, kind := 1, offset := 0, length := 4, crc := 0, got := [], secure := false, lastAt := 0 }] }) (fun u c => (u.named c).isSome) = true
      ∧ runsAt opBulkClose 0x0202 (pk 0x0202 root (h [1, 0])) (fronts fun f => { f with transfers := [{ id := 1, session := 9, kind := 1, offset := 0, length := 4, crc := 0, got := [], secure := false, lastAt := 0 }] }) (fun u c => (u.named c).any fun x => x.missing == [(0, 4)]) = true
      ∧ runsAt opBulkClose 0x0202 (pk 0x0202 root (h [1, 0])) (fronts fun f => { f with transfers := [{ id := 1, session := 9, kind := 1, offset := 0, length := 4, crc := 0, got := [(0, 4)], secure := false, lastAt := 0 }] }) (fun u c => (u.named c).any fun x => x.missing == [] && crc32c (u.bulkRead x.kind x.offset x.length) != x.crc) = true
      ∧ runsAt opBulkClose 0x0202 (pk 0x0202 root (h [1, 0])) (fronts fun f => { f with transfers := [{ id := 1, session := 9, kind := 1, offset := 0, length := 4, crc := 0x48674BC7, got := [(0, 4)], secure := false, lastAt := 0 }] }) (fun u c => (u.named c).any fun x => x.missing == [] && crc32c (u.bulkRead x.kind x.offset x.length) == x.crc) = true
      ∧ runsAt opBulkAbort 0x0203 (pk 0x0203 root (h [1, 0])) (fronts fun f => { f with transfers := [{ id := 1, session := 9, kind := 1, offset := 0, length := 4, crc := 0, got := [], secure := false, lastAt := 0 }] }) (fun u c => (u.named c).isSome) = true
      ∧ runsAt opBulkStatus 0x0204 (pk 0x0204 root (h [1, 0])) (fronts fun f => { f with transfers := [{ id := 1, session := 9, kind := 1, offset := 0, length := 4, crc := 0, got := [], secure := false, lastAt := 0 }] }) (fun u c => (u.named c).isSome) = true
      ∧ runsAt opBulkRead 0x0205 (pk 0x0205 root (w [0x7FFFFFFC, 4, 4])) (ready .idle) (fun _ _ => true) = true :=
  by decide +kernel

/-- Every clause of LayerCommands executes somewhere. -/
theorem met_LayerCommands :
    runsAt opJobBegin 0x0300 (pk 0x0300 root (h [0, 0])) (ready .idle) (fun u c => BitVec.ofNat 16 (leAt c.params 0 2) == u.resume.jobGen) = true
      ∧ runsAt opJobBegin 0x0300 (pk 0x0300 root (h [1, 0])) (ready .idle) (fun u c => BitVec.ofNat 16 (leAt c.params 0 2) != u.resume.jobGen) = true
      ∧ runsAt opJobEnd 0x0301 (pk 0x0301 root ([])) (ready .idle) (fun _ _ => true) = true
      ∧ runsAt opLayerDeclare 0x0302 (pk 0x0302 root (w [0, 0])) (fronts fun f => { f with areaOk := [(halfBase true, halfBase true + 64)] }) (fun _ _ => true) = true
      ∧ runsAt opLayerActivate 0x0303 (pk 0x0303 root ([])) ({ ready .idle with layers := { State.reset.layers with inactive := .valid, inactPkg := some pkg0, jobOpen := true } }) (fun _ _ => true) = true
      ∧ runsAt opLayerResume 0x0304 (pk 0x0304 root ([])) ({ ready .idle with layers := { State.reset.layers with active := .ready, activePkg := some pkg0 }, resume := { State.reset.resume with valid := true } }) (fun _ _ => true) = true
      ∧ runsAt opLayerStatus 0x0305 (pk 0x0305 root ([])) (ready .idle) (fun _ _ => true) = true
      ∧ runsAt opLayerAbort 0x0306 (pk 0x0306 root ([])) (ready .pause) (fun _ _ => true) = true :=
  by decide +kernel

/-- Every clause for a plain packet of BeamCommands executes somewhere. -/
theorem met_BeamCommands :
    runsAt opBeamEnable 0x0400 (pk 0x0400 (at2 0 47) ([])) (ready .idle) (fun _ _ => true) = true
      ∧ runsAt opBeamDisable 0x0401 (pk 0x0401 (at2 0 0) ([])) (ready .idle) (fun _ _ => true) = true
      ∧ runsAt opParamSetLoad 0x0402 (pk 0x0402 (at2 0 0) (h [255, 1] ++ List.replicate 128 0)) (ready .idle) (fun _ _ => true) = true
      ∧ runsAt opBeamStatus 0x0403 (pk 0x0403 (at1 0) ([])) (ready .idle) (fun _ _ => true) = true
      ∧ runsAt opScannerJog 0x0405 (pk 0x0405 (at2 0 0) (w [0x7FFFFF, 0xFF800000, 0, 65535])) ((ready .service).setB (mtStatus 0) 0 true) (fun _ _ => true) = true :=
  by decide +kernel

/-- Every clause for a SECURE packet of BeamCommands executes somewhere. -/
theorem met_BeamCommands_secure :
    runsAt opLaserSafetySet 0x0404 (spk 0x0404 (at2 0 0) (w [0x03FF03FF])) (ready .idle) (fun _ _ => true) = true := by
  exact runs_spk rfl (by decide) (by decide +kernel)

/-- Every clause of TrussCommands executes somewhere. -/
theorem met_TrussCommands :
    runsAt opTrussConfig 0x0500 (pk 0x0500 root (w [10000000] ++ h [8000, 1000] ++ w [7])) (ready .idle) (fun _ _ => true) = true
      ∧ runsAt opTerritoryLoad 0x0501 (pk 0x0501 root (b8 [47, 1, 0, 0] ++ List.replicate 64 0)) (ready .idle) (fun _ _ => true) = true
      ∧ runsAt opGasflowSet 0x0502 (pk 0x0502 root (b8 [0, 15] ++ h [35999, 1000, 0] ++ w [50000000])) (ready .idle) (fun _ _ => true) = true
      ∧ runsAt opTrussStatus 0x0503 (pk 0x0503 root ([])) (ready .idle) (fun _ _ => true) = true
      ∧ runsAt opStickQuery 0x0504 (pk 0x0504 root (h [0, 1])) ({ ready .idle with layers := { State.reset.layers with sticks := [⟨.free, none, 0, 1, 0, 0⟩] } }) (fun _ _ => true) = true :=
  by decide +kernel

/-- Every clause of SensingCommands executes somewhere. -/
theorem met_SensingCommands :
    runsAt opPlumbConfig 0x0600 (pk 0x0600 (at2 0 0) (b8 [0, 7, 0, 0] ++ List.replicate 32 0)) (ready .idle) (fun _ _ => true) = true
      ∧ runsAt opPlumbFeatures 0x0601 (pk 0x0601 (at2 0 0) (w [0])) (ready .idle) (fun _ c => byteAt c.params 0 == 0) = true
      ∧ runsAt opPlumbFeatures 0x0601 (pk 0x0601 (at2 0 0) (b8 [1, 127, 1, 0])) (ready .idle) (fun _ c => byteAt c.params 0 != 0) = true
      ∧ runsAt opGrainMaterial 0x0602 (pk 0x0602 root (w [10000000, 3600000] ++ List.replicate 80 0)) (ready .idle) (fun _ _ => true) = true
      ∧ runsAt opGrainRead 0x0603 (pk 0x0603 root (w [4] ++ h [0, 0, 1, 1])) (ready .idle) (fun _ _ => true) = true
      ∧ runsAt opGrainClear 0x0604 (pk 0x0604 root (w [15])) (ready .idle) (fun _ _ => true) = true :=
  by decide +kernel

/-- Every clause for a plain packet of ScribeCommands executes somewhere. -/
theorem met_ScribeCommands :
    runsAt opScribeTableRead 0x0701 (pk 0x0701 (at2 0 47) (w [0, 1380])) ({ ready .idle with scribes := Vector.replicate 48 { initScribe with table := .loaded } }) (fun _ _ => true) = true
      ∧ runsAt opScribeQuality 0x0705 (pk 0x0705 (at2 0 0) ([])) (ready .idle) (fun _ _ => true) = true :=
  by decide +kernel

/-- Every clause for a SECURE packet of ScribeCommands executes somewhere. -/
theorem met_ScribeCommands_secure :
    runsAt opScribeTableWrite 0x0700 (spk 0x0700 (at1 0) (w [0])) (ready .idle) (fun _ _ => true) = true
      ∧ runsAt opScribeFiducials 0x0702 (spk 0x0702 root (h [255, 1] ++ w [0, 0, 10000, 1000, 0, 0, 0, 0])) (ready .idle) (fun _ _ => true) = true
      ∧ runsAt opScribePass 0x0703 (spk 0x0703 (at2 0 0) (b8 [3, 1, 0, 0])) (ready .idle) (fun _ _ => true) = true
      ∧ runsAt opScribeConfirm 0x0704 (spk 0x0704 (at2 0 0) (w [1, 3])) ({ ready .idle with scribes := Vector.replicate 48 { initScribe with result := some fit0 } }) (fun _ _ => true) = true := by
  and_intros <;> exact runs_spk rfl (by decide) (by decide +kernel)

/-- Every clause of VeneerCommands executes somewhere. -/
theorem met_VeneerCommands :
    runsAt opVeneerLayerConfig 0x0800 (pk 0x0800 root (w (15 :: List.replicate 15 0))) (ready .idle) (fun _ _ => true) = true
      ∧ runsAt opVeneerCommit 0x0801 (pk 0x0801 root (w [0])) (ready .idle) (fun u c => u.emptySlot (leAt c.params 0 2) == false) = true
      ∧ runsAt opVeneerFence 0x0802 (pk 0x0802 root (b8 [18, 1, 0, 0] ++ w [0])) (ready .idle) (fun _ c => byteAt c.params 1 == 1) = true
      ∧ runsAt opVeneerFence 0x0802 (pk 0x0802 root (b8 [31, 2, 0, 0] ++ w [9])) (ready .idle) (fun _ c => byteAt c.params 1 != 1) = true
      ∧ runsAt opVeneerCoeffLoad 0x0803 (pk 0x0803 root (w [0])) (ready .idle) (fun _ _ => true) = true
      ∧ runsAt opVeneerFrameRead 0x0804 (pk 0x0804 root (w [0, 4, 3])) (((((ready .idle).setReg vnFrame 1).setReg 0x06001000 0x80000000).setReg 0x06001004 2).setReg 0x06001014 4) (fun _ _ => true) = true
      ∧ runsAt opVeneerLive 0x0805 (pk 0x0805 root (w [100])) (ready .idle) (fun _ _ => true) = true :=
  by decide +kernel

/-- Every clause of LaneCommands executes somewhere. -/
theorem met_LaneCommands :
    runsAt opLaneConfig 0x0900 (pk 0x0900 (at2 3 15) (w [0])) (ready .idle) (fun _ _ => true) = true
      ∧ runsAt opLaneBitslip 0x0901 (pk 0x0901 (at2 3 0) (b8 [0, 65, 1, 0])) (({ ready .idle with joists := Vector.replicate 16 { initJoist with lane := initLane .align false } } : State).setB (jlReg 0 4) 3 true) (fun _ c => c.slipLane == some (.joist 0)) = true
      ∧ runsAt opLaneStatus 0x0902 (pk 0x0902 (at2 4 1) ([])) (ready .idle) (fun _ _ => true) = true
      ∧ runsAt opLaneBond 0x0903 (pk 0x0903 (at2 3 14) (w [1])) (ready .idle) (fun _ _ => true) = true
      ∧ runsAt opDiscoveryScan 0x0904 (pk 0x0904 root ([])) (ready .idle) (fun u c => c.target == .root && (u.rescan.workers.map (·.1)).max? == none) = true
      ∧ runsAt opDiscoveryScan 0x0904 (pk 0x0904 root ([])) ({ ready .idle with chain := { State.reset.chain with members := [(1, 7)], present := 3 } }) (fun u c => c.target == .root && u.rescan.chain.manager && (u.rescan.workers.map (·.1)).max? == some 1) = true
      ∧ runsAt opDiscoveryScan 0x0904 (pk 0x0904 (at1 3) ([])) (ready .idle) (fun _ c => c.target != .root) = true
      ∧ runsAt opHeadCommand 0x0905 (pk 0x0905 (at2 3 0) (h [7, 1] ++ w [0x55])) ({ ready .idle with joists := Vector.replicate 16 { initJoist with lane := initLane .up false } }) (fun _ _ => true) = true :=
  by decide +kernel

/-- Every clause of TimeCommands executes somewhere. -/
theorem met_TimeCommands :
    runsAt opTimeGet 0x0A00 (pk 0x0A00 root ([])) (ready .idle) (fun _ _ => true) = true
      ∧ runsAt opTimeServoConfig 0x0A01 (pk 0x0A01 root (w ([timeConfig, stepThreshold, servoGains, servoLock].map fun a => (State.reset.reg a).toNat))) (ready .idle) (fun _ _ => true) = true
      ∧ runsAt opTimeStep 0x0A02 (pk 0x0A02 root (w [4, 5, 0])) ((ready .idle).setF timeConfig 0 2 2) (fun _ _ => true) = true
      ∧ runsAt opPtpConfig 0x0A03 (pk 0x0A03 root (w [(State.reset.reg ptpConfig).toNat])) (ready .idle) (fun _ _ => true) = true
      ∧ runsAt opTimeStatus 0x0A04 (pk 0x0A04 root ([])) (ready .idle) (fun _ _ => true) = true :=
  by decide +kernel

/-- Every clause of AxisCommands executes somewhere. -/
theorem met_AxisCommands :
    runsAt opPortConfig 0x0B00 (pk 0x0B00 (at2 1 7) (w ([4, 8, 0xC, 0x10].map fun o => (State.reset.reg (mpReg 7 o)).toNat))) (ready .idle) (fun _ _ => true) = true
      ∧ runsAt opMove 0x0B01 (pk 0x0B01 (at2 1 0) (w [1, 0])) (unlatched .idle) (fun _ _ => true) = true
      ∧ runsAt opStop 0x0B02 (pk 0x0B02 (at2 1 0) ([])) (ready .idle) (fun _ _ => true) = true
      ∧ runsAt opHome 0x0B03 (pk 0x0B03 (at2 1 0) ([])) ((unlatched .idle).setReg (mpReg 0 0x24) 1) (fun _ _ => true) = true
      ∧ runsAt opLimitsSet 0x0B04 (pk 0x0B04 (at2 1 0) (w [1, 1, 1, 1])) (ready .idle) (fun _ _ => true) = true
      ∧ runsAt opAxisStatus 0x0B05 (pk 0x0B05 (at1 1) ([])) (ready .idle) (fun _ _ => true) = true
      ∧ runsAt opPositionSet 0x0B06 (pk 0x0B06 (at2 1 0) (w [5, 1])) (ready .idle) (fun _ _ => true) = true
      ∧ runsAt opPassthroughConfig 0x0B07 (pk 0x0B07 root (b8 [1, 7, 1, 0])) (ready .idle) (fun _ _ => true) = true :=
  by decide +kernel

/-- Every clause of LedCommands executes somewhere. -/
theorem met_LedCommands :
    runsAt opLedConfig 0x0C00 (pk 0x0C00 (at2 2 15) (w ([4, 0x14].map fun o => (State.reset.reg (ledReg 15 o)).toNat))) (ready .idle) (fun _ _ => true) = true
      ∧ runsAt opLedStage 0x0C01 (pk 0x0C01 (at2 2 0) (h [3000, 0xFFFF])) (ready .idle) (fun _ _ => true) = true
      ∧ runsAt opLedCommit 0x0C02 (pk 0x0C02 root (h [1, 0])) (ready .idle) (fun u c => u.chainLead == 0 && c.later == false) = true
      ∧ runsAt opLedCommit 0x0C02 (pk 0x0C02 root (h [1, 0])) ({ ready .idle with chain := { State.reset.chain with members := [(1, 7)], present := 3 } }) (fun u c => u.chainLead != 0 && c.later == false) = true
      ∧ runsAt opLedStatus 0x0C03 (pk 0x0C03 (at2 2 0) ([])) (ready .idle) (fun _ _ => true) = true
      ∧ runsAt opAdjacencyTest 0x0C04 (pk 0x0C04 root ([])) (ready .idle) (fun _ _ => true) = true :=
  by decide +kernel

/-- Every clause for a plain packet of RecorderCommands executes somewhere. -/
theorem met_RecorderCommands :
    runsAt opTallyRead 0x0D00 (pk 0x0D00 root (b8 [1, 1, 0, 0] ++ w [0, 0] ++ h [255, 0])) (ready .idle) (fun _ _ => true) = true
      ∧ runsAt opTallyInfo 0x0D01 (pk 0x0D01 root ([])) (ready .idle) (fun _ _ => true) = true
      ∧ runsAt opAuditRead 0x0D02 (pk 0x0D02 root (w [0, 0, 0] ++ h [1, 0])) (ready .idle) (fun _ _ => true) = true
      ∧ runsAt opRingsRead 0x0D03 (pk 0x0D03 root (w [0, 12284, 4])) (ready .idle) (fun _ c => byteAt c.params 0 == 0) = true
      ∧ runsAt opRingsRead 0x0D03 (pk 0x0D03 root (w [1, 0, 4])) ({ ready .idle with tally := { State.reset.tally with ringsNv := [initRings] } }) (fun u c => byteAt c.params 0 != 0 && u.tally.ringsNv.length == 1) = true
      ∧ runsAt opRingsRead 0x0D03 (pk 0x0D03 root (w [1, 0, 4])) (ready .idle) (fun u c => byteAt c.params 0 != 0 && u.tally.ringsNv.isEmpty) = true
      ∧ runsAt opTallyMark 0x0D04 (pk 0x0D04 root (w [0xABCD])) (ready .idle) (fun _ _ => true) = true :=
  by decide +kernel

/-- Every clause for a SECURE packet of RecorderCommands executes somewhere. -/
theorem met_RecorderCommands_secure :
    runsAt opRingsConfig 0x0D05 (spk 0x0D05 root (w (4 :: List.range 31))) (ready .idle) (fun _ _ => true) = true := by
  exact runs_spk rfl (by decide) (by decide +kernel)

/-- Every clause for a plain packet of SecurityCommands executes somewhere. -/
theorem met_SecurityCommands :
    runsAt opSecInfo 0x0E00 (pk 0x0E00 root ([])) (ready .idle) (fun _ _ => true) = true :=
  by decide +kernel

/-- Every clause for a SECURE packet of SecurityCommands executes somewhere. -/
theorem met_SecurityCommands_secure :
    runsAt opWorldAssign 0x0E01 (spk 0x0E01 root (w [4095, 0])) (ready .idle) (fun _ _ => true) = true
      ∧ runsAt opKeyProvision 0x0E02 (spk 0x0E02 root (w [0] ++ key1 ++ leBytes 4 (crc32c key1).toNat)) (ready .config) (fun _ _ => true) = true
      ∧ runsAt opUpdateBegin 0x0E03 (spk 0x0E03 root ([])) (ready .update) (fun _ _ => true) = true
      ∧ runsAt opUpdateVerify 0x0E04 (spk 0x0E04 root ([])) (slotB .update .writing) (fun u _ => u.sec.find .writing == some true && u.imageResult true == 1) = true
      ∧ runsAt opUpdateCommit 0x0E05 (spk 0x0E05 root ([])) (slotB .update .written) (fun _ _ => true) = true
      ∧ runsAt opUpdateConfirm 0x0E06 (spk 0x0E06 root ([])) (slotB .idle .trial) (fun u _ => u.sec.find .trial == some true && u.sec.find .active == some false) = true
      ∧ runsAt opUpdateConfirm 0x0E06 (spk 0x0E06 root ([])) ({ slotB .idle .trial with sec := { (slotB .idle .trial).sec with slotA := State.reset.sec.slotB } }) (fun u _ => u.sec.find .trial == some true && u.sec.find .active == none) = true := by
  and_intros <;> exact runs_spk rfl (by decide) (by decide +kernel)

/-- Every clause of FrameCommands executes somewhere. -/
theorem met_FrameCommands :
    runsAt opFrameCreate 0x0F00 (pk 0x0F00 (at1 254) (b8 [0, 1, 0, 0] ++ at2 1 0)) (ready .idle) (fun u c => u.newPlace c.lv == some (none, 254)) = true
      ∧ runsAt opFrameDelete 0x0F01 (pk 0x0F01 (at1 6) ([])) (fronts fun f => { f with frames := [⟨1, some 6, 0, [(0, .leaf .spi)]⟩], nextFrame := 2 }) (fun _ c => c.target == .frame 1) = true
      ∧ runsAt opFrameAdd 0x0F02 (pk 0x0F02 (at1 6) (b8 [1, 0, 0, 0] ++ at2 1 0)) (fronts fun f => { f with frames := [⟨1, some 6, 0, [(0, .leaf .spi)]⟩], nextFrame := 2 }) (fun _ c => c.target == .frame 1) = true
      ∧ runsAt opFrameRemove 0x0F03 (pk 0x0F03 (at1 6) (b8 [1, 0, 0, 0] ++ at2 5 3)) (fronts fun f => { f with frames := [⟨1, some 6, 0, [(0, .leaf .spi)]⟩], nextFrame := 2 }) (fun _ c => c.target == .frame 1) = true
      ∧ runsAt opFrameList 0x0F04 (pk 0x0F04 (at1 6) ([])) (fronts fun f => { f with frames := [⟨1, some 6, 0, [(0, .leaf .spi)]⟩], nextFrame := 2 }) (fun _ c => c.target == .frame 1) = true
      ∧ runsAt opFrameAttr 0x0F05 (pk 0x0F05 (at1 6) (w [1])) (fronts fun f => { f with frames := [⟨1, some 6, 0, [(0, .leaf .spi)]⟩], nextFrame := 2 }) (fun _ c => c.target == .frame 1) = true :=
  by decide +kernel

/-! ## Witnesses: a state that meets the premises of each clause of the statements on events, at a bound of what its values may be -/

/-- Whether the command `i` is ready at a state and its condition holds when its time comes. -/
abbrev meets (_ : Nat → Instr) (ready cond : State → Prop) (s : State) : Prop := ready s ∧ cond (s.touch 0)


/-- A message with its CRC, and the parts of the states and the conditions below. -/
def msg (type : Nat) (dst : Byte) (payload : List Byte) : Msg :=
  let m : Msg := { src := 0, dst := dst, flags := 0, seq := 0, payload := payload, crc := 0, whole := true, parity := 0 }
  { m with crc := msgCrc type m }
def alert0 (n : Nat) : Alert := { seq := 1, code := 2, severity := 1, tally := 0, path := root, time := 0, payload := [], sentAt := 0, resent := n }
def xfer0 : Transfer := { id := 1, session := 9, kind := 1, offset := 0, length := 4, crc := 0, got := [], secure := false, lastAt := 0 }
def sched0 : Sched := ⟨1, 0x0011, { raw 4 root [] with sequence := 3, atNs := 1 }, false, 5⟩
def pkgR : Pkg := { pkg0 with beamMask := 128, beams := List.replicate 8 ⟨0, 1, 0, 0, [], true, false⟩ }
def rel0 : Rel :=
  { place := .main 0, record := ⟨3, 0, 0, 0, origin, List.replicate 16 0⟩, start := 0, begins := 0, complete := 1, segs := [], gates := [], pieces := [], round := 0
    endPt := origin, rawEnd := origin, clamped := 0, fromPt := origin, fromRaw := origin, fromDone := 0, fromChain := false }
def frame0 : RxFrame := { num := 7, width := 2, height := 1, bits := 8, lines := [], bad := false }
def announce0 : Announce := ⟨0, 0, 0, 0, 0, 7, 0, 0, false, 0, 0, 1, 9⟩
def openedRound (s : State) : State :=
  let v := (beams.filter fun b => (s.gasUpdate.kerf b).notice).foldl (fun st b => st.takeFailure b (roundStart s.now + s.leadNs) (roundLabel s.now)) s.gasUpdate
  (beams.foldl (fun st b => st.commitStick b) v.pruneImports).settleRevocations
def movedBoundary (s : State) : State :=
  let v := (s.reach s.veneer.nextLive).onVeneer fun n => { n with nextLive := n.nextLive + s.regF 0x06000028 0 16 * milli }
  if v.regB vnConfig 2 = true then v.heatStart else v
def shownFrame (s : State) : State := if s.badTiles = 0 then s else s.count vnDecodeErr s.badTiles
def edgeSeen (p : Fin 8) (positive level : Bool) (s : State) : State := s.onAxis p fun a =>
  if positive then { a with limP := level == s.regB (mpReg p 4) 11, edgesP := (s.now :: a.edgesP.filter fun e => decide (s.now ≤ e + 100 * milli)).take 16 }
  else { a with limN := level == s.regB (mpReg p 4) 11, edgesN := (s.now :: a.edgesN.filter fun e => decide (s.now ≤ e + 100 * milli)).take 16 }

/-- What holds of whatever an empty option holds. -/
theorem none_some {α : Type} {o : Option α} {P : α → Prop} (h : o = none) : ∀ c, o = some c → P c := by
  subst h
  exact fun _ h => nomatch h

/-- Clauses of PowerAndResetEvents are met somewhere. -/
theorem met_PowerAndResetEvents :
    (meets .porRelease (fun s => s.power.power ≠ .on) ((fun s => s.power.power = .filtering)) (State.reset))
      ∧ (meets .pinReset (fun s => s.power.power = .on) ((fun s => s.power.resetNLow = false ∧ s.resetHeld = false)) (ready .idle))
      ∧ (meets .pinReset (fun s => s.power.power = .on) ((fun s => s.power.resetNLow = false ∧ s.resetHeld = true)) ((ready .idle).onPower fun p => { p with heldRef := true }))
      ∧ (meets .pinReset (fun s => s.power.power ≠ .on) ((fun _ => True)) (State.reset))
      ∧ (meets .resetNRise (fun s => s.power.power = .on) ((fun s => s.power.heldPin = true ∧ s.power.heldThermal = false ∧ s.power.heldRef = false)) ((ready .idle).onPower fun p => { p with heldPin := true }))
      ∧ (meets .resetNRise (fun s => s.power.power = .on) ((fun s => s.power.heldThermal = true ∨ s.power.heldRef = true)) ((ready .idle).onPower fun p => { p with heldRef := true }))
      ∧ (meets .watchdog (fun s => s.awake = true) ((fun _ => True)) (ready .boot))
      ∧ (meets .thermalTrip (fun s => s.power.power = .on) ((fun s => s.resetHeld = false)) (ready .idle)) :=
  by decide +kernel

/-- Clauses of PowerAndResetEvents are met somewhere. -/
theorem met_PowerAndResetEvents_1 :
    (meets .thermalTrip (fun s => s.power.power = .on) ((fun s => s.resetHeld = true)) ((ready .idle).onPower fun p => { p with heldPin := true }))
      ∧ (meets .thermalRelease (fun s => s.power.power = .on) ((fun s => s.power.heldPin = false ∧ s.power.heldThermal = true ∧ s.power.heldRef = false)) ((ready .idle).onPower fun p => { p with heldThermal := true }))
      ∧ (meets .referenceLoss (fun s => s.power.power = .on) ((fun s => s.power.ref25 = true ∧ s.resetHeld = false)) (ready .idle))
      ∧ (meets .referenceLoss (fun s => s.power.power ≠ .on) ((fun _ => True)) (State.reset))
      ∧ (meets .referenceRestored (fun s => s.power.power = .on) ((fun s => s.power.heldPin = false ∧ s.power.heldThermal = false ∧ s.power.heldRef = true)) ((ready .idle).onPower fun p => { p with heldRef := true })) :=
  by decide +kernel

/-- Clauses of PowerAndResetEvents are met somewhere. -/
theorem met_PowerAndResetEvents_2 :
    (∃ vin, meets (fun t => .powerOn t vin) (fun s => s.power.power ≠ .on) ((fun s => s.power.power = .off ∧ 4800 < vin)) ({ State.reset with power := { State.reset.power with power := .off } }))
      ∧ (∃ vin, meets (fun t => .brownOut t vin) (fun s => s.power.power ≠ .on) ((fun s => s.power.power = .filtering ∧ vin < 4600)) (State.reset))
      ∧ (∃ vin, meets (fun t => .brownOut t vin) (fun s => s.power.power = .on) ((fun s => vin < 4600 ∧ (((s.setLatches 1).vinSeen vin).regB supplyStatus 8 = true ∨ ((s.setLatches 1).vinSeen vin).mode.mode = .sill))) ((ready .idle).setB supplyStatus 8 true))
      ∧ (∃ vin, meets (fun t => .brownOut t vin) (fun s => s.power.power = .on) ((fun s => vin < 4600 ∧ ((s.setLatches 1).vinSeen vin).regB supplyStatus 8 = false ∧ ((s.setLatches 1).vinSeen vin).mode.mode ≠ .sill ∧ ((s.setLatches 1).vinSeen vin).power.porAt + 24 * milli ≤ ((s.setLatches 1).vinSeen vin).now)) ({ ready .idle with now := 24 * milli }))
      ∧ (∃ spi, meets (fun t => .wakeEvent t spi) (fun s => s.power.power = .on) ((fun s => s.asleep = true)) (ready .sill))
      ∧ (∃ a, meets .wakeAlarm (fun s => s.power.power = .on) ((fun s => s.asleep = true ∧ s.power.wakeAlarm = some a)) ((ready .sill).onPower fun p => { p with wakeAlarm := some 7 })) :=
  by
  refine ⟨⟨4801, ?_⟩,
    ⟨4599, ?_⟩,
    ⟨4599, ?_⟩,
    ⟨4599, ?_⟩,
    ⟨false, ?_⟩,
    ⟨7, ?_⟩⟩
  all_goals decide +kernel

/-- Clauses of SupervisorEvents are met somewhere. -/
theorem met_SupervisorEvents :
    (meets .ref32Loss (fun s => s.power.power = .on) ((fun s => s.regB supplyStatus 9 = false)) (ready .idle))
      ∧ (meets .ref32Restored (fun s => s.power.power = .on) ((fun s => s.regB supplyStatus 9 = true)) ((ready .idle).setB supplyStatus 9 true)) :=
  by decide +kernel

/-- Clauses of SupervisorEvents are met somewhere. -/
theorem met_SupervisorEvents_1 :
    (∃ chanB width, meets (fun t => .laserEnFall t chanB width) (fun s => s.power.power = .on) ((fun s : State =>
  let high (chanB : Bool) (s : State) : Prop := (if chanB then s.safety.enB else s.safety.enA) = true
  ((fun s => high chanB s ∧ 100 ≤ width)) s)) ((ready .idle).onSafety fun c => { c with enA := true, enB := true }))
      ∧ (∃ chanB width, meets (fun t => .laserEnFall t chanB width) (fun s => s.power.power ≠ .on) ((fun _ => True)) (State.reset))
      ∧ (∃ chanB, meets (fun t => .laserEnRise t chanB) (fun s => s.power.power = .on) ((fun _ => True)) (ready .idle))
      ∧ (∃ chanB, meets (fun t => .laserEnRise t chanB) (fun s => s.power.power ≠ .on) ((fun _ => True)) (State.reset))
      ∧ (∃ d, meets .discrepancy (fun s => s.power.power = .on) ((fun s => s.safety.discSince = some d)) ((ready .idle).onSafety fun c => { c with discSince := some 5 }))
      ∧ (∃ mv, meets (fun t => .vinWarning t mv) (fun s => s.power.power = .on) ((fun s => mv < 5600 ∧ s.regB supplyStatus 0 = false)) (ready .idle))
      ∧ (∃ mv, meets (fun t => .vinWarning t mv) (fun s => s.power.power = .on) ((fun s => mv < 5600 ∧ s.regB supplyStatus 0 = true)) ((ready .idle).setB supplyStatus 0 true))
      ∧ (∃ mv, meets (fun t => .supplyDip t mv) (fun s => s.power.power = .on) ((fun s => s.power.dipActive = true ∧ 5800 < mv)) ((ready .idle).onPower fun p => { p with dipActive := true })) :=
  by
  refine ⟨⟨true, 100, ?_⟩,
    ⟨false, 0, ?_⟩,
    ⟨false, ?_⟩,
    ⟨false, ?_⟩,
    ⟨5, ?_⟩,
    ⟨5599, ?_⟩,
    ⟨5599, ?_⟩,
    ⟨5801, ?_⟩⟩
  all_goals decide +kernel

/-- Clauses of SupervisorEvents are met somewhere. -/
theorem met_SupervisorEvents_2 :
    (∃ mv, meets (fun t => .vinHigh t mv) (fun s => s.power.power = .on) ((fun s => s.regB supplyStatus 2 ≠ decide (41000 < mv))) (ready .idle))
      ∧ (∃ mv, meets (fun t => .holdupLow t mv) (fun s => s.power.power = .on) ((fun s => s.regB supplyStatus 8 ≠ decide (mv < 4800))) (ready .idle))
      ∧ (∃ temp, meets (fun t => .tempWarning t temp) (fun s => s.power.power = .on) ((fun s => s.regB supplyStatus 7 ≠ decide (25600 ≤ signed 16 temp.toNat))) (ready .idle))
      ∧ (∃ mv, meets (fun t => .vmotFault t mv) (fun s => s.power.power = .on) ((fun s => (s.regB supplyStatus 3 = true ∨ s.regB supplyStatus 4 = true) ∧ s.regF 0x0B000014 0 16 ≤ mv ∧ mv ≤ s.regF 0x0B000014 16 16)) ((ready .idle).setB supplyStatus 4 true))
      ∧ (∃ mv, meets (fun t => .vmotFault t mv) (fun s => s.power.power = .on) ((fun s => s.regB supplyStatus 3 = false ∧ s.regB supplyStatus 4 = false ∧ (mv < s.regF 0x0B000014 0 16 ∨ s.regF 0x0B000014 16 16 < mv))) ((ready .idle).setF 0x0B000014 0 16 5))
      ∧ (∃ mv, meets (fun t => .vledFault t mv) (fun s => s.power.power = .on) ((fun s => s.regB supplyStatus 5 = false ∧ s.regB supplyStatus 6 = false ∧ (mv < s.regF 0x0B000018 0 16 ∨ s.regF 0x0B000018 16 16 < mv))) ((ready .idle).setF 0x0B000018 0 16 5))
      ∧ (∃ b commanded duration, meets (fun t => .gateMismatch t b commanded duration) (fun s => s.runs = true) ((fun s => 20 ≤ duration ∧ (s.mode.mode.beamOn = true ∨ s.safety.laserLatch = true))) (ready .expose))
      ∧ (∃ a r, memRegion a = some r ∧ meets (fun t => .memoryCe t a) (fun s => s.awake = true) ((fun _ => True)) (ready .idle)) :=
  by
  refine ⟨⟨41001, ?_⟩,
    ⟨4799, ?_⟩,
    ⟨(25600 : BitVec 16), ?_⟩,
    ⟨((State.reset.regF 0x0B000014 0 16)), ?_⟩,
    ⟨4, ?_⟩,
    ⟨4, ?_⟩,
    ⟨0, false, 20, ?_⟩,
    ⟨0x10000000, 0, ?_⟩⟩
  all_goals decide +kernel

/-- Clauses of SupervisorEvents are met somewhere. -/
theorem met_SupervisorEvents_3 :
    (∃ a r, memRegion a = some r ∧ meets (fun t => .memoryUe t a) (fun s => s.awake = true) ((fun _ => True)) (ready .idle)) :=
  by
  refine ⟨0x4FFFFFFFC, 14, ?_⟩
  all_goals decide +kernel

/-- Clauses of PacketFrontEvents are met somewhere. -/
theorem met_PacketFrontEvents :
    (meets .spiStatus (fun s => s.power.power = .on) ((fun s => s.mode.mode ≠ .sill)) (ready .boot)) :=
  by decide +kernel

/-- Clauses of PacketFrontEvents are met somewhere. -/
theorem met_PacketFrontEvents_1 :
    (∃ bs op p, parsePacket .spi ⟨0, 0, 0⟩ bs = some (op, p) ∧ meets (fun t => .spiWrite t bs) (fun s => s.runs = true) ((fun s => s.regB 0x3000 16 = true)) (ready .idle))
      ∧ (∃ bs, parsePacket .spi ⟨0, 0, 0⟩ bs = none ∧ meets (fun t => .spiWrite t bs) (fun s => s.runs = true) ((fun s => s.regB 0x3000 16 = true)) (ready .idle))
      ∧ (∃ n, meets (fun t => .spiRead t n) (fun s => s.runs = true) ((fun s => s.front.spiOut = [])) (ready .idle))
      ∧ (∃ n b r, meets (fun t => .spiRead t n) (fun s => s.runs = true) ((fun s => s.front.spiOut = b :: r ∧ 2 + b.length ≤ n)) (fronts fun f => { f with spiOut := [[7, 8]] }))
      ∧ (∃ n b r, meets (fun t => .spiRead t n) (fun s => s.runs = true) ((fun s => s.front.spiOut = b :: r ∧ n < 2 + b.length)) (fronts fun f => { f with spiOut := [[7, 8]] }))
      ∧ (∃ port bs f, f ≠ .badMac ∧ meets (fun t => .packetDiscard t port bs f) (fun s => s.runs = true) ((fun s => s.takes port = true ∧ s.fits port bs.length = true ∧ port ≠ .rafter ∧ ((f = .badUdp ∧ port ≠ .spi) ∨ parsePacket port ⟨0, 0, 0⟩ bs = none))) (ready .idle))
      ∧ (∃ port bs f, meets (fun t => .packetDiscard t port bs f) (fun s => s.runs = true) ((fun s => s.takes port = true ∧ (f = .badMac ∨ s.fits port bs.length = false))) (ready .idle))
      ∧ (∃ k se, meets (fun t => .sessionTimeout t k) (fun s => s.runs = true) ((fun s => s.front.sessions.find? (fun x => x.slot == k) = some se)) (ready .idle)) :=
  by
  refine ⟨⟨(rawPacket 0 (pk 0 root [])), 0, (pk 0 root []), ?_⟩,
    ⟨[], ?_⟩,
    ⟨4, ?_⟩,
    ⟨4, [7, 8], [], ?_⟩,
    ⟨3, [7, 8], [], ?_⟩,
    ⟨.spi, [], .sound, ?_⟩,
    ⟨.spi, [], .badMac, ?_⟩,
    ⟨0, sess, ?_⟩⟩
  all_goals decide +kernel

/-- Clauses of PacketFrontEvents are met somewhere. -/
theorem met_PacketFrontEvents_2 :
    (∃ k q se a, meets (fun t => .alertRetransmit t k q) (fun s => s.runs = true) ((fun s => s.front.sessions.find? (fun x => x.slot == k) = some se ∧ se.alerts.find? (fun a => a.seq == q.toNat) = some a ∧ a.resent < 5)) (fronts fun f => { f with sessions := [{ sess with alerts := [alert0 4] }] }))
      ∧ (∃ k q se a, meets (fun t => .alertRetransmit t k q) (fun s => s.runs = true) ((fun s => s.front.sessions.find? (fun x => x.slot == k) = some se ∧ se.alerts.find? (fun a => a.seq == q.toNat) = some a ∧ 5 ≤ a.resent)) (fronts fun f => { f with sessions := [{ sess with alerts := [alert0 5] }] }))
      ∧ (∃ id x, meets (fun t => .bulkTimeout t id) (fun s => s.runs = true) ((fun s => s.transfer id.toNat = some x)) (fronts fun f => { f with transfers := [xfer0] }))
      ∧ (∃ e, meets .scheduledExecute (fun s => s.runs = true) ((fun s : State =>
  let led (s : State) : Option (Nat × Nat) := (sortBy (fun (c : Nat × Nat) => c.1) s.lights.commits).head?
  ((fun s => s.schedule.head? = some e ∧ (∀ c, led s = some c → e.due ≤ c.1) ∧ ∀ m ∈ s.front.moves, e.due ≤ m.1)) s)) (fronts fun f => { f with sched := [sched0] }))
      ∧ (∃ c, meets .scheduledExecute (fun s => s.runs = true) ((fun s : State =>
  let led (s : State) : Option (Nat × Nat) := (sortBy (fun (c : Nat × Nat) => c.1) s.lights.commits).head?
  ((fun s => led s = some c ∧ (∀ e, s.schedule.head? = some e → c.1 < e.due) ∧ ∀ m ∈ s.front.moves, c.1 ≤ m.1)) s)) ((ready .idle).onLights fun l => { l with commits := [(4, 1)] }))
      ∧ (∃ m, meets .scheduledExecute (fun s => s.runs = true) ((fun s : State =>
  let led (s : State) : Option (Nat × Nat) := (sortBy (fun (c : Nat × Nat) => c.1) s.lights.commits).head?
  ((fun s => (sortBy (fun (m : Nat × Nat) => m.1) s.front.moves).head? = some m ∧ (∀ e, s.schedule.head? = some e → m.1 < e.due) ∧ ∀ c, led s = some c → m.1 < c.1)) s)) (fronts fun f => { f with moves := [(4, 1)] })) :=
  by
  refine ⟨⟨0, (1 : Word), { sess with alerts := [alert0 4] }, (alert0 4), ?_⟩,
    ⟨0, (1 : Word), { sess with alerts := [alert0 5] }, (alert0 5), ?_⟩,
    ⟨((1 : BitVec 16)), xfer0, ?_⟩,
    ⟨sched0, by decide +kernel, by decide +kernel, none_some (by decide +kernel), by decide +kernel⟩,
    ⟨(4, 1), by decide +kernel, by decide +kernel, none_some (by decide +kernel), by decide +kernel⟩,
    ⟨(4, 1), by decide +kernel, by decide +kernel, none_some (by decide +kernel), none_some (by decide +kernel)⟩⟩
  all_goals decide +kernel

/-- Clauses of LayerEvents are met somewhere. -/
theorem met_LayerEvents :
    (meets .pauseReached (fun s => s.runs = true) ((fun s => s.mode.transition = some .pause ∧ s.enginesStill = true ∧ ¬ (s.chain.manager = true ∧ s.chainDone = true))) ((ready .expose).onMode fun m => { m with transition := some .pause }))
      ∧ (meets .pauseReached (fun s => s.runs = true) ((fun s => s.mode.transition = some .pause ∧ s.enginesStill = true ∧ s.chain.manager = true ∧ s.chainDone = true)) (((ready .expose).onMode fun m => { m with transition := some .pause }).onLayers fun l => { l with active := .complete }))
      ∧ (meets .layerEndMove (fun s => s.runs = true) ((fun s => s.chain.manager = true ∧ s.mode.mode = .expose ∧ s.chainDone = true ∧ s.chainUncovered = true)) ((ready .expose).onLayers fun l => { l with active := .complete, uncovered := [0] }))
      ∧ (meets .layerChecked (fun s => s.runs = true) ((fun s : State =>
  let base (s : State) : Nat := halfBase (!s.layers.halfB)
  ((fun s => s.layers.inactive = .checking ∧ s.halfCovers (s.readPkg (base s)).length = true ∧ s.headCheck (base s) (s.readPkg (base s)) = none ∧ s.bodyCheck (base s) (s.readPkg (base s)) = none)) s)) ((({ ready .idle with mem := Memory.writes [] (halfBase true) (w [0x504C464B, 1, 0, 0, 832]) } : State).onLayers fun l => { l with inactive := .checking }).onFront fun f => { f with areaOk := [(halfBase true, halfBase true + 832)] }))
      ∧ (meets .layerChecked (fun s => s.runs = true) ((fun s : State =>
  let base (s : State) : Nat := halfBase (!s.layers.halfB)
  ((fun s => s.layers.inactive = .checking ∧ s.halfCovers (s.readPkg (base s)).length = false)) s)) (({ ready .idle with mem := Memory.writes [] (halfBase true) (w [0x504C464B, 1, 0, 0, 832]) } : State).onLayers fun l => { l with inactive := .checking })) :=
  by decide +kernel

/-- Clauses of LayerEvents are met somewhere. -/
theorem met_LayerEvents_1 :
    (∃ p, meets .layerEndMove (fun s => s.runs = true) ((fun s => s.chain.manager = true ∧ s.mode.mode = .expose ∧ s.chainDone = true ∧ s.chainUncovered = false ∧ s.layers.activePkg = some p)) ((ready .expose).onLayers fun l => { l with active := .complete, activePkg := some pkg0 }))
      ∧ (∃ f, meets .layerChecked (fun s => s.runs = true) ((fun s : State =>
  let base (s : State) : Nat := halfBase (!s.layers.halfB)
  ((fun s => s.layers.inactive = .checking ∧ s.halfCovers (s.readPkg (base s)).length = true ∧ s.headCheck (base s) (s.readPkg (base s)) = some f)) s)) ((({ ready .idle with mem := Memory.writes [] (halfBase true) (w [0x504C464A, 1, 0, 0, 832]) } : State).onLayers fun l => { l with inactive := .checking }).onFront fun f => { f with areaOk := [(halfBase true, halfBase true + 832)] }))
      ∧ (∃ f, meets .layerChecked (fun s => s.runs = true) ((fun s : State =>
  let base (s : State) : Nat := halfBase (!s.layers.halfB)
  ((fun s => s.layers.inactive = .checking ∧ s.halfCovers (s.readPkg (base s)).length = true ∧ s.headCheck (base s) (s.readPkg (base s)) = none ∧ s.bodyCheck (base s) (s.readPkg (base s)) = some f)) s)) ((({ ready .idle with mem := Memory.writes [] (halfBase true) (w [0x504C464B, 1, 0, 0, 864, 0, 0, 0, 0, 1, 0, 0, 0, 0, 0, 0, 832, 1, 0, 0] ++ List.replicate 752 0 ++ [99]) } : State).onLayers fun l => { l with inactive := .checking }).onFront fun f => { f with areaOk := [(halfBase true, halfBase true + 864)] })) :=
  by
  refine ⟨⟨pkg0, ?_⟩,
    ⟨failAt 1, ?_⟩,
    ⟨⟨5, 0, 0xFFFF, 0⟩, ?_⟩⟩
  all_goals decide +kernel

/-- Clauses of RegisterEvents are met somewhere. -/
theorem met_RegisterEvents :
    (meets .refuseCauseRead (fun s => s.runs = true) ((fun _ => True)) (ready .idle))
      ∧ (meets .vinMinRead (fun s => s.runs = true) ((fun _ => True)) (ready .idle))
      ∧ (meets .devTimeEraRead (fun s => s.runs = true) ((fun _ => True)) (ready .idle)) :=
  by decide +kernel

/-- Clauses of RegisterEvents are met somewhere. -/
theorem met_RegisterEvents_1 :
    (∃ (b : Fin 48), ∃ (secure enable : Bool), meets (fun t => .mtConfigEnableWrite t b secure enable) (fun s => s.runs = true) ((fun s : State =>
  let w : RegWr := { addr := mtConfig b, val := word (bit enable), mask := 1, causeA := 0, causeV := 0 }
  ((fun s => s.writesDenied secure [w] = false ∧ s.writesMode [w] = false ∧ s.writesBad [w] = none ∧ s.writesBusy [w] = false)) s)) (ready .idle))
      ∧ (∃ (b : Fin 48), ∃ (secure : Bool), ∃ (profile : Fin 8), meets (fun t => .traceArm t b secure profile) (fun s => s.runs = true) ((fun s : State =>
  let w : RegWr := { addr := beamReg b 0x5030, val := word (1 + 2 * profile.val), mask := allBits, causeA := 0, causeV := 0 }
  ((fun s => s.writesDenied secure [w] = false ∧ s.writesMode [w] = false ∧ s.writesBad [w] = none ∧ s.writesBusy [w] = false)) s)) (ready .idle))
      ∧ (∃ (secure : Bool), ∃ (a : Nat), ∃ (v : Word), grainWindowReg a = true ∧ meets (fun t => .grainWindowWrite t secure a v) (fun s => s.runs = true) ((fun s : State =>
  let w : RegWr := { addr := a, val := v, mask := allBits, causeA := 0, causeV := 0 }
  ((fun s => s.writesDenied secure [w] = false ∧ s.writesMode [w] = false ∧ s.writesBad [w] = none ∧ s.writesBusy [w] = false)) s)) (ready .idle))
      ∧ (∃ (b : Fin 48), ∃ (secure enable : Bool), meets (fun t => .mtConfigEnableWrite t b secure enable) (fun s => s.runs = true) ((fun s : State =>
  let w : RegWr := { addr := mtConfig b, val := word (bit enable), mask := 1, causeA := 0, causeV := 0 }
  ((fun s => s.writesDenied secure [w] = true)) s)) ((ready .idle).setReg 0x0A000004 0xFFFFFFFF))
      ∧ (∃ (b : Fin 48), ∃ (secure : Bool), ∃ (profile : Fin 8), meets (fun t => .traceArm t b secure profile) (fun s => s.runs = true) ((fun s : State =>
  let w : RegWr := { addr := beamReg b 0x5030, val := word (1 + 2 * profile.val), mask := allBits, causeA := 0, causeV := 0 }
  ((fun s => s.writesDenied secure [w] = true)) s)) ((ready .idle).setReg 0x0A000004 0xFFFFFFFF))
      ∧ (∃ (secure : Bool), ∃ (a : Nat), ∃ (v : Word), grainWindowReg a = true ∧ meets (fun t => .grainWindowWrite t secure a v) (fun s => s.runs = true) ((fun s : State =>
  let w : RegWr := { addr := a, val := v, mask := allBits, causeA := 0, causeV := 0 }
  ((fun s => s.writesDenied secure [w] = true)) s)) ((ready .idle).setReg 0x0A000004 0xFFFFFFFF))
      ∧ (∃ (b : Fin 48), ∃ (secure enable : Bool), meets (fun t => .mtConfigEnableWrite t b secure enable) (fun s => s.runs = true) ((fun s : State =>
  let w : RegWr := { addr := mtConfig b, val := word (bit enable), mask := 1, causeA := 0, causeV := 0 }
  ((fun s => s.writesDenied secure [w] = false ∧ (s.writesMode [w] = true ∨ (s.writesBad [w]).isSome = true ∨ s.writesBusy [w] = true))) s)) (ready .expose))
      ∧ (∃ (secure : Bool), ∃ (a : Nat), ∃ (v : Word), grainWindowReg a = true ∧ meets (fun t => .grainWindowWrite t secure a v) (fun s => s.runs = true) ((fun s : State =>
  let w : RegWr := { addr := a, val := v, mask := allBits, causeA := 0, causeV := 0 }
  ((fun s => s.writesDenied secure [w] = false ∧ (s.writesMode [w] = true ∨ (s.writesBad [w]).isSome = true ∨ s.writesBusy [w] = true))) s)) (ready .idle)) :=
  by
  refine ⟨⟨47, false, false, ?_⟩,
    ⟨47, false, 7, ?_⟩,
    ⟨false, 0x0480001C, 0, ?_⟩,
    ⟨47, false, false, ?_⟩,
    ⟨47, false, 7, ?_⟩,
    ⟨false, 0x0480001C, 0, ?_⟩,
    ⟨47, false, true, ?_⟩,
    ⟨false, 0x04800018, 0, ?_⟩⟩
  all_goals decide +kernel

/-- Clauses of RegisterEvents are met somewhere. -/
theorem met_RegisterEvents_2 :
    (∃ p, meets (fun t => .ackPendingWrite t (.motor p)) (fun s => s.runs = true) ((fun _ => True)) (ready .idle))
      ∧ (∃ u, (∀ p, u ≠ .motor p) ∧ meets (fun t => .ackPendingWrite t u) (fun s => s.runs = true) ((fun _ => True)) (ready .idle)) :=
  by
  refine ⟨⟨0, ?_⟩,
    ⟨.beam 47, ?_⟩⟩
  all_goals decide +kernel

/-- Clauses of BeamPortEvents are met somewhere. -/
theorem met_BeamPortEvents :
    (∃ b x y z n, meets (fun t => .jogDone t b) (fun s => s.runs = true ∧ s.mode.mode.beamOn = true) ((fun s => (s.chan b).jog = some (x, y, z, n) ∧ (s.chan b).hold = (x, y, z))) ((ready .service).onChan 0 fun c => { c with jog := some (1, 2, 3, 4), hold := (1, 2, 3) }))
      ∧ (∃ b frame, meets (fun t => .returnFrame t b frame) (fun s => s.runs = true) ((fun s => (s.chan b).running = true ∧ ((returnFields frame).1 = false ∨ (returnFields frame).2.2.2.1 ≠ (s.chan b).selNext ∧ (s.chan b).selNext ≠ 4))) ((ready .expose).onChan 0 fun c => { c with running := true, goodRun := 8 }))
      ∧ (∃ b frame, meets (fun t => .returnFrame t b frame) (fun s => s.runs = true) ((fun s => (s.chan b).running = true ∧ (returnFields frame).1 = true ∧ ((s.chan b).selNext = (returnFields frame).2.2.2.1 ∨ (s.chan b).selNext = 4))) ((ready .expose).onChan 0 fun c => { c with running := true, goodRun := 8 }))
      ∧ (∃ b tap, meets (fun t => .returnLinkLock t b tap) (fun s => s.runs = true) ((fun s => (s.chan b).running = true ∧ s.rxLock b = false ∧ 8 ≤ (s.chan b).goodRun)) ((ready .expose).onChan 0 fun c => { c with running := true, goodRun := 8 }))
      ∧ (∃ b at_, meets (fun t => .lockTimeout t b) (fun s => s.runs = true ∧ s.mode.mode.beamOn = true) ((fun s => (s.chan b).startAt = some at_ ∧ s.rxLock b = false)) ((ready .expose).onChan 0 fun c => { c with startAt := some 3 }))
      ∧ (∃ b locked rdy alm, meets (fun t => .attachmentCheck t b locked rdy alm) (fun s => s.runs = true) ((fun s => s.beamEnabled b = true ∧ s.unitState (.beam b) = stAbsent ∧ s.beamClock.beamEnabled b = true ∧ s.beamClock.unitState (.beam b) = stAbsent)) ((ready .expose).setB (mtConfig 47) 0 true))
      ∧ (∃ b, meets (fun t => .linkEscalation t b) (fun s => s.runs = true ∧ s.mode.mode.beamOn = true) ((fun s => s.linkBad b = true ∧ (s.chan b).running = true)) ((ready .expose).onChan 0 fun c => { c with running := true, badRun := 16 }))
      ∧ (∃ b, meets (fun t => .scannerTracking t b) (fun s => s.runs = true ∧ s.mode.mode.beamOn = true) ((fun s => s.posActive b = true ∧ s.regF (beamReg b 0x1004) 24 8 ≠ 0 ∧ s.regF (beamReg b 0x1004) 24 8 ≤ max (s.chan b).trackX (max (s.chan b).trackY (s.chan b).trackZ))) ((((ready .expose).setB (mtStatus 0) 1 true).setF (beamReg 0 0x1004) 24 8 2).onChan 0 fun c => { c with trackZ := 2 })) :=
  by
  refine ⟨⟨0, 1, 2, 3, 4, ?_⟩,
    ⟨0, 0, ?_⟩,
    ⟨0, (BitVec.ofNat 50 (6 * 2 ^ 47 + crc16 31 0)), ?_⟩,
    ⟨0, 0, ?_⟩,
    ⟨0, 3, ?_⟩,
    ⟨47, false, true, true, ?_⟩,
    ⟨0, ?_⟩,
    ⟨0, ?_⟩⟩
  all_goals decide +kernel

/-- Clauses of BeamPortEvents are met somewhere. -/
theorem met_BeamPortEvents_1 :
    (∃ b, meets (fun t => .almActive t b) (fun s => s.runs = true) ((fun s => (s.setB (tnStatus b) 1 true).beamEnabled b = true)) ((ready .expose).setB (mtConfig 47) 0 true))
      ∧ (∃ b, meets (fun t => .almActive t b) (fun s => s.runs = true) ((fun s => (s.setB (tnStatus b) 1 true).beamEnabled b = false)) (ready .expose))
      ∧ (∃ b, meets (fun t => .almInactive t b) (fun s => s.runs = true) ((fun _ => True)) (ready .idle))
      ∧ (∃ b, meets (fun t => .rdyInactive t b) (fun s => s.runs = true) ((fun s => (s.setB (tnStatus b) 0 false).rdyFails b = true)) (({ unlatched .expose with now := 100000 * milli } : State).setB (mtConfig 0) 0 true))
      ∧ (∃ b, meets (fun t => .rdyInactive t b) (fun s => s.runs = true) ((fun s => (s.setB (tnStatus b) 0 false).rdyFails b = false)) (ready .expose))
      ∧ (∃ b, meets (fun t => .rdyActive t b) (fun s => s.runs = true) ((fun _ => True)) (ready .idle))
      ∧ (∃ b, meets (fun t => .rdyGraceEnd t b) (fun s => s.runs = true ∧ s.mode.mode.beamOn = true) ((fun s => (s.reach (s.graceEnd b)).rdyFails b = true ∧ FailCause.laserNotReady ∉ (s.chan b).fails)) (({ unlatched .expose with now := 100000 * milli } : State).setB (mtConfig 0) 0 true))
      ∧ (∃ b stamp r, meets (fun t => .facetEdge t b stamp) (fun s => s.runs = true ∧ s.mode.mode.driveOn = true) ((fun s => s.raster b = some r ∧ s.isRaster b = true ∧ r.lastStamp < stamp ∧ r.periods.length = 32 ∧ 2 * (stamp - r.lastStamp) ≤ 3 * avgPeriod ((r.periods.map avgPeriod).filter (· ≠ 0)) ∧ r.facet + 1 < max 2 (s.regF (beamReg b 0x6000) 8 6) ∧ avgPeriod (r.periods.getD (r.facet + 1) []) = stamp - r.lastStamp)) ((((ready .expose).setB (beamReg 7 0x6000) 0 true).setF (beamReg 7 0x6000) 8 6 8).onRaster 7 fun _ => { initRaster with lastStamp := 100, periods := List.replicate 32 [200] })) :=
  by
  refine ⟨⟨47, ?_⟩,
    ⟨47, ?_⟩,
    ⟨0, ?_⟩,
    ⟨0, ?_⟩,
    ⟨0, ?_⟩,
    ⟨0, ?_⟩,
    ⟨0, ?_⟩,
    ⟨7, 300, ({ initRaster with lastStamp := 100, periods := List.replicate 32 [200] } : Raster), ?_⟩⟩
  all_goals decide +kernel

/-- Clauses of BeamPortEvents are met somewhere. -/
theorem met_BeamPortEvents_2 :
    (∃ b r, meets (fun t => .rasterLock t b) (fun s => s.runs = true ∧ s.mode.mode.driveOn = true) ((fun s => s.raster b = some r ∧ s.isRaster b = true ∧ r.locked = false ∧ 64 ≤ r.goodRun ∧ r.lostAt = none)) (((ready .expose).setB (beamReg 7 0x6000) 0 true).onRaster 7 fun _ => { initRaster with goodRun := 64 }))
      ∧ (∃ b r, meets (fun t => .rasterLock t b) (fun s => s.runs = true ∧ s.mode.mode.driveOn = true) ((fun s => s.raster b = some r ∧ s.isRaster b = true ∧ r.locked = false ∧ 64 ≤ r.goodRun ∧ r.lostAt ≠ none)) (((ready .expose).setB (beamReg 7 0x6000) 0 true).onRaster 7 fun _ => { initRaster with goodRun := 64, lostAt := some 3 }))
      ∧ (∃ b r, meets (fun t => .rasterSyncLoss t b) (fun s => s.runs = true ∧ s.mode.mode.driveOn = true) ((fun s => s.raster b = some r ∧ s.isRaster b = true ∧ r.locked = true ∧ (4 ≤ r.badRun ∨ r.misplaced = true))) (((ready .expose).setB (beamReg 7 0x6000) 0 true).onRaster 7 fun _ => { initRaster with locked := true, badRun := 4 }))
      ∧ (∃ b lost, meets (fun t => .rasterLossLimit t b) (fun s => s.runs = true ∧ s.mode.mode.beamOn = true) ((fun s => (s.raster b).bind (·.lostAt) = some lost ∧ s.isRaster b = true ∧ s.mode.mode.isLaser = true ∧ (s.reach (lost + s.regF (beamReg b 0x6004) 24 8 * milli)).rasterLeft b = true)) ((((ready .expose).setB (beamReg 7 0x6000) 0 true).onRaster 7 fun _ => { initRaster with lostAt := some 3 }).onLayers fun l => { l with active := .running, activePkg := some pkgR }))
      ∧ (∃ b count, meets (fun t => .fifoRefill t b count) (fun s => s.runs = true) ((fun s => (s.kerf b).engine.runs = true ∧ (s.kerf b).fifo.length + (s.kerf b).queue.length < 2048)) ((ready .expose).onKerf 0 fun k => { k with engine := .running })) :=
  by
  refine ⟨⟨7, ({ initRaster with goodRun := 64 } : Raster), ?_⟩,
    ⟨7, ({ initRaster with goodRun := 64, lostAt := some 3 } : Raster), ?_⟩,
    ⟨7, ({ initRaster with locked := true, badRun := 4 } : Raster), ?_⟩,
    ⟨7, 3, ?_⟩,
    ⟨0, 0, ?_⟩⟩
  all_goals decide +kernel

/-- Clauses of ScheduleOrder are met somewhere. -/
theorem met_ScheduleOrder :
    (∃ e, meets .scheduledExecute (fun s => s.runs = true) ((fun s => s.schedule.head? = some e ∧ s.lights.commits = [] ∧ s.front.moves = [])) (fronts fun f => { f with sched := [sched0] })) :=
  by
  refine ⟨sched0, ?_⟩
  all_goals decide +kernel

/-- Clauses of ExposureEvents are met somewhere. -/
theorem met_ExposureEvents :
    (meets .scannerTick (fun s => s.runs = true) ((fun _ => True)) (ready .idle))
      ∧ (meets .trussRound (fun s => s.runs = true) ((fun s : State =>
  let opened (s : State) : State :=
    let v := (beams.filter fun b => (s.gasUpdate.kerf b).notice).foldl (fun st b => st.takeFailure b (roundStart s.now + s.leadNs) (roundLabel s.now)) s.gasUpdate
    (beams.foldl (fun st b => st.commitStick b) v.pruneImports).settleRevocations
  ((fun s => ¬ (((opened s).mode.mode = .expose ∨ (opened s).mode.mode = .preheat) ∧ (opened s).mode.transition = none))) s)) (ready .idle))
      ∧ (meets .trussRound (fun s => s.runs = true) ((fun s : State =>
  let opened (s : State) : State :=
    let v := (beams.filter fun b => (s.gasUpdate.kerf b).notice).foldl (fun st b => st.takeFailure b (roundStart s.now + s.leadNs) (roundLabel s.now)) s.gasUpdate
    (beams.foldl (fun st b => st.commitStick b) v.pruneImports).settleRevocations
  ((fun s => ((opened s).mode.mode = .expose ∨ (opened s).mode.mode = .preheat) ∧ (opened s).mode.transition = none)) s)) (ready .expose)) :=
  by decide +kernel

/-- Clauses of ExposureEvents are met somewhere. -/
theorem met_ExposureEvents_1 :
    (∃ b r rest i, meets (fun t => .recordComplete t b) (fun s => s.runs = true ∧ s.mode.mode.beamOn = true) ((fun s : State =>
  let due (b : Fin 48) (r : Rel) (rest : List Rel) (s : State) : Prop :=
    (s.kerf b).rels = r :: rest ∧ ((s.kerf b).failed = true → r.complete / cyc ≤ (s.kerf b).failAt / cyc)
  ((fun s => due b r rest s ∧ r.place = .main i)) s)) ((ready .expose).onKerf 0 fun k => { k with rels := [rel0] }))
      ∧ (∃ b r rest i, meets (fun t => .recordComplete t b) (fun s => s.runs = true ∧ s.mode.mode.beamOn = true) ((fun s : State =>
  let due (b : Fin 48) (r : Rel) (rest : List Rel) (s : State) : Prop :=
    (s.kerf b).rels = r :: rest ∧ ((s.kerf b).failed = true → r.complete / cyc ≤ (s.kerf b).failAt / cyc)
  ((fun s => due b r rest s ∧ r.place = .pre i ∧ ¬ (r.record.ty = tyMarker ∧ r.record.sub = 3))) s)) ((ready .expose).onKerf 0 fun k => { k with rels := [{ rel0 with place := .pre 0 }] }))
      ∧ (∃ b r rest i, meets (fun t => .recordComplete t b) (fun s => s.runs = true ∧ s.mode.mode.beamOn = true) ((fun s : State =>
  let due (b : Fin 48) (r : Rel) (rest : List Rel) (s : State) : Prop :=
    (s.kerf b).rels = r :: rest ∧ ((s.kerf b).failed = true → r.complete / cyc ≤ (s.kerf b).failAt / cyc)
  ((fun s => due b r rest s ∧ r.place = .pre i ∧ r.record.ty = tyMarker ∧ r.record.sub = 3)) s)) ((ready .expose).onKerf 0 fun k => { k with rels := [{ rel0 with place := .pre 0, record := ⟨tyMarker, 0, 0, 3, origin, List.replicate 16 0⟩ }] }))
      ∧ (∃ b r rest n i, meets (fun t => .recordComplete t b) (fun s => s.runs = true ∧ s.mode.mode.beamOn = true) ((fun s : State =>
  let due (b : Fin 48) (r : Rel) (rest : List Rel) (s : State) : Prop :=
    (s.kerf b).rels = r :: rest ∧ ((s.kerf b).failed = true → r.complete / cyc ≤ (s.kerf b).failAt / cyc)
  ((fun s => due b r rest s ∧ r.place = .stick n i)) s)) ((ready .expose).onKerf 0 fun k => { k with rels := [{ rel0 with place := .stick 5 2 }] }))
      ∧ (∃ b since, meets (fun t => .waitLong t b) (fun s => s.runs = true) ((fun s => (s.kerf b).waitSince = some since ∧ (s.kerf b).waitSent = false)) ((ready .expose).onKerf 0 fun k => { k with waitSince := some 5 }))
      ∧ (∃ v at_, meets .gasStale (fun s => s.runs = true) ((fun s => s.headBlower = some (v, at_) ∧ s.gasSource = 2 ∧ s.truss.gasSent ≠ some at_)) (((ready .expose).setF 0x0400000C 16 2 2).onJoist 0 fun j => { j with sensors := [(0, 65536 + 9, 6)] })) :=
  by
  refine ⟨⟨0, (rel0 : Rel), [], 0, ?_⟩,
    ⟨0, ({ rel0 with place := .pre 0 } : Rel), [], 0, ?_⟩,
    ⟨0, ({ rel0 with place := .pre 0, record := ⟨tyMarker, 0, 0, 3, origin, List.replicate 16 0⟩ } : Rel), [], 0, ?_⟩,
    ⟨0, ({ rel0 with place := .stick 5 2 } : Rel), [], 5, 2, ?_⟩,
    ⟨0, 5, ?_⟩,
    ⟨9, 6, ?_⟩⟩
  all_goals decide +kernel

/-- Clauses of TrussMessages are met somewhere. -/
theorem met_TrussMessages :
    (∃ port m, meets (fun t => .release t port m) (fun s => s.runs = true) ((fun s : State =>
  let comes (p : RPort) (type : Nat) (m : Msg) (s : State) : Prop := msgGood type m = true ∧ ¬ ((s.rport p).port = .up ∧ m.parity ≠ 0)
  let fits (port : RPort) (kind : Nat) (m : Msg) (s : State) : Prop :=
    s.crossEn = true ∧ (s.rport port).carries = true ∧ comes port 0x10 m s ∧ m.payload.length = 40 ∧ byteAt m.payload 0 = kind
  let gap (port : RPort) (m : Msg) (s : State) : Prop := ∃ q, (s.rport port).trussSeq = some q ∧ m.seq ≠ q + 1
  ((fun s => fits port 1 m s ∧ ¬ gap port m s)) s)) (((ready .expose).setB 0x04000000 2 true).onRport .up fun r => { r with port := .up, trussSeq := none }))
      ∧ (∃ port m, meets (fun t => .withdraw t port m) (fun s => s.runs = true) ((fun s : State =>
  let comes (p : RPort) (type : Nat) (m : Msg) (s : State) : Prop := msgGood type m = true ∧ ¬ ((s.rport p).port = .up ∧ m.parity ≠ 0)
  let fits (port : RPort) (kind : Nat) (m : Msg) (s : State) : Prop :=
    s.crossEn = true ∧ (s.rport port).carries = true ∧ comes port 0x10 m s ∧ m.payload.length = 40 ∧ byteAt m.payload 0 = kind
  let gap (port : RPort) (m : Msg) (s : State) : Prop := ∃ q, (s.rport port).trussSeq = some q ∧ m.seq ≠ q + 1
  ((fun s => fits port 2 m s ∧ ¬ gap port m s)) s)) (((ready .expose).setB 0x04000000 2 true).onRport .up fun r => { r with port := .up, trussSeq := none }))
      ∧ (∃ port m, meets (fun t => .claim t port m) (fun s => s.runs = true) ((fun s : State =>
  let comes (p : RPort) (type : Nat) (m : Msg) (s : State) : Prop := msgGood type m = true ∧ ¬ ((s.rport p).port = .up ∧ m.parity ≠ 0)
  let fits (port : RPort) (kind : Nat) (m : Msg) (s : State) : Prop :=
    s.crossEn = true ∧ (s.rport port).carries = true ∧ comes port 0x10 m s ∧ m.payload.length = 40 ∧ byteAt m.payload 0 = kind
  let gap (port : RPort) (m : Msg) (s : State) : Prop := ∃ q, (s.rport port).trussSeq = some q ∧ m.seq ≠ q + 1
  ((fun s => fits port 3 m s ∧ ¬ gap port m s)) s)) (((ready .expose).setB 0x04000000 2 true).onRport .up fun r => { r with port := .up, trussSeq := none }))
      ∧ (∃ port m, meets (fun t => .unclaim t port m) (fun s => s.runs = true) ((fun s : State =>
  let comes (p : RPort) (type : Nat) (m : Msg) (s : State) : Prop := msgGood type m = true ∧ ¬ ((s.rport p).port = .up ∧ m.parity ≠ 0)
  let fits (port : RPort) (kind : Nat) (m : Msg) (s : State) : Prop :=
    s.crossEn = true ∧ (s.rport port).carries = true ∧ comes port 0x10 m s ∧ m.payload.length = 40 ∧ byteAt m.payload 0 = kind
  let gap (port : RPort) (m : Msg) (s : State) : Prop := ∃ q, (s.rport port).trussSeq = some q ∧ m.seq ≠ q + 1
  ((fun s => fits port 4 m s ∧ ¬ gap port m s)) s)) (((ready .expose).setB 0x04000000 2 true).onRport .up fun r => { r with port := .up, trussSeq := none }))
      ∧ (∃ port m, meets (fun t => .heartbeat t port m) (fun s => s.runs = true) ((fun s : State =>
  let comes (p : RPort) (type : Nat) (m : Msg) (s : State) : Prop := msgGood type m = true ∧ ¬ ((s.rport p).port = .up ∧ m.parity ≠ 0)
  let fits (port : RPort) (kind : Nat) (m : Msg) (s : State) : Prop :=
    s.crossEn = true ∧ (s.rport port).carries = true ∧ comes port 0x10 m s ∧ m.payload.length = 40 ∧ byteAt m.payload 0 = kind
  let gap (port : RPort) (m : Msg) (s : State) : Prop := ∃ q, (s.rport port).trussSeq = some q ∧ m.seq ≠ q + 1
  ((fun s => fits port 5 m s ∧ ¬ gap port m s)) s)) (((ready .expose).setB 0x04000000 2 true).onRport .up fun r => { r with port := .up, trussSeq := none }))
      ∧ (∃ port m, meets (fun t => .release t port m) (fun s => s.runs = true) ((fun s : State =>
  let comes (p : RPort) (type : Nat) (m : Msg) (s : State) : Prop := msgGood type m = true ∧ ¬ ((s.rport p).port = .up ∧ m.parity ≠ 0)
  let fits (port : RPort) (kind : Nat) (m : Msg) (s : State) : Prop :=
    s.crossEn = true ∧ (s.rport port).carries = true ∧ comes port 0x10 m s ∧ m.payload.length = 40 ∧ byteAt m.payload 0 = kind
  let gap (port : RPort) (m : Msg) (s : State) : Prop := ∃ q, (s.rport port).trussSeq = some q ∧ m.seq ≠ q + 1
  ((fun s => fits port 1 m s ∧ gap port m s)) s)) (((ready .expose).setB 0x04000000 2 true).onRport .up fun r => { r with port := .up, trussSeq := some 7 }))
      ∧ (∃ port m, meets (fun t => .withdraw t port m) (fun s => s.runs = true) ((fun s : State =>
  let comes (p : RPort) (type : Nat) (m : Msg) (s : State) : Prop := msgGood type m = true ∧ ¬ ((s.rport p).port = .up ∧ m.parity ≠ 0)
  let fits (port : RPort) (kind : Nat) (m : Msg) (s : State) : Prop :=
    s.crossEn = true ∧ (s.rport port).carries = true ∧ comes port 0x10 m s ∧ m.payload.length = 40 ∧ byteAt m.payload 0 = kind
  let gap (port : RPort) (m : Msg) (s : State) : Prop := ∃ q, (s.rport port).trussSeq = some q ∧ m.seq ≠ q + 1
  ((fun s => fits port 2 m s ∧ gap port m s)) s)) (((ready .expose).setB 0x04000000 2 true).onRport .up fun r => { r with port := .up, trussSeq := some 7 }))
      ∧ (∃ port m, meets (fun t => .claim t port m) (fun s => s.runs = true) ((fun s : State =>
  let comes (p : RPort) (type : Nat) (m : Msg) (s : State) : Prop := msgGood type m = true ∧ ¬ ((s.rport p).port = .up ∧ m.parity ≠ 0)
  let fits (port : RPort) (kind : Nat) (m : Msg) (s : State) : Prop :=
    s.crossEn = true ∧ (s.rport port).carries = true ∧ comes port 0x10 m s ∧ m.payload.length = 40 ∧ byteAt m.payload 0 = kind
  let gap (port : RPort) (m : Msg) (s : State) : Prop := ∃ q, (s.rport port).trussSeq = some q ∧ m.seq ≠ q + 1
  ((fun s => fits port 3 m s ∧ gap port m s)) s)) (((ready .expose).setB 0x04000000 2 true).onRport .up fun r => { r with port := .up, trussSeq := some 7 })) :=
  by
  refine ⟨⟨.up, (msg 0x10 0xFF (1 :: List.replicate 39 0)), ?_⟩,
    ⟨.up, (msg 0x10 0xFF (2 :: List.replicate 39 0)), ?_⟩,
    ⟨.up, (msg 0x10 0xFF (3 :: List.replicate 39 0)), ?_⟩,
    ⟨.up, (msg 0x10 0xFF (4 :: List.replicate 39 0)), ?_⟩,
    ⟨.up, (msg 0x10 0xFF (5 :: List.replicate 39 0)), ?_⟩,
    ⟨.up, (msg 0x10 0xFF (1 :: List.replicate 39 0)), ?_⟩,
    ⟨.up, (msg 0x10 0xFF (2 :: List.replicate 39 0)), ?_⟩,
    ⟨.up, (msg 0x10 0xFF (3 :: List.replicate 39 0)), ?_⟩⟩
  all_goals decide +kernel

/-- Clauses of TrussMessages are met somewhere. -/
theorem met_TrussMessages_1 :
    (∃ port m, meets (fun t => .unclaim t port m) (fun s => s.runs = true) ((fun s : State =>
  let comes (p : RPort) (type : Nat) (m : Msg) (s : State) : Prop := msgGood type m = true ∧ ¬ ((s.rport p).port = .up ∧ m.parity ≠ 0)
  let fits (port : RPort) (kind : Nat) (m : Msg) (s : State) : Prop :=
    s.crossEn = true ∧ (s.rport port).carries = true ∧ comes port 0x10 m s ∧ m.payload.length = 40 ∧ byteAt m.payload 0 = kind
  let gap (port : RPort) (m : Msg) (s : State) : Prop := ∃ q, (s.rport port).trussSeq = some q ∧ m.seq ≠ q + 1
  ((fun s => fits port 4 m s ∧ gap port m s)) s)) (((ready .expose).setB 0x04000000 2 true).onRport .up fun r => { r with port := .up, trussSeq := some 7 }))
      ∧ (∃ port m, meets (fun t => .heartbeat t port m) (fun s => s.runs = true) ((fun s : State =>
  let comes (p : RPort) (type : Nat) (m : Msg) (s : State) : Prop := msgGood type m = true ∧ ¬ ((s.rport p).port = .up ∧ m.parity ≠ 0)
  let fits (port : RPort) (kind : Nat) (m : Msg) (s : State) : Prop :=
    s.crossEn = true ∧ (s.rport port).carries = true ∧ comes port 0x10 m s ∧ m.payload.length = 40 ∧ byteAt m.payload 0 = kind
  let gap (port : RPort) (m : Msg) (s : State) : Prop := ∃ q, (s.rport port).trussSeq = some q ∧ m.seq ≠ q + 1
  ((fun s => fits port 5 m s ∧ gap port m s)) s)) (((ready .expose).setB 0x04000000 2 true).onRport .up fun r => { r with port := .up, trussSeq := some 7 }))
      ∧ (∃ port m, meets (fun t => .release t port m) (fun s => s.runs = true) ((fun s : State =>
  let comes (p : RPort) (type : Nat) (m : Msg) (s : State) : Prop := msgGood type m = true ∧ ¬ ((s.rport p).port = .up ∧ m.parity ≠ 0)
  ((fun s => s.crossEn = true ∧ (s.rport port).carries = true ∧ ¬ comes port 0x10 m s)) s)) (((ready .expose).setB 0x04000000 2 true).onRport .up fun r => { r with port := .up, trussSeq := none }))
      ∧ (∃ port m, meets (fun t => .withdraw t port m) (fun s => s.runs = true) ((fun s : State =>
  let comes (p : RPort) (type : Nat) (m : Msg) (s : State) : Prop := msgGood type m = true ∧ ¬ ((s.rport p).port = .up ∧ m.parity ≠ 0)
  ((fun s => s.crossEn = true ∧ (s.rport port).carries = true ∧ ¬ comes port 0x10 m s)) s)) (((ready .expose).setB 0x04000000 2 true).onRport .up fun r => { r with port := .up, trussSeq := none }))
      ∧ (∃ port m, meets (fun t => .claim t port m) (fun s => s.runs = true) ((fun s : State =>
  let comes (p : RPort) (type : Nat) (m : Msg) (s : State) : Prop := msgGood type m = true ∧ ¬ ((s.rport p).port = .up ∧ m.parity ≠ 0)
  ((fun s => s.crossEn = true ∧ (s.rport port).carries = true ∧ ¬ comes port 0x10 m s)) s)) (((ready .expose).setB 0x04000000 2 true).onRport .up fun r => { r with port := .up, trussSeq := none }))
      ∧ (∃ port m, meets (fun t => .unclaim t port m) (fun s => s.runs = true) ((fun s : State =>
  let comes (p : RPort) (type : Nat) (m : Msg) (s : State) : Prop := msgGood type m = true ∧ ¬ ((s.rport p).port = .up ∧ m.parity ≠ 0)
  ((fun s => s.crossEn = true ∧ (s.rport port).carries = true ∧ ¬ comes port 0x10 m s)) s)) (((ready .expose).setB 0x04000000 2 true).onRport .up fun r => { r with port := .up, trussSeq := none }))
      ∧ (∃ port m, meets (fun t => .heartbeat t port m) (fun s => s.runs = true) ((fun s : State =>
  let comes (p : RPort) (type : Nat) (m : Msg) (s : State) : Prop := msgGood type m = true ∧ ¬ ((s.rport p).port = .up ∧ m.parity ≠ 0)
  ((fun s => s.crossEn = true ∧ (s.rport port).carries = true ∧ ¬ comes port 0x10 m s)) s)) (((ready .expose).setB 0x04000000 2 true).onRport .up fun r => { r with port := .up, trussSeq := none }))
      ∧ (∃ port, meets (fun t => .importStale t port) (fun s => s.runs = true) ((fun s => s.crossEn = true ∧ (s.rport port).stale = false)) (((ready .expose).setB 0x04000000 2 true).onRport .up fun r => { r with port := .up })) :=
  by
  refine ⟨⟨.up, (msg 0x10 0xFF (4 :: List.replicate 39 0)), ?_⟩,
    ⟨.up, (msg 0x10 0xFF (5 :: List.replicate 39 0)), ?_⟩,
    ⟨.up, ⟨0, 0, 0, 0, [], 1, true, 0⟩, ?_⟩,
    ⟨.up, ⟨0, 0, 0, 0, [], 1, true, 0⟩, ?_⟩,
    ⟨.up, ⟨0, 0, 0, 0, [], 1, true, 0⟩, ?_⟩,
    ⟨.up, ⟨0, 0, 0, 0, [], 1, true, 0⟩, ?_⟩,
    ⟨.up, ⟨0, 0, 0, 0, [], 1, true, 0⟩, ?_⟩,
    ⟨.up, ?_⟩⟩
  all_goals decide +kernel

/-- Clauses of TrussMessages are met somewhere. -/
theorem met_TrussMessages_2 :
    (∃ port m, meets (fun t => .trussResync t port m) (fun s => s.runs = true) ((fun s : State =>
  let comes (p : RPort) (type : Nat) (m : Msg) (s : State) : Prop := msgGood type m = true ∧ ¬ ((s.rport p).port = .up ∧ m.parity ≠ 0)
  ((fun s => (s.rport port).carries = true ∧ comes port 0x11 m s ∧ s.liveExports port = [])) s)) (((ready .expose).setB 0x04000000 2 true).onRport .up fun r => { r with port := .up, trussSeq := none }))
      ∧ (∃ port m, meets (fun t => .trussResync t port m) (fun s => s.runs = true) ((fun s : State =>
  let comes (p : RPort) (type : Nat) (m : Msg) (s : State) : Prop := msgGood type m = true ∧ ¬ ((s.rport p).port = .up ∧ m.parity ≠ 0)
  ((fun s => (s.rport port).carries = true ∧ comes port 0x11 m s ∧ s.liveExports port ≠ [])) s)) ((((((ready .expose).setB 0x04000000 2 true).setReg 0x0400002C 1).setF 0x04000008 16 16 100).onRport .up fun r => { r with port := .up }).onKerf 0 fun k => { k with rels := [{ rel0 with pieces := [⟨0, 1, 0, 0, 0, 0, 0, false⟩] }] })) :=
  by
  refine ⟨⟨.up, msg 0x11 0xFF [], ?_⟩,
    ⟨.up, msg 0x11 0xFF [], ?_⟩⟩
  all_goals decide +kernel

/-- Clauses of SensingEvents are met somewhere. -/
theorem met_SensingEvents :
    (meets .depositMerge (fun s => s.runs = true) ((fun s => s.ue = [])) (ready .idle))
      ∧ (meets .grainRoll (fun s => s.runs = true) ((fun s => s.rollReady = true)) ((ready .idle).onGrain fun g => { g with pendRoll := true }))
      ∧ (meets .rollEnd (fun s => s.runs = true) ((fun s => s.grain.rolling = true ∧ s.grain.whole = false)) ((ready .idle).onGrain fun g => { g with rolling := true })) :=
  by decide +kernel

/-- Clauses of SensingEvents are met somewhere. -/
theorem met_SensingEvents_1 :
    (∃ b smp, smp.length = 20 ∧ meets (fun t => .featureWindow t b smp) (fun s => s.runs = true ∧ s.mode.mode.beamOn = true) ((fun _ => True)) (ready .expose))
      ∧ (∃ b, meets (fun t => .cameraTimeout t b) (fun s => s.runs = true) ((fun s => (s.plumb b).cam.period ≠ 0 ∧ (s.reach (s.cameraSince b + s.regF (beamReg b 0x3100) 8 8 * (s.plumb b).cam.period)).litPeriod b (s.cameraSince b) = true ∧ (s.mode.mode = .expose ∨ s.mode.mode = .preheat) ∧ (s.reach (s.cameraSince b + s.regF (beamReg b 0x3100) 8 8 * (s.plumb b).cam.period)).usesCamera b = true ∧ (s.plumb b).fallback = false ∧ (s.plumb b).cam.lossWaits = none)) (((((ready .expose).setReg (profReg 0 0 0) 0x0302).setF (beamReg 0 0x3100) 8 8 2).onPlumb 0 fun c => { c with cam := { c.cam with stamps := [3000, 2000, 1000], lastGood := some 3000 } }).onKerf 0 fun k => { k with gates := [⟨0, 9000, 0, 0, 0, false, .main 0, 0, 0⟩] }))
      ∧ (∃ b kind x, meets (fun t => .excursionClose t b kind) (fun s => s.runs = true ∧ s.mode.mode.beamOn = true) ((fun s => (s.plumb b).exc[excIndex kind]? = some x ∧ s.excMin b ≤ x.runOut)) ((ready .expose).onPlumb 0 fun c => { c with exc := List.replicate 4 { initExc with runOut := 255 } }))
      ∧ (∃ b, meets (fun t => .traceDone t b) (fun s => s.runs = true ∧ s.mode.mode.beamOn = true) ((fun s => 128 ≤ (s.plumb b).trace.length ∧ s.regB (beamReg b 0x5030) 0 = true)) (((ready .expose).setB (beamReg 0 0x5030) 0 true).onPlumb 0 fun c => { c with trace := List.replicate 128 [] }))
      ∧ (∃ b tile, tile < 250000 ∧ meets (fun t => .tilePrefetch t b tile) (fun s => s.runs = true) ((fun s => s.ue = [] ∧ s.nextFetch b = some tile ∧ s.fetchTurn b = true ∧ (s.columnsOf b).length < 32)) (((((ready .expose).setReg 0x04800024 0x00100010).setReg 0x04800020 0).onKerf 0 fun k => { k with engine := .running, pos := ⟨0, 0, 0⟩ })))
      ∧ (∃ b tile w l, tile < 250000 ∧ meets (fun t => .tilePrefetch t b tile) (fun s => s.runs = true) ((fun s => s.ue = [] ∧ s.nextFetch b = some tile ∧ s.fetchTurn b = true ∧ 32 ≤ (s.columnsOf b).length ∧ sortBy (fun (c : Column) => c.queried) ((s.columnsOf b).filter fun c => !(s.pathTiles b).contains c.tile) = w :: l)) (((((ready .expose).setReg 0x04800024 0x00100010).setReg 0x04800020 0).onKerf 0 fun k => { k with engine := .running, pos := ⟨0, 0, 0⟩ }).onGrain fun g => { g with columns := [(List.range 32).map fun n => ⟨1000 + n, [], 0, n, false⟩] }))
      ∧ (∃ b tile, tile < 250000 ∧ meets (fun t => .tilePrefetch t b tile) (fun s => s.runs = true) ((fun s => s.ue ≠ [] ∧ s.nextFetch b = some tile ∧ s.fetchTurn b = true ∧ (s.keptColumns b).isSome = true)) ({ ((((ready .expose).setReg 0x04800024 0x00100010).setReg 0x04800020 0).onKerf 0 fun k => { k with engine := .running, pos := ⟨0, 0, 0⟩ }) with ue := [0x10000000] }))
      ∧ (∃ b n, meets (fun t => .grainQuery t b) (fun s => s.runs = true ∧ s.mode.mode.beamOn = true) ((fun s => s.ue = [] ∧ s.queryTick b = some n ∧ (s.kerf b).engine.runs = true ∧ s.inWindow (s.cellOf (s.lookTarget b n).x (s.lookTarget b n).y) = false)) ((((ready .expose).onKerf 0 fun k => { k with engine := .running }).setReg 0x04800024 0).setReg 0x04800020 0)) :=
  by
  refine ⟨⟨0, (List.replicate 20 ⟨0, 0⟩ : List Sample), ?_⟩,
    ⟨0, ?_⟩,
    ⟨0, .sat, ({ initExc with runOut := 255 } : Exc), ?_⟩,
    ⟨0, ?_⟩,
    ⟨0, 0, ?_⟩,
    ⟨0, 0, ⟨1000, [], 0, 0, false⟩, (List.range 31).map fun n => ⟨1001 + n, [], 0, n + 1, false⟩, ?_⟩,
    ⟨0, 0, ?_⟩,
    ⟨0, 1, ?_⟩⟩
  all_goals decide +kernel

/-- Clauses of SensingEvents are met somewhere. -/
theorem met_SensingEvents_2 :
    (∃ b n, meets (fun t => .grainQuery t b) (fun s => s.runs = true ∧ s.mode.mode.beamOn = true) ((fun s => s.ue = [] ∧ s.queryTick b = some n ∧ (s.kerf b).engine.runs = true ∧ s.inWindow (s.cellOf (s.lookTarget b n).x (s.lookTarget b n).y) = true ∧ ∀ t ∈ s.queryTiles b n, ∃ c ∈ s.columnsOf b, c.tile = t)) (((((ready .expose).onKerf 0 fun k => { k with engine := .running }).setReg 0x04800024 0x00010001).setReg 0x04800020 0).onGrain fun g => { g with columns := [[⟨0, [], 0, 0, false⟩]] })) :=
  by
  refine ⟨0, 1, ?_⟩
  all_goals decide +kernel

/-- Clauses of ExcursionAlerts are met somewhere. -/
theorem met_ExcursionAlerts :
    (∃ b kind x, meets (fun t => .excursionOpen t b kind) (fun s => s.runs = true ∧ s.mode.mode.beamOn = true) ((fun s : State =>
  let due (b : Fin 48) (k : Nat) (x : Exc) (s : State) : Prop := (s.plumb b).exc[k]? = some x ∧ x.opened = none ∧ s.excMin b ≤ x.runIn
  ((fun s => due b (excIndex kind) x s ∧ s.regB (beamReg b 0x5000) 1 = false)) s)) (((ready .expose).onPlumb 0 fun c => { c with exc := List.replicate 4 { initExc with runIn := 255 } }).setB (beamReg 0 0x5000) 1 false))
      ∧ (∃ b kind x, meets (fun t => .excursionOpen t b kind) (fun s => s.runs = true ∧ s.mode.mode.beamOn = true) ((fun s : State =>
  let due (b : Fin 48) (k : Nat) (x : Exc) (s : State) : Prop := (s.plumb b).exc[k]? = some x ∧ x.opened = none ∧ s.excMin b ≤ x.runIn
  ((fun s => due b (excIndex kind) x s ∧ s.regB (beamReg b 0x5000) 1 = true ∧ ∀ a, (s.plumb b).excAt = some a → a + 10 * milli ≤ s.now)) s)) (((ready .expose).onPlumb 0 fun c => { c with exc := List.replicate 4 { initExc with runIn := 255 } }).setB (beamReg 0 0x5000) 1 true))
      ∧ (∃ b kind x a, meets (fun t => .excursionOpen t b kind) (fun s => s.runs = true ∧ s.mode.mode.beamOn = true) ((fun s : State =>
  let due (b : Fin 48) (k : Nat) (x : Exc) (s : State) : Prop := (s.plumb b).exc[k]? = some x ∧ x.opened = none ∧ s.excMin b ≤ x.runIn
  ((fun s => due b (excIndex kind) x s ∧ s.regB (beamReg b 0x5000) 1 = true ∧ (s.plumb b).excAt = some a ∧ s.now < a + 10 * milli)) s)) (((((ready .expose).onPlumb 0 fun c => { c with exc := List.replicate 4 { initExc with runIn := 255 } }).setB (beamReg 0 0x5000) 1 true).onPlumb 0 fun c => { c with excAt := some 0 }))) :=
  by
  refine ⟨⟨0, .high, ({ initExc with runIn := 255 } : Exc), ?_⟩,
    ⟨0, .low, ({ initExc with runIn := 255 } : Exc), ?_⟩,
    ⟨0, .backrefl, ({ initExc with runIn := 255 } : Exc), 0, ?_⟩⟩
  all_goals decide +kernel

/-- Clauses of ScribeVeneerEvents are met somewhere. -/
theorem met_ScribeVeneerEvents :
    (meets .liveBoundary (fun s => s.runs = true) ((fun s : State =>
      let moved (s : State) : State :=
        let v := ((s.reach s.veneer.nextLive).onVeneer fun n => { n with nextLive := n.nextLive + s.regF 0x06000028 0 16 * milli }).pixelClock
        if v.regB vnConfig 2 = true then v.heatStart else v
      let on (s : State) : Prop := s.regF 0x06000028 0 16 ≠ 0 ∧ ((s.reach s.veneer.nextLive).onVeneer fun n => { n with nextLive := n.nextLive + s.regF 0x06000028 0 16 * milli }).regB vnConfig 0 = true
  ((fun s => on s ∧ (moved s).veneer.endAt = none ∧ (moved s).composing = true)) s)) ((((ready .idle).setReg vnConfig 1).setReg 0x06000028 100).onVeneer fun n => { n with compose := some ⟨1, 0, 0, 0, 0⟩ }))
      ∧ (meets .liveBoundary (fun s => s.runs = true) ((fun s : State =>
      let moved (s : State) : State :=
        let v := ((s.reach s.veneer.nextLive).onVeneer fun n => { n with nextLive := n.nextLive + s.regF 0x06000028 0 16 * milli }).pixelClock
        if v.regB vnConfig 2 = true then v.heatStart else v
      let on (s : State) : Prop := s.regF 0x06000028 0 16 ≠ 0 ∧ ((s.reach s.veneer.nextLive).onVeneer fun n => { n with nextLive := n.nextLive + s.regF 0x06000028 0 16 * milli }).regB vnConfig 0 = true
  ((fun s => on s ∧ (moved s).veneer.endAt = none ∧ (moved s).composing = false)) s)) (((ready .idle).setReg vnConfig 1).setReg 0x06000028 100)) :=
  by decide +kernel

/-- Clauses of ScribeVeneerEvents are met somewhere. -/
theorem met_ScribeVeneerEvents_1 :
    (∃ b sc late, meets (fun t => .markScanDone t b late () ()) (fun s => s.runs = true ∧ s.mode.mode.beamOn = true) ((fun s => (s.scribe b).scan = some sc)) ((ready .calibrate).onScribe 0 fun c => { c with scan := some ⟨0, 1, 2, true, 1, 1, [], [], false, false⟩ }))
      ∧ (∃ b code p k l, meets (fun t => .markScanStart t b) (fun s => s.runs = true ∧ s.mode.mode.beamOn = true) ((fun s => s.scanMode = some code ∧ (s.scribe b).pass = some p ∧ (s.scribe b).table = .loaded ∧ (s.unitState (.beam b) = stOk ∨ s.unitState (.beam b) = stDegraded) ∧ s.regB (beamReg b 0x1000) 0 = true ∧ s.regB (beamReg b 0x1008) 0 = true ∧ (s.scribe b).scan = none ∧ (s.scribe b).result = none ∧ sortBy (fun k => (dist2 ((s.kerf b).target (ceilDiv s.commitPoint tickNs)).x ((s.kerf b).target (ceilDiv s.commitPoint tickNs)).y (s.fid k).x (s.fid k).y).toNat) ((s.reachList b).filter (s.scanFits b code)) = k :: l ∧ ∀ j ∈ s.lowerChoices b, s.clash j k = false)) (((((((((((ready .calibrate).writeMem (tableBase 0 + 44) [100]).setReg (fidReg 255 0) 1000).setReg (fidReg 255 1) 1000).setB (beamReg 0 0x1000) 0 true).setB (beamReg 0 0x1008) 0 true).setUnit (.beam 0) stOk).setReg (fidReg 255 4) 0x10000).setReg (fidReg 255 2) 1000).onScribe 0 fun c => { c with table := .loaded, pass := some ⟨0, false, 0⟩ })))
      ∧ (∃ b p, meets (fun t => .passFit t b) (fun s => s.runs = true) ((fun s => (s.scribe b).pass = some p ∧ (s.scribe b).scan = none ∧ s.allAttempted b = true ∧ ((s.scribe b).meas.filter fun m => m.2.valid).length < leastMarks p.model)) ((ready .idle).onScribe 0 fun c => { c with pass := some ⟨3, false, 0⟩ }))
      ∧ (∃ b p, meets (fun t => .passFit t b) (fun s => s.runs = true) ((fun s : State =>
  let marksOf (b : Fin 48) (s : State) : List FitMark := (sortBy (fun (m : Nat × Meas) => m.1) ((s.scribe b).meas.filter fun m => m.2.valid)).map fun m =>
    ⟨m.1, (s.fid m.1).x, (s.fid m.1).y, dbl m.2.ex, dbl m.2.ey, m.2.time⟩
  ((fun s => (s.scribe b).pass = some p ∧ (s.scribe b).scan = none ∧ s.allAttempted b = true ∧ leastMarks p.model ≤ (marksOf b s).length ∧ (2 ≤ p.model → collinear (scatter (marksOf b s)) (marksOf b s).length = false) ∧ ¬ (p.model = 1 ∧ ((marksOf b s).all fun m => m.x == ((marksOf b s).map (·.x)).headD 0 && m.y == ((marksOf b s).map (·.y)).headD 0) = true))) s)) ((ready .idle).onScribe 0 fun c => { c with pass := some ⟨0, false, 0⟩, meas := [(0, ⟨true, 0, 1, 2, 3⟩)] }))
      ∧ (∃ b r, meets (fun t => .resultApply t b) (fun s => s.runs = true) ((fun s => (s.scribe b).result = some r ∧ r.wait = true ∧ s.mayApply b = true)) ((ready .idle).onScribe 0 fun c => { c with result := some { fit0 with wait := true } }))
      ∧ (∃ b p, meets (fun t => .passTimeout t b) (fun s => s.runs = true) ((fun s => (s.scribe b).pass = some p ∧ s.regF 0x05000000 16 8 ≤ p.layers ∧ (s.scribe b).scan = none)) ((ready .idle).onScribe 0 fun c => { c with pass := some ⟨3, false, 255⟩ }))
      ∧ (∃ at_, meets .liveBoundary (fun s => s.runs = true) ((fun s : State =>
      let moved (s : State) : State :=
        let v := ((s.reach s.veneer.nextLive).onVeneer fun n => { n with nextLive := n.nextLive + s.regF 0x06000028 0 16 * milli }).pixelClock
        if v.regB vnConfig 2 = true then v.heatStart else v
      let on (s : State) : Prop := s.regF 0x06000028 0 16 ≠ 0 ∧ ((s.reach s.veneer.nextLive).onVeneer fun n => { n with nextLive := n.nextLive + s.regF 0x06000028 0 16 * milli }).regB vnConfig 0 = true
  ((fun s => on s ∧ (moved s).veneer.endAt = some at_ ∧ (moved s).now < at_ + milli)) s)) ((((ready .idle).setReg vnConfig 1).setReg 0x06000028 100).onVeneer fun n => { n with endAt := some 7, nextLive := 8 }))
      ∧ (∃ since fs due, meets .layerEndBoundary (fun s => s.runs = true) ((fun s : State =>
      let first (s : State) (since : Nat) (fs : List Word) : State :=
        if (∀ f, f < 32 → flag (s.reg 0x06000004) f = true → s.fenceSeen f ≠ fs.getD f 0) then s else s.reach (since + s.regF vnConfig 16 16 * milli)
  ((fun s => s.veneer.endSince = (since, fs) :: due ∧ s.regB vnConfig 0 = true ∧ s.regB vnConfig 1 = true ∧ (∀ a, s.veneer.liveAt = some a → a + milli ≤ (first s since fs).now) ∧ s.veneer.compose = none ∧ s.veneer.swapWait = none ∧ ((first s since fs).onVeneer fun n => { n with endSince := due }).pixelClock.regB vnConfig 0 = true)) s)) ((((ready .idle).setReg vnConfig 3).setReg 0x06000004 1).onVeneer fun n => { n with endSince := [(5, 1 :: List.replicate 31 0)] })) :=
  by
  refine ⟨⟨0, ⟨0, 1, 2, true, 1, 1, [], [], false, false⟩, [⟨1, 2⟩], ?_⟩,
    ⟨0, 4, ⟨0, false, 0⟩, 255, [], ?_⟩,
    ⟨0, (⟨3, false, 0⟩ : Pass), ?_⟩,
    ⟨0, ⟨0, false, 0⟩, ?_⟩,
    ⟨0, ({ fit0 with wait := true } : FitResult), ?_⟩,
    ⟨0, (⟨3, false, 255⟩ : Pass), ?_⟩,
    ⟨7, ?_⟩,
    ⟨5, 1 :: List.replicate 31 0, [], by decide +kernel, by decide +kernel, by decide +kernel, by decide +kernel, none_some (by decide +kernel), by decide +kernel, by decide +kernel, by decide +kernel⟩⟩
  all_goals decide +kernel

/-- Clauses of ScribeVeneerEvents are met somewhere. -/
theorem met_ScribeVeneerEvents_2 :
    (∃ c, meets .compositionDone (fun s => s.runs = true) ((fun s : State =>
      let shown (s : State) : State := if s.badTiles = 0 then s else s.count vnDecodeErr s.badTiles
  ((fun s => s.veneer.compose = some c ∧ (shown s).writeFrame.1.veneer.lockUntil ≠ none)) s)) ((ready .idle).onVeneer fun n => { n with compose := some ⟨1, 0, 0, 0, 0⟩, lockUntil := some 9 }))
      ∧ (∃ c, meets .compositionDone (fun s => s.runs = true) ((fun s : State =>
      let shown (s : State) : State := if s.badTiles = 0 then s else s.count vnDecodeErr s.badTiles
  ((fun s => s.veneer.compose = some c ∧ (shown s).writeFrame.1.veneer.lockUntil = none)) s)) ((ready .idle).onVeneer fun n => { n with compose := some ⟨1, 0, 0, 0, 0⟩ }))
      ∧ (∃ at_, meets .frameLockExpiry (fun s => s.runs = true) ((fun s => s.veneer.lockUntil = some at_)) ((ready .idle).onVeneer fun n => { n with lockUntil := some 9 }))
      ∧ (∃ i, meets .footprintDone (fun s => s.runs = true) ((fun s => s.ue = [] ∧ (s.ring 16).writing = some i ∧ (s.layers.active = .complete ∨ s.layers.active = .abandoned))) (((ready .idle).onRing 16 fun r => { r with writing := some 63 }).onLayers fun l => { l with active := .complete }))
      ∧ (∃ i, meets .heatRenderDone (fun s => s.runs = true) ((fun s => s.ue = [] ∧ (s.ring 17).writing = some i ∧ (s.surface i).tiled = false)) ((ready .idle).onRing 17 fun r => { r with writing := some 63 }))
      ∧ (∃ i, meets .heatRenderDone (fun s => s.runs = true) ((fun s => s.ue = [] ∧ (s.ring 17).writing = some i ∧ (s.surface i).tiled = true)) (((ready .idle).onRing 17 fun r => { r with writing := some 63 }).setReg 0x060017EC 0x100)) :=
  by
  refine ⟨⟨(⟨1, 0, 0, 0, 0⟩ : Compose), ?_⟩,
    ⟨(⟨1, 0, 0, 0, 0⟩ : Compose), ?_⟩,
    ⟨9, ?_⟩,
    ⟨63, ?_⟩,
    ⟨63, ?_⟩,
    ⟨63, ?_⟩⟩
  all_goals decide +kernel

/-- Clauses of LaneAndHeadEvents are met somewhere. -/
theorem met_LaneAndHeadEvents :
    (meets .discoveryRescan (fun s => s.runs = true) ((fun _ => True)) (ready .idle)) :=
  by decide +kernel

/-- Clauses of LaneAndHeadEvents are met somewhere. -/
theorem met_LaneAndHeadEvents_1 :
    (∃ l c, meets (fun t => .laneSignalLost t l c) (fun s => s.awake = true) ((fun s => s.laneOn l = true ∧ (s.lane l).link = .up)) (((ready .idle).onLane (.joist 15) fun x => { x with link := .up }).setB (laneCfg (.joist 15)) 0 true))
      ∧ (∃ l c, meets (fun t => .laneSignalLost t l c) (fun s => s.awake = true) ((fun s => s.laneOn l = true ∧ (s.lane l).link ≠ .up ∧ (s.lane l).link.trains = true)) (((ready .idle).onLane (.up 3) fun x => { x with link := .hello }).setB (laneCfg (.up 3)) 0 true))
      ∧ (∃ l, meets (fun t => .laneSignalOk t l) (fun s => s.awake = true) ((fun s => (s.lane l).link = .signal)) ((ready .idle).onLane (.down 0) fun x => { x with link := .signal }))
      ∧ (∃ n pos, meets (fun t => .laneAligned t (.joist n) pos) (fun s => s.awake = true) ((fun s => (s.lane (.joist n)).link = .align ∧ s.alignManual (.joist n) = false)) ((ready .idle).onLane (.joist 0) fun x => { x with link := .align }))
      ∧ (∃ l p k pos, lanePort l = some (p, k) ∧ meets (fun t => .laneAligned t l pos) (fun s => s.awake = true) ((fun s => (s.lane l).link = .align ∧ s.alignManual l = false)) ((ready .idle).onLane (.up 3) fun x => { x with link := .align }))
      ∧ (∃ l, meets (fun t => .attemptTimeout t l) (fun s => s.awake = true) ((fun s => (s.lane l).link = .signal ∨ (s.lane l).link = .hello ∨ ((s.lane l).link = .align ∧ (s.alignManual l && !(s.lane l).manualDone) = false))) ((ready .idle).onLane (.joist 0) fun x => { x with link := .hello }))
      ∧ (∃ l, meets (fun t => .backoffEnd t l) (fun s => s.awake = true) ((fun s => (s.lane l).link = .backoff)) ((ready .idle).onLane (.joist 0) fun x => { x with link := .backoff }))
      ∧ (∃ p, ∃ (k num : Fin 4), ∃ c, meets (fun t => .align t p k num c) (fun s => s.awake = true) ((fun s => (s.lane (portLane p k)).link = .up ∧ (s.rport p).alignOk s.now k num c.toNat = true)) (((ready .idle).onLane (.up 3) fun x => { x with link := .up }).onRport .up fun r => { r with inStripe := [true, false, false, false], aligns := [(0, 9), (0, 0), (0, 0), (0, 0)] })) :=
  by
  refine ⟨⟨(.joist 15), .los, ?_⟩,
    ⟨(.up 3), .los, ?_⟩,
    ⟨(.down 0), ?_⟩,
    ⟨0, 0, ?_⟩,
    ⟨(.up 3), .up, 3, 0, ?_⟩,
    ⟨(.joist 0), ?_⟩,
    ⟨(.joist 0), ?_⟩,
    ⟨.up, 3, 3, 9, ?_⟩⟩
  all_goals decide +kernel

/-- Clauses of LaneAndHeadEvents are met somewhere. -/
theorem met_LaneAndHeadEvents_2 :
    (∃ p, ∃ (k num : Fin 4), ∃ c, meets (fun t => .align t p k num c) (fun s => s.awake = true) ((fun s => (s.lane (portLane p k)).link = .up ∧ (s.rport p).alignOk s.now k num c.toNat = false)) (((ready .idle).onLane (.up 3) fun x => { x with link := .up }).onRport .up fun r => { r with inStripe := [true, false, false, false], aligns := [(0, 9), (0, 0), (0, 0), (0, 0)] }))
      ∧ (∃ p, ∃ (k num : Fin 4), ∃ c, meets (fun t => .align t p k num c) (fun s => s.awake = true) ((fun s => (s.lane (portLane p k)).link ≠ .up)) (ready .idle))
      ∧ (∃ p, ∃ (k : Fin 4), meets (fun t => .laneErased t p k) (fun s => s.awake = true) ((fun s => (s.rport p).inStripe.getD k.val false = true)) ((ready .idle).onRport .down fun r => { r with port := .up, inStripe := List.replicate 4 true }))
      ∧ (∃ p, ∃ (k : Fin 4), meets (fun t => .laneErased t p k) (fun s => s.awake = true) ((fun s => (s.rport p).inStripe.getD k.val false = false)) (ready .idle))
      ∧ (∃ n m, meets (fun t => .hello t n m) (fun s => s.awake = true) ((fun s : State =>
  let lost (n : Fin 16) (type : Nat) (m : Msg) (s : State) : Prop := msgGood type m = false ∧ (s.joist n).lane.link = .up
  ((lost n 0x01 m)) s)) ((ready .idle).onJoist 0 fun j => { j with lane := { j.lane with link := .up } }))
      ∧ (∃ n m, meets (fun t => .hello t n m) (fun s => s.awake = true) ((fun s : State =>
  let said (m : Msg) : List Byte := (m.payload ++ List.replicate 32 0).take 32
  ((fun s => msgGood 0x01 m = true ∧ (s.joist n).lane.link = .hello ∧ (byteAt (said m) 0 = 0 ∨ 3 < byteAt (said m) 0) ∧ (s.joist n).head = [])) s)) ((ready .idle).onJoist 0 fun j => { j with lane := { j.lane with link := .hello } }))
      ∧ (∃ n m, meets (fun t => .hello t n m) (fun s => s.awake = true) ((fun s : State =>
  let good (n : Fin 16) (type : Nat) (m : Msg) (s : State) : Prop := msgGood type m = true ∧ (s.joist n).lane.link = .up
  let said (m : Msg) : List Byte := (m.payload ++ List.replicate 32 0).take 32
  ((fun s => good n 0x01 m s ∧ (s.joist n).head ≠ [] ∧ headId (s.joist n).head = headId (said m))) s)) ((ready .idle).onJoist 0 fun j => { j with lane := { j.lane with link := .up }, head := 3 :: List.replicate 31 0 }))
      ∧ (∃ n m, meets (fun t => .hello t n m) (fun s => s.awake = true) ((fun s : State =>
  let good (n : Fin 16) (type : Nat) (m : Msg) (s : State) : Prop := msgGood type m = true ∧ (s.joist n).lane.link = .up
  let said (m : Msg) : List Byte := (m.payload ++ List.replicate 32 0).take 32
  ((fun s => good n 0x01 m s ∧ (s.joist n).head ≠ [] ∧ headId (s.joist n).head ≠ headId (said m))) s)) ((ready .idle).onJoist 0 fun j => { j with lane := { j.lane with link := .up }, head := 3 :: List.replicate 31 0 })) :=
  by
  refine ⟨⟨.up, 3, 3, 1000, ?_⟩,
    ⟨.up, 3, 3, 0, ?_⟩,
    ⟨.down, 0, ?_⟩,
    ⟨.up, (0 : Fin 4), ?_⟩,
    ⟨0, ⟨0, 0, 0, 0, [], 1, true, 0⟩, ?_⟩,
    ⟨0, msg 0x01 0 [], ?_⟩,
    ⟨0, msg 0x01 0 (3 :: List.replicate 31 0), ?_⟩,
    ⟨0, msg 0x01 0 (4 :: List.replicate 31 0), ?_⟩⟩
  all_goals decide +kernel

/-- Clauses of LaneAndHeadEvents are met somewhere. -/
theorem met_LaneAndHeadEvents_3 :
    (∃ n m, meets (fun t => .hello t n m) (fun s => s.awake = true) ((fun s : State =>
  let said (m : Msg) : List Byte := (m.payload ++ List.replicate 32 0).take 32
  ((fun s => msgGood 0x01 m = true ∧ (s.joist n).lane.link = .hello ∧ 1 ≤ byteAt (said m) 0 ∧ byteAt (said m) 0 ≤ 3 ∧ (s.joist n).head = [])) s)) ((ready .idle).onJoist 0 fun j => { j with lane := { j.lane with link := .hello } }))
      ∧ (∃ n m, meets (fun t => .frameStart t n m) (fun s => s.runs = true) ((fun s : State =>
  let good (n : Fin 16) (type : Nat) (m : Msg) (s : State) : Prop := msgGood type m = true ∧ (s.joist n).lane.link = .up
  ((fun s => good n 0x02 m s ∧ ((s.dropFrame (s.headLane n)).joist (s.headLane n)).half = false)) s)) ((ready .idle).onJoist 0 fun j => { j with lane := { j.lane with link := .up } }))
      ∧ (∃ n m, meets (fun t => .line t n m) (fun s => s.runs = true) ((fun s : State =>
  let lost (n : Fin 16) (type : Nat) (m : Msg) (s : State) : Prop := msgGood type m = false ∧ (s.joist n).lane.link = .up
  ((lost n 0x03 m)) s)) ((ready .idle).onJoist 0 fun j => { j with lane := { j.lane with link := .up } }))
      ∧ (∃ n m f, meets (fun t => .line t n m) (fun s => s.runs = true) ((fun s : State =>
  let good (n : Fin 16) (type : Nat) (m : Msg) (s : State) : Prop := msgGood type m = true ∧ (s.joist n).lane.link = .up
  ((fun s => good n 0x03 m s ∧ (s.joist (s.headLane n)).frame = some f ∧ leAt m.payload 0 2 = f.num.toNat % 65536 ∧ leAt m.payload 2 2 < f.height ∧ (m.payload.drop 4).length = f.width * (if f.bits = 8 then 1 else 2) ∧ ∀ l ∈ f.lines, l.1 ≠ leAt m.payload 2 2)) s)) ((ready .idle).onJoist 0 fun j => { j with lane := { j.lane with link := .up }, frame := some frame0 }))
      ∧ (∃ n m, meets (fun t => .frameEnd t n m) (fun s => s.runs = true) ((fun s : State =>
  let good (n : Fin 16) (type : Nat) (m : Msg) (s : State) : Prop := msgGood type m = true ∧ (s.joist n).lane.link = .up
  ((fun s => good n 0x04 m s ∧ (s.joist (s.headLane n)).frame = none)) s)) ((ready .idle).onJoist 0 fun j => { j with lane := { j.lane with link := .up } }))
      ∧ (∃ n m f, meets (fun t => .frameEnd t n m) (fun s => s.runs = true) ((fun s : State =>
  let good (n : Fin 16) (type : Nat) (m : Msg) (s : State) : Prop := msgGood type m = true ∧ (s.joist n).lane.link = .up
  ((fun s => good n 0x04 m s ∧ (s.joist (s.headLane n)).frame = some f ∧ f.whole m = none ∧ byteAt (s.joist (s.headLane n)).head 0 ≠ 3)) s)) ((ready .idle).onJoist 0 fun j => { j with lane := { j.lane with link := .up }, frame := some frame0 }))
      ∧ (∃ n m f rows, meets (fun t => .frameEnd t n m) (fun s => s.runs = true) ((fun s : State =>
  let good (n : Fin 16) (type : Nat) (m : Msg) (s : State) : Prop := msgGood type m = true ∧ (s.joist n).lane.link = .up
  ((fun s => good n 0x04 m s ∧ (s.joist (s.headLane n)).frame = some f ∧ f.rows = some rows ∧ f.bad = false ∧ leWord m.payload 0 = f.num ∧ crc32c rows.flatten = leWord m.payload 20 ∧ byteAt (s.joist (s.headLane n)).head 0 = 1)) s)) ((ready .idle).onJoist 0 fun j => { j with lane := { j.lane with link := .up }, head := [1], frame := some { frame0 with lines := [(0, [5, 6])] } }))
      ∧ (∃ n m f rows, meets (fun t => .frameEnd t n m) (fun s => s.runs = true) ((fun s : State =>
  let good (n : Fin 16) (type : Nat) (m : Msg) (s : State) : Prop := msgGood type m = true ∧ (s.joist n).lane.link = .up
  ((fun s => good n 0x04 m s ∧ (s.joist (s.headLane n)).frame = some f ∧ f.whole m = some rows ∧ byteAt (s.joist (s.headLane n)).head 0 = 2 ∧ (s.onJoist (s.headLane n) fun j => { j with frame := none }).camBeams (s.headLane n) ≠ [])) s)) (((ready .idle).onJoist 0 fun j => { j with lane := { j.lane with link := .up }, head := [2], frame := some { frame0 with lines := [(0, [5, 6])] } }).onPlumb 0 fun c => { c with cam := { c.cam with inUse := true, lane := 0 } })) :=
  by
  refine ⟨⟨0, msg 0x01 0 (1 :: List.replicate 31 0), ?_⟩,
    ⟨0, (msg 0x02 0 (List.replicate 12 0)), ?_⟩,
    ⟨0, ⟨0, 0, 0, 0, [], 1, true, 0⟩, ?_⟩,
    ⟨0, (msg 0x03 0 (h [7, 0] ++ [5, 6])), frame0, ?_⟩,
    ⟨0, (msg 0x04 0 (List.replicate 24 0)), ?_⟩,
    ⟨0, msg 0x04 0 (List.replicate 24 0), frame0, ?_⟩,
    ⟨0, (msg 0x04 0 (w [7, 0, 0, 0, 0] ++ leBytes 4 (crc32c [5, 6]).toNat)), ({ frame0 with lines := [(0, [5, 6])] } : RxFrame), [([5, 6] : List Byte)], ?_⟩,
    ⟨0, msg 0x04 0 (w [7, 0, 0, 0, 0] ++ leBytes 4 (crc32c [5, 6]).toNat), { frame0 with lines := [(0, [5, 6])] }, [[5, 6]], ?_⟩⟩
  all_goals decide +kernel

/-- Clauses of LaneAndHeadEvents are met somewhere. -/
theorem met_LaneAndHeadEvents_4 :
    (∃ n m, meets (fun t => .sensor t n m) (fun s => s.runs = true) ((fun s : State =>
  let good (n : Fin 16) (type : Nat) (m : Msg) (s : State) : Prop := msgGood type m = true ∧ (s.joist n).lane.link = .up
  ((fun s => good n 0x05 m s ∧ m.payload.length < 12)) s)) ((ready .idle).onJoist 0 fun j => { j with lane := { j.lane with link := .up } }))
      ∧ (∃ n m c, meets (fun t => .sensor t n m) (fun s => s.runs = true) ((fun s : State =>
  let good (n : Fin 16) (type : Nat) (m : Msg) (s : State) : Prop := msgGood type m = true ∧ (s.joist n).lane.link = .up
  ((fun s => good n 0x05 m s ∧ m.payload.length = 12 ∧ byteAt m.payload 8 = c ∧ c ≤ 15)) s)) ((ready .idle).onJoist 0 fun j => { j with lane := { j.lane with link := .up } }))
      ∧ (∃ n m tag at_, meets (fun t => .reply t n m) (fun s => s.runs = true) ((fun s : State =>
  let good (n : Fin 16) (type : Nat) (m : Msg) (s : State) : Prop := msgGood type m = true ∧ (s.joist n).lane.link = .up
  ((fun s => good n 0x06 m s ∧ (s.joist (s.headLane n)).command = some (tag, at_, false) ∧ leAt m.payload 0 2 = tag.toNat)) s)) ((ready .idle).onJoist 0 fun j => { j with lane := { j.lane with link := .up }, command := some (3, 4, false) }))
      ∧ (∃ n m, meets (fun t => .window t n m) (fun s => s.runs = true) ((fun s : State =>
  let good (n : Fin 16) (type : Nat) (m : Msg) (s : State) : Prop := msgGood type m = true ∧ (s.joist n).lane.link = .up
  ((good n 0x07 m)) s)) ((ready .idle).onJoist 0 fun j => { j with lane := { j.lane with link := .up } }))
      ∧ (∃ n, meets (fun t => .time t n) (fun s => s.runs = true) ((fun s => (s.joist n).lane.link = .up)) ((ready .idle).onJoist 0 fun j => { j with lane := { j.lane with link := .up } }))
      ∧ (∃ n m q at_, meets (fun t => .timeEcho t n m) (fun s => s.runs = true) ((fun s : State =>
  let good (n : Fin 16) (type : Nat) (m : Msg) (s : State) : Prop := msgGood type m = true ∧ (s.joist n).lane.link = .up
  ((fun s => good n 0x08 m s ∧ (s.joist n).timeAt.find? (fun e => e.1 == byteAt m.payload 0) = some (q, at_))) s)) ((ready .idle).onJoist 0 fun j => { j with lane := { j.lane with link := .up }, timeAt := [(5, 6)] }))
      ∧ (∃ n, meets (fun t => .timeMiss t n) (fun s => s.runs = true) ((fun s => (s.joist n).lane.link = .up)) ((ready .idle).onJoist 0 fun j => { j with lane := { j.lane with link := .up } }))
      ∧ (∃ n tag at_ gone, meets (fun t => .headReplyTimeout t n) (fun s => s.runs = true) ((fun s => (s.joist n).command = some (tag, at_, gone))) ((ready .idle).onJoist 0 fun j => { j with lane := { j.lane with link := .up }, command := some (3, 4, true) })) :=
  by
  refine ⟨⟨0, (msg 0x05 0 (List.replicate 11 0)), ?_⟩,
    ⟨0, (msg 0x05 0 (w [0, 0, 15])), 15, ?_⟩,
    ⟨0, msg 0x06 0 (h [3, 0]), 3, 4, ?_⟩,
    ⟨0, (msg 0x07 0 (w [0, 0, 0, 0])), ?_⟩,
    ⟨0, ?_⟩,
    ⟨0, msg 0x08 0 (w [5, 0]), 5, 6, ?_⟩,
    ⟨0, ?_⟩,
    ⟨0, 3, 4, true, ?_⟩⟩
  all_goals decide +kernel

/-- Clauses of ChainEvents are met somewhere. -/
theorem met_ChainEvents :
    (meets .timeSyncSend (fun s => s.awake = true) ((fun s => s.chain.manager = true)) (ready .idle))
      ∧ (meets .timeSyncSend (fun s => s.awake = true) ((fun s : State =>
  let sync (p : RPort) (s : State) : State := (List.range 4).foldl (fun st k =>
    if ((st.rport p).lanes.getD k noLane).link = .up then
      let v := st.sendRafter p 0x03 0xFF 0 (timeBytes st.now ++ leBytes 1 k ++ leBytes 3 0)
      v.onRport p fun r => { r with timeAt := ((k, BitVec.ofNat 8 (st.nextSeq p 0x03).1, v.now) :: r.timeAt).take 64 }
    else st) s
  ((fun s => (sync .down s).chain.manager = false)) s)) (({ ready .idle with chain := { State.reset.chain with manager := false, index := 1 } } : State))) :=
  by decide +kernel

/-- Clauses of ChainEvents are met somewhere. -/
theorem met_ChainEvents_1 :
    (∃ m, meets (fun t => .portHello t .down m) (fun s => s.awake = true) ((fun s : State =>
  let comes (p : RPort) (type : Nat) (m : Msg) (s : State) : Prop := msgGood type m = true ∧ ¬ ((s.rport p).port = .up ∧ m.parity ≠ 0)
  ((fun s => comes .down 0x01 m s ∧ m.dst = 0xFF)) s)) (ready .idle))
      ∧ (∃ m, meets (fun t => .portHello t .down m) (fun s => s.awake = true) ((fun s : State =>
  let comes (p : RPort) (type : Nat) (m : Msg) (s : State) : Prop := msgGood type m = true ∧ ¬ ((s.rport p).port = .up ∧ m.parity ≠ 0)
  ((fun s => comes .down 0x01 m s ∧ m.dst ≠ 0xFF ∧ s.chain.manager = true)) s)) (ready .idle))
      ∧ (∃ m, meets (fun t => .portHello t .down m) (fun s => s.awake = true) ((fun s : State =>
  let comes (p : RPort) (type : Nat) (m : Msg) (s : State) : Prop := msgGood type m = true ∧ ¬ ((s.rport p).port = .up ∧ m.parity ≠ 0)
  ((fun s => comes .down 0x01 m s ∧ m.dst ≠ 0xFF ∧ s.chain.manager = false)) s)) (({ ready .idle with chain := { State.reset.chain with manager := false, index := 1 } } : State)))
      ∧ (∃ p m, meets (fun t => .portHello t p m) (fun s => s.awake = true) ((fun s : State =>
  let comes (p : RPort) (type : Nat) (m : Msg) (s : State) : Prop := msgGood type m = true ∧ ¬ ((s.rport p).port = .up ∧ m.parity ≠ 0)
  ((fun s => ¬ comes p 0x01 m s)) s)) (ready .idle))
      ∧ (∃ m, meets (fun t => .index t m) (fun s => s.awake = true) ((fun s : State =>
  let comes (p : RPort) (type : Nat) (m : Msg) (s : State) : Prop := msgGood type m = true ∧ ¬ ((s.rport p).port = .up ∧ m.parity ≠ 0)
  ((fun s => s.chain.manager = false ∧ comes .up 0x02 m s ∧ m.dst = 0xFF)) s)) (({ ready .idle with chain := { State.reset.chain with manager := false, index := 1 } } : State)))
      ∧ (∃ m, meets (fun t => .timeSync t (.up, 0) m) (fun s => s.awake = true) ((fun s : State =>
  let comes (p : RPort) (type : Nat) (m : Msg) (s : State) : Prop := msgGood type m = true ∧ ¬ ((s.rport p).port = .up ∧ m.parity ≠ 0)
  ((fun s => (s.draw.2.sendRafter .up 0x04 0xFF 0 (leBytes 1 m.seq.toNat ++ leBytes 1 0 ++ leBytes 2 0 ++ leBytes 4 s.draw.1)).chain.manager = false ∧ (s.lane (.up 0)).link = .up ∧ comes .up 0x03 m s)) s)) (({ ready .idle with chain := { State.reset.chain with manager := false, index := 1 } } : State).onLane (.up 0) fun x => { x with link := .up }))
      ∧ (∃ (k : Fin 4), ∃ m, meets (fun t => .timeSync t (.down, k) m) (fun s => s.awake = true) ((fun s : State =>
  let comes (p : RPort) (type : Nat) (m : Msg) (s : State) : Prop := msgGood type m = true ∧ ¬ ((s.rport p).port = .up ∧ m.parity ≠ 0)
  ((fun s => (s.lane (.down k)).link = .up ∧ comes .down 0x03 m s)) s)) ((ready .idle).onLane (.down 3) fun x => { x with link := .up }))
      ∧ (∃ p k m q at_, meets (fun t => .rafterTimeEcho t p k m) (fun s => s.awake = true) ((fun s : State =>
  let comes (p : RPort) (type : Nat) (m : Msg) (s : State) : Prop := msgGood type m = true ∧ ¬ ((s.rport p).port = .up ∧ m.parity ≠ 0)
  ((fun s => comes p 0x04 m s ∧ (s.rport p).timeAt.find? (fun e => e.1 == k.val && e.2.1.toNat == byteAt m.payload 0) = some (k.val, q, at_))) s)) ((ready .idle).onRport .up fun r => { r with timeAt := [(3, 5, 6)] })) :=
  by
  refine ⟨⟨msg 0x01 0xFF [], ?_⟩,
    ⟨msg 0x01 1 [], ?_⟩,
    ⟨msg 0x01 1 [], ?_⟩,
    ⟨.up, ⟨0, 0, 0, 0, [], 1, true, 0⟩, ?_⟩,
    ⟨msg 0x02 0xFF [], ?_⟩,
    ⟨msg 0x03 0xFF (w [0, 0, 0]), ?_⟩,
    ⟨3, msg 0x03 0xFF (w [0, 0, 3]), ?_⟩,
    ⟨.up, 3, msg 0x04 0xFF (w [5, 0]), 5, 6, ?_⟩⟩
  all_goals decide +kernel

/-- Clauses of ChainEvents are met somewhere. -/
theorem met_ChainEvents_2 :
    (∃ p m, meets (fun t => .control t p m) (fun s => s.runs = true) ((fun s : State =>
  let comes (p : RPort) (type : Nat) (m : Msg) (s : State) : Prop := msgGood type m = true ∧ ¬ ((s.rport p).port = .up ∧ m.parity ≠ 0)
  let acked (p : RPort) (m : Msg) (s : State) : State := s.sendRafter p 0x21 0xFF 0 ([m.src, m.seq] ++ leBytes 2 0)
  ((fun s => (s.rport p).carries = true ∧ comes p 0x20 m s ∧ ((acked p m s).rport p).ctlSeen.contains m.seq = true)) s)) ((ready .idle).onRport .up fun r => { r with port := .up, ctlSeen := [0] }))
      ∧ (∃ p m, meets (fun t => .control t p m) (fun s => s.runs = true) ((fun s : State =>
  let comes (p : RPort) (type : Nat) (m : Msg) (s : State) : Prop := msgGood type m = true ∧ ¬ ((s.rport p).port = .up ∧ m.parity ≠ 0)
  let acked (p : RPort) (m : Msg) (s : State) : State := s.sendRafter p 0x21 0xFF 0 ([m.src, m.seq] ++ leBytes 2 0)
  let fresh (p : RPort) (m : Msg) (s : State) : Prop := (s.rport p).carries = true ∧ comes p 0x20 m s ∧ ((acked p m s).rport p).ctlSeen.contains m.seq = false
  let noted (p : RPort) (m : Msg) (s : State) : State := (acked p m s).onRport p fun r => { r with ctlSeen := (m.seq :: r.ctlSeen).take 64 }
  ((fun s => fresh p m s ∧ m.dst.toNat ≠ (noted p m s).chain.index)) s)) ((ready .idle).onRport .up fun r => { r with port := .up }))
      ∧ (∃ p m, meets (fun t => .control t p m) (fun s => s.runs = true) ((fun s : State =>
  let comes (p : RPort) (type : Nat) (m : Msg) (s : State) : Prop := msgGood type m = true ∧ ¬ ((s.rport p).port = .up ∧ m.parity ≠ 0)
  let acked (p : RPort) (m : Msg) (s : State) : State := s.sendRafter p 0x21 0xFF 0 ([m.src, m.seq] ++ leBytes 2 0)
  let fresh (p : RPort) (m : Msg) (s : State) : Prop := (s.rport p).carries = true ∧ comes p 0x20 m s ∧ ((acked p m s).rport p).ctlSeen.contains m.seq = false
  let noted (p : RPort) (m : Msg) (s : State) : State := (acked p m s).onRport p fun r => { r with ctlSeen := (m.seq :: r.ctlSeen).take 64 }
  ((fun s => fresh p m s ∧ m.dst.toNat = (noted p m s).chain.index ∧ (noted p m s).chain.manager = true)) s)) ((ready .idle).onRport .up fun r => { r with port := .up }))
      ∧ (∃ p m, meets (fun t => .control t p m) (fun s => s.runs = true) ((fun s : State =>
  let comes (p : RPort) (type : Nat) (m : Msg) (s : State) : Prop := msgGood type m = true ∧ ¬ ((s.rport p).port = .up ∧ m.parity ≠ 0)
  let acked (p : RPort) (m : Msg) (s : State) : State := s.sendRafter p 0x21 0xFF 0 ([m.src, m.seq] ++ leBytes 2 0)
  let fresh (p : RPort) (m : Msg) (s : State) : Prop := (s.rport p).carries = true ∧ comes p 0x20 m s ∧ ((acked p m s).rport p).ctlSeen.contains m.seq = false
  let noted (p : RPort) (m : Msg) (s : State) : State := (acked p m s).onRport p fun r => { r with ctlSeen := (m.seq :: r.ctlSeen).take 64 }
  ((fun s => fresh p m s ∧ m.dst.toNat = (noted p m s).chain.index ∧ (noted p m s).chain.manager = false)) s)) ((({ ready .idle with chain := { State.reset.chain with manager := false, index := 1 } } : State)).onRport .up fun r => { r with port := .up }))
      ∧ (∃ p m, meets (fun t => .controlAck t p m) (fun s => s.runs = true) ((fun s : State =>
  let comes (p : RPort) (type : Nat) (m : Msg) (s : State) : Prop := msgGood type m = true ∧ ¬ ((s.rport p).port = .up ∧ m.parity ≠ 0)
  ((fun s => (s.rport p).carries = true ∧ comes p 0x21 m s)) s)) ((ready .idle).onRport .up fun r => { r with port := .up }))
      ∧ (∃ p c l, meets (fun t => .controlRetry t p) (fun s => s.runs = true) ((fun s => sortBy (fun (c : Ctl) => c.sentAt) (s.rport p).controls = c :: l ∧ (((s.reach (c.sentAt + 5 * micro)).onRport p fun r => { r with controls := r.controls.map fun x => if x.m = c.m then { x with sentAt := (s.reach (c.sentAt + 5 * micro)).now } else x }).rport p).carries = true)) ((ready .idle).onRport .up fun r => { r with port := .up, controls := [⟨msg 0x20 1 [], 5⟩] }))
      ∧ (∃ p m, meets (fun t => .tirril t p m) (fun s => s.awake = true) ((fun s : State =>
  let comes (p : RPort) (type : Nat) (m : Msg) (s : State) : Prop := msgGood type m = true ∧ ¬ ((s.rport p).port = .up ∧ m.parity ≠ 0)
  ((fun s => (s.rport p).carries = true ∧ comes p 0x30 m s ∧ m.dst.toNat ≠ s.chain.index)) s)) ((ready .idle).onRport .up fun r => { r with port := .up }))
      ∧ (∃ p m, meets (fun t => .tirril t p m) (fun s => s.awake = true) ((fun s : State =>
  let comes (p : RPort) (type : Nat) (m : Msg) (s : State) : Prop := msgGood type m = true ∧ ¬ ((s.rport p).port = .up ∧ m.parity ≠ 0)
  ((fun s => (s.rport p).carries = true ∧ comes p 0x30 m s ∧ m.dst.toNat = s.chain.index ∧ m.flags.getLsbD 0 = true ∧ m.flags.getLsbD 1 = true)) s)) ((ready .idle).onRport .up fun r => { r with port := .up })) :=
  by
  refine ⟨⟨.up, msg 0x20 0 [], ?_⟩,
    ⟨.up, msg 0x20 1 [], ?_⟩,
    ⟨.up, msg 0x20 0 [0xFF], ?_⟩,
    ⟨.up, msg 0x20 1 [0xFF], ?_⟩,
    ⟨.up, msg 0x21 0 (w [0]), ?_⟩,
    ⟨.up, ⟨msg 0x20 1 [], 5⟩, [], ?_⟩,
    ⟨.up, msg 0x30 1 [], ?_⟩,
    ⟨.up, let m : Msg := { msg 0x30 0 [] with flags := 3 }; { m with crc := msgCrc 0x30 m }, ?_⟩⟩
  all_goals decide +kernel

/-- Clauses of ChainEvents are met somewhere. -/
theorem met_ChainEvents_3 :
    (∃ p m, meets (fun t => .tirril t p m) (fun s => s.awake = true) ((fun s : State =>
  let comes (p : RPort) (type : Nat) (m : Msg) (s : State) : Prop := msgGood type m = true ∧ ¬ ((s.rport p).port = .up ∧ m.parity ≠ 0)
  ((fun s => (s.rport p).carries = true ∧ comes p 0x30 m s ∧ m.dst.toNat = s.chain.index ∧ m.flags.getLsbD 0 = false ∧ m.flags.getLsbD 1 = false)) s)) ((ready .idle).onRport .up fun r => { r with port := .up }))
      ∧ (∃ i : Fin 16, meets (fun t => .workerLost t i) (fun s => s.runs = true) ((fun s => s.chain.manager = true ∧ i ≠ 0 ∧ s.chain.present.getLsbD i.val = true)) ({ ready .idle with chain := { State.reset.chain with members := [(15, 7)], present := 0x8001 } })) :=
  by
  refine ⟨⟨.up, msg 0x30 0 [], ?_⟩,
    ⟨(15 : Fin 16), ?_⟩⟩
  all_goals decide +kernel

/-- Clauses of NetworkEvents are met somewhere. -/
theorem met_NetworkEvents :
    (meets .holdover (fun s => s.runs = true) ((fun s => s.ptpRuns = true ∧ (s.time.servo = .acquiring ∨ s.time.servo = .tracking ∨ s.time.servo = .locked ∨ s.time.servo = .stepHeld))) ((((ready .idle).setF timeConfig 0 2 1).setReg ptpConfig 0x300).onTime fun u => { u with servo := .locked }))
      ∧ (meets .offsetBroadcast (fun s => s.runs = true) ((fun s => s.chain.manager = true ∧ s.workers ≠ [])) ({ ready .idle with chain := { State.reset.chain with members := [(1, 7)], present := 3 } })) :=
  by decide +kernel

/-- Clauses of NetworkEvents are met somewhere. -/
theorem met_NetworkEvents_1 :
    (∃ n : Fin 2, meets (fun t => .ethLinkUp t n) (fun s => s.runs = true) ((fun s => s.regB (ethReg n 4) 0 = true ∧ s.linkUp (if n = 0 then .eth0 else .eth1) = false)) (((ready .idle).setB (ethReg 0 4) 0 true)))
      ∧ (∃ n : Fin 2, meets (fun t => .ethLinkUp t n) (fun s => s.runs = true) ((fun s => s.regB (ethReg n 4) 0 = false)) ((ready .idle).setB (ethReg 1 4) 0 false))
      ∧ (∃ n : Fin 2, meets (fun t => .ethLinkDown t n) (fun s => s.runs = true) ((fun s => s.linkUp (if n = 0 then .eth0 else .eth1) = true)) ((ready .idle).onTime fun u => { u with linkUp1 := true }))
      ∧ (∃ (n : Fin 2), ∃ sender, ∃ target, meets (fun t => .arpRequest t n sender target) (fun s => s.runs = true) ((fun s => s.regB (ethReg n 4) 0 = true ∧ target = s.reg (ethReg n 0x10))) (((ready .idle).setB (ethReg 0 4) 0 true)))
      ∧ (∃ (n : Fin 2), ∃ sender, ∃ target, ∃ data, meets (fun t => .icmpEcho t n sender target data) (fun s => s.runs = true) ((fun s => s.regB (ethReg n 4) 0 = true ∧ target = s.reg (ethReg n 0x10) ∧ data.length ≤ 1472)) (((ready .idle).setB (ethReg 1 4) 0 true)))
      ∧ (∃ (n : Fin 2), ∃ a, meets (fun t => .announce t n a) (fun s => s.runs = true) ((fun s : State =>
  let heard (n : Fin 2) (s : State) : State := (s.count (ethReg n 0x20)).dropStale
  let known (n : Fin 2) (s : State) : PtpPort := (heard n s).time.ports.getD n.1 ⟨none, 0, []⟩
  let fits (n : Fin 2) (a : Announce) (s : State) : Prop := s.regB (ethReg n 4) 0 = true ∧ (s.count (ethReg n 0x20)).ptpRuns = true ∧ (s.count (ethReg n 0x20)).ptpOn n = true
    ∧ a.domain.toNat = (s.count (ethReg n 0x20)).regF ptpConfig 0 8 ∧ a.sdo.toNat = (s.count (ethReg n 0x20)).regF ptpConfig 20 4
  ((fun s => fits n a s ∧ (known n s).qualifies a (heard n s).now = true ∧ (∀ b, (known n s).best = some b → b.sender = a.sender ∨ betterMaster a b = true))) s)) ((((((ready .idle).setB (ethReg 1 4) 0 true)).setF timeConfig 0 2 1).setReg ptpConfig 0x300).onTime fun u => { u with ports := [⟨none, 0, []⟩, ⟨none, 0, [(9, 0)]⟩] }))
      ∧ (∃ (n : Fin 2), ∃ a, meets (fun t => .announce t n a) (fun s => s.runs = true) ((fun s : State =>
  let heard (n : Fin 2) (s : State) : State := (s.count (ethReg n 0x20)).dropStale
  let known (n : Fin 2) (s : State) : PtpPort := (heard n s).time.ports.getD n.1 ⟨none, 0, []⟩
  let fits (n : Fin 2) (a : Announce) (s : State) : Prop := s.regB (ethReg n 4) 0 = true ∧ (s.count (ethReg n 0x20)).ptpRuns = true ∧ (s.count (ethReg n 0x20)).ptpOn n = true
    ∧ a.domain.toNat = (s.count (ethReg n 0x20)).regF ptpConfig 0 8 ∧ a.sdo.toNat = (s.count (ethReg n 0x20)).regF ptpConfig 20 4
  ((fun s => fits n a s ∧ (known n s).qualifies a (heard n s).now = false)) s)) ((((((ready .idle).setB (ethReg 1 4) 0 true)).setF timeConfig 0 2 1).setReg ptpConfig 0x300)))
      ∧ (∃ (n : Fin 2), ∃ m, ∃ stamp, ∃ interval, meets (fun t => .sync t n m stamp interval) (fun s => s.runs = true) ((fun s => s.regB (ethReg n 4) 0 = true)) (((ready .idle).setB (ethReg 0 4) 0 true))) :=
  by
  refine ⟨⟨(0 : Fin 2), ?_⟩,
    ⟨(1 : Fin 2), ?_⟩,
    ⟨(1 : Fin 2), ?_⟩,
    ⟨(0 : Fin 2), ⟨0, 0, 0⟩, (State.reset.reg (ethReg 0 0x10)), ?_⟩,
    ⟨(1 : Fin 2), ⟨0, 0, 0⟩, (State.reset.reg (ethReg 1 0x10)), (List.replicate 1472 (0 : Byte)), ?_⟩,
    ⟨1, announce0, by decide +kernel, by decide +kernel, by decide +kernel, none_some (by decide +kernel)⟩,
    ⟨1, announce0, ?_⟩,
    ⟨0, ⟨9, 3, 0, false, 0, 0⟩, 0, 0, ?_⟩⟩
  all_goals decide +kernel

/-- Clauses of NetworkEvents are met somewhere. -/
theorem met_NetworkEvents_2 :
    (∃ (n : Fin 2), ∃ m, meets (fun t => .followUp t n m) (fun s => s.runs = true) ((fun s => s.regB (ethReg n 4) 0 = true)) (((ready .idle).setB (ethReg 1 4) 0 true)))
      ∧ (∃ n, meets .delayReq (fun s => s.runs = true) ((fun s => s.time.ptpPort = some n ∧ s.ptpRuns = true)) ((((ready .idle).setF timeConfig 0 2 1).setReg ptpConfig 0x300).onTime fun u => { u with ptpPort := some 1 }))
      ∧ (∃ (n : Fin 2), ∃ m, ∃ t1, ∃ t2, ∃ t3, meets (fun t => .delayResp t n m) (fun s => s.runs = true) ((fun s => s.regB (ethReg n 4) 0 = true ∧ s.time.reqAt = some (m.seqId, t3) ∧ s.time.lastT2 = some (t1, t2) ∧ (s.count (ethReg n 0x20)).fromMaster n m = true)) ((((((ready .idle).setB (ethReg 0 4) 0 true)).setF timeConfig 0 2 1).setReg ptpConfig 0x300).onTime fun u => { u with ptpPort := some 0, ports := [⟨some announce0, 0, []⟩], chosen := some 7, reqAt := some (3, 4), lastT2 := some (5, 6) }))
      ∧ (∃ at_ v, meets .offsetApply (fun s => s.runs = true) ((fun s => s.time.apply = some (at_, v))) ((ready .idle).onTime fun u => { u with apply := some (8, -1) })) :=
  by
  refine ⟨⟨1, ⟨9, 3, 0, false, 0, 0⟩, ?_⟩,
    ⟨(1 : Fin 2), ?_⟩,
    ⟨0, ⟨9, 3, 0, false, 0, 0⟩, 5, 6, 4, ?_⟩,
    ⟨8, (-1), ?_⟩⟩
  all_goals decide +kernel

/-- Clauses of MotionEvents are met somewhere. -/
theorem met_MotionEvents :
    (∃ p, meets (fun t => .planningTick t p) (fun s => s.runs = true ∧ s.mode.mode.driveOn = true) ((fun s => s.mpKind p ≠ 0 ∧ (s.axis p).gatesOff = false ∧ ((s.takeLims p).axis p).motion = .rest)) (((ready .idle).setF (mpReg 7 4) 0 2 1).onAxis 7 fun a => { a with gatesOff := false }))
      ∧ (∃ p, meets (fun t => .planningTick t p) (fun s => s.runs = true ∧ s.mode.mode.driveOn = true) ((fun s => s.mpKind p ≠ 0 ∧ (s.axis p).gatesOff = false ∧ ((s.takeLims p).axis p).motion ≠ .rest)) (((ready .idle).setF (mpReg 7 4) 0 2 1).onAxis 7 fun a => { a with gatesOff := false, motion := .velocity }))
      ∧ (∃ p, meets (fun t => .moveDone t p) (fun s => s.runs = true ∧ s.mode.mode.driveOn = true) ((fun s => ((s.axis p).motion = .position ∨ (s.axis p).motion = .velocity ∨ (s.axis p).motion = .stopping) ∧ (s.axis p).homeWhy = none ∧ (s.axis p).arrived = true)) ((ready .idle).onAxis 7 fun a => { a with motion := .stopping }))
      ∧ (∃ p at_, meets (fun t => .holdCurrent t p) (fun s => s.runs = true ∧ s.mode.mode.driveOn = true) ((fun s => (s.axis p).motion = .rest ∧ (s.axis p).restAt = some at_ ∧ (s.axis p).gatesOff = false)) ((ready .idle).onAxis 7 fun a => { a with restAt := some 5, gatesOff := false }))
      ∧ (∃ p, meets (fun t => .driverShort t p) (fun s => s.runs = true ∧ s.mode.mode.driveOn = true) ((fun s => s.mpKind p ≠ 0 ∧ (s.axis p).gatesOff = false)) (((ready .idle).setF (mpReg 7 4) 0 2 1).onAxis 7 fun a => { a with gatesOff := false }))
      ∧ (∃ p, meets (fun t => .homeStall t p) (fun s => s.runs = true ∧ s.mode.mode.driveOn = true) ((fun s => (s.axis p).motion = .homing ∧ (s.axis p).stalled = false ∧ ((s.onAxis p fun a => { a with v := 0, a := 0, stalled := true, stallAt := s.now }).gangOf p).all (fun q => ((s.onAxis p fun a => { a with v := 0, a := 0, stalled := true, stallAt := s.now }).axis q).stalled) = false)) (({ ready .idle with front := { (ready .idle).front with frames := [⟨1, some 6, 2, [(0, .leaf (.motor 6)), (1, .leaf (.motor 7))]⟩] } } : State).onAxis 7 fun a => { a with motion := .homing }))
      ∧ (∃ p, meets (fun t => .homeDone t p) (fun s => s.runs = true ∧ s.mode.mode.driveOn = true) ((fun s => (s.axis p).arrived = true ∧ (s.axis p).motion = .backoff)) ((ready .idle).onAxis 7 fun a => { a with motion := .backoff }))
      ∧ (∃ p w, meets (fun t => .homeDone t p) (fun s => s.runs = true ∧ s.mode.mode.driveOn = true) ((fun s => (s.axis p).arrived = true ∧ (s.axis p).motion = .stopping ∧ (s.axis p).homeWhy = some w)) ((ready .idle).onAxis 7 fun a => { a with motion := .stopping, homeWhy := some 2 })) :=
  by
  refine ⟨⟨7, ?_⟩,
    ⟨7, ?_⟩,
    ⟨7, ?_⟩,
    ⟨7, 5, ?_⟩,
    ⟨7, ?_⟩,
    ⟨7, ?_⟩,
    ⟨7, ?_⟩,
    ⟨7, 2, ?_⟩⟩
  all_goals decide +kernel

/-- Clauses of MotionEvents are met somewhere. -/
theorem met_MotionEvents_1 :
    (∃ p level, meets (fun t => .limitEdge t p true level) (fun s => s.runs = true ∧ s.mode.mode.driveOn = true) ((fun s => s.regB (mpReg p 4) 10 = false)) ((ready .idle).setB (mpReg 7 4) 10 false))
      ∧ (∃ p level, meets (fun t => .limitEdge t p false level) (fun s => s.runs = true ∧ s.mode.mode.driveOn = true) ((fun s => s.regB (mpReg p 4) 10 = false)) ((ready .idle).setB (mpReg 0 4) 10 false))
      ∧ (∃ p positive level, meets (fun t => .limitEdge t p positive level) (fun s => s.runs = true ∧ s.mode.mode.driveOn = true) ((fun s : State =>
  let seen (p : Fin 8) (positive level : Bool) (s : State) : State := s.onAxis p fun a =>
    if positive then { a with limP := level == s.regB (mpReg p 4) 11, edgesP := (s.now :: a.edgesP.filter fun e => decide (s.now ≤ e + 100 * milli)).take 16 }
    else { a with limN := level == s.regB (mpReg p 4) 11, edgesN := (s.now :: a.edgesN.filter fun e => decide (s.now ≤ e + 100 * milli)).take 16 }
  ((fun s => s.regB (mpReg p 4) 10 = true ∧ s.mpKind p ≠ 0 ∧ 8 < (if positive then ((seen p positive level s).axis p).edgesP else ((seen p positive level s).axis p).edgesN).length ∧ 0x25 ∉ (s.axis p).faults)) s)) ((((ready .idle).setF (mpReg 7 4) 0 2 1).setF (mpReg 7 4) 10 2 1).onAxis 7 fun a => { a with edgesP := List.replicate 8 0 }))
      ∧ (∃ p positive, meets (fun t => .limitEdge t p positive (!positive)) (fun s => s.runs = true ∧ s.mode.mode.driveOn = true) ((fun s => s.regB (mpReg p 4) 10 = true ∧ s.mpKind p ≠ 0 ∧ s.regB (mpReg p 4) 11 = !positive ∧ (s.axis p).edgesP = [] ∧ (s.axis p).edgesN = [] ∧ (s.axis p).moving = true ∧ (if positive then 0 < (s.axis p).dir else (s.axis p).dir < 0))) ((((ready .idle).setF (mpReg 7 4) 0 2 1).setF (mpReg 7 4) 10 2 1).onAxis 7 fun a => { a with motion := .velocity, v := 5, target := 9000 }))
      ∧ (∃ p positive, meets (fun t => .chatterQuiet t p positive) (fun s => s.runs = true) ((fun s => 0x25 ∈ (s.axis p).faults ∧ s.ackPending (.motor p) = false ∧ ∀ e ∈ (s.axis p).edgesN ++ (s.axis p).edgesP, e + 100 * milli ≤ (s.reach (((if positive then (s.axis p).edgesP else (s.axis p).edgesN).head?).getD 0 + 100 * milli)).now)) ((ready .idle).onAxis 7 fun a => { a with faults := [0x25], edgesP := [40, 30], edgesN := [20] }))
      ∧ (∃ f quad, meets (fun t => .indexEvent t f quad) (fun s => s.runs = true ∧ s.mode.mode.driveOn = true) ((fun s => s.regF (fbReg f 0) 0 2 = 0 ∧ ((s.feed f).refArmed = true ∨ (s.feed f).ref = none))) ((ready .idle).onFeed 7 fun x => { x with refArmed := true }))
      ∧ (∃ f r, meets (fun t => .indexEvent t f false) (fun s => s.runs = true ∧ s.mode.mode.driveOn = true) ((fun s => s.regF (fbReg f 0) 0 2 = 0 ∧ (s.feed f).refArmed = false ∧ (s.feed f).ref = some r ∧ (s.reg (fbReg f 4)).toNat ≠ 0 ∧ s.fbCount f ≠ r + roundHalfAway (s.fbCount f - r) (s.reg (fbReg f 4)).toNat * (s.reg (fbReg f 4)).toNat ∧ (s.fbCount f - (r + roundHalfAway (s.fbCount f - r) (s.reg (fbReg f 4)).toNat * (s.reg (fbReg f 4)).toNat)).natAbs ≤ s.regF (fbReg f 0) 12 4)) (((((ready .idle).setReg (fbReg 7 0) 0xF000).setReg (fbReg 7 4) 4000).setReg (fbReg 7 8) 4015).onFeed 7 fun x => { x with ref := some 0 }))
      ∧ (∃ f, meets (fun t => .encoderFault t f) (fun s => s.runs = true ∧ s.mode.mode.driveOn = true) ((fun s => s.regF (fbReg f 0) 16 8 < (s.feed f).errs)) ((ready .idle).onFeed 7 fun x => { x with errs := 256 })) :=
  by
  refine ⟨⟨7, false, ?_⟩,
    ⟨0, false, ?_⟩,
    ⟨7, true, true, ?_⟩,
    ⟨7, true, ?_⟩,
    ⟨7, true, ?_⟩,
    ⟨7, true, ?_⟩,
    ⟨7, (0 : Int), ?_⟩,
    ⟨7, ?_⟩⟩
  all_goals decide +kernel

/-- Clauses of MotionEvents are met somewhere. -/
theorem met_MotionEvents_2 :
    (∃ f a b z, meets (fun t => .feedbackEdge t f a b z false) (fun s => s.runs = true ∧ s.mode.mode.driveOn = true) ((fun _ => True)) (ready .idle))
      ∧ (∃ f a b z, meets (fun t => .feedbackEdge t f a b z true) (fun s => s.runs = true ∧ s.mode.mode.driveOn = true) ((fun s => s.regF (fbReg f 0) 0 2 = 1 ∧ s.regB (fbReg f 0) 11 = false ∧ (s.feed f).a = false ∧ a = true ∧ ((s.onFeed f fun x => { x with a := a, b := b, z := z }).setReg (fbReg f 0x1C) (BitVec.ofNat 32 (bit a + 2 * bit b + 4 * bit z))).regF (fbReg f 0) 0 2 = 1)) ((ready .idle).setReg (fbReg 7 0) 1)) :=
  by
  refine ⟨⟨7, false, 0, false, ?_⟩,
    ⟨7, true, false, false, ?_⟩⟩
  all_goals decide +kernel

/-- Clauses of LightAndRecorderEvents are met somewhere. -/
theorem met_LightAndRecorderEvents :
    (meets .pageCommit (fun s => s.runs = true) ((fun s => s.pageDue = true ∧ 0 < s.tally.tokens)) (({ ready .idle with now := 100000 * second } : State).onTally fun t => { t with staged := [⟨0, 1, 0, [], 0⟩], tokens := 1 }))
      ∧ (meets .ringsCommit (fun s => s.runs = true) ((fun _ => True)) (ready .idle))
      ∧ (meets .eraMark (fun s => s.runs = true) ((fun _ => True)) (ready .idle))
      ∧ (meets .stagingWriteComplete (fun s => s.runs = true) ((fun s => s.tally.writing ≠ none)) ((ready .idle).onTally fun t => { t with writing := some ⟨0, 1, 0, [], 0⟩ }))
      ∧ (meets .stagingWriteComplete (fun s => s.runs = true) ((fun s => s.tally.writing = none)) (ready .idle)) :=
  by decide +kernel

/-- Clauses of LightAndRecorderEvents are met somewhere. -/
theorem met_LightAndRecorderEvents_1 :
    (∃ n w, meets (fun t => .windowStart t n) (fun s => s.runs = true ∧ s.mode.mode.driveOn = true) ((fun s => (s.joist n).windows.find? (fun w => !w.running) = some w)) ((ready .idle).onJoist 0 fun j => { j with windows := [⟨3, 4, 0, false⟩] }))
      ∧ (∃ n w, meets (fun t => .windowEnd t n) (fun s => s.runs = true ∧ s.mode.mode.driveOn = true) ((fun s => (s.joist n).windows.find? (fun w => w.running) = some w)) ((ready .idle).onJoist 0 fun j => { j with windows := [⟨3, 4, 0, true⟩] }))
      ∧ (∃ ohms, meets (fun t => .ntcConversion t ohms) (fun s => s.runs = true ∧ s.mode.mode.driveOn = true) ((fun _ => True)) (ready .idle))
      ∧ (∃ c, meets (fun t => .ledShort t c) (fun s => s.runs = true ∧ s.mode.mode.driveOn = true) ((fun s => s.ledEmits c = true)) (((ready .idle).setReg (ledReg 15 4) 1).onLed 15 fun l => { l with level := (50, 65535) }))
      ∧ (∃ c, meets (fun t => .ledOpen t c) (fun s => s.runs = true ∧ s.mode.mode.driveOn = true) ((fun s => s.ledEmits c = true ∧ s.ledBrief c = false ∧ 0x31 ∉ (s.led c).faults)) (((ready .idle).setReg (ledReg 15 4) 1).onLed 15 fun l => { l with level := (50, 65535) }))
      ∧ (∃ c slot, meets (fun t => .provingPulse t c slot true) (fun s => s.runs = true ∧ s.mode.mode.driveOn = true) ((fun s => s.ledOn c = true ∧ s.ledOff c = false ∧ s.ledProves c = false ∧ s.mode.mode.driveOn = true)) (((ready .idle).setReg (ledReg 15 4) 1).onLed 15 fun l => { l with level := (50, 65535) }))
      ∧ (∃ c, meets (fun t => .provingPulse t c true true) (fun s => s.runs = true ∧ s.mode.mode.driveOn = true) ((fun s => s.ledOn c = true ∧ s.ledOff c = false ∧ s.ledProves c = true ∧ s.ledShut c = false ∧ s.stepFirst c = false ∧ s.mode.mode.driveOn = true)) (((ready .idle).setReg (ledReg 15 4) 1).onLed 15 fun l => { l with level := (50, 65535), faults := [0x31] }))
      ∧ (∃ c pass, meets (fun t => .provingPulse t c true pass) (fun s => s.runs = true ∧ s.mode.mode.driveOn = true) ((fun s => s.ledOn c = true ∧ s.ledOff c = false ∧ s.ledProves c = true ∧ (s.ledShut c = true ∨ s.stepFirst c = true))) ((((ready .idle).setReg (ledReg 15 4) 1).onLed 15 fun l => { l with level := (50, 65535), faults := [0x31] }).onLights fun l => { l with testing := [15] })) :=
  by
  refine ⟨⟨0, (⟨3, 4, 0, false⟩ : Win), ?_⟩,
    ⟨0, (⟨3, 4, 0, true⟩ : Win), ?_⟩,
    ⟨[], ?_⟩,
    ⟨15, ?_⟩,
    ⟨15, ?_⟩,
    ⟨15, false, ?_⟩,
    ⟨15, ?_⟩,
    ⟨15, false, ?_⟩⟩
  all_goals decide +kernel

/-- Clauses of LightAndRecorderEvents are met somewhere. -/
theorem met_LightAndRecorderEvents_2 :
    (∃ c pass, meets (fun t => .provingPulse t c false pass) (fun s => s.runs = true ∧ s.mode.mode.driveOn = true) ((fun s => s.ledOn c = true ∧ s.ledOff c = false ∧ s.ledProves c = true ∧ s.mode.mode.driveOn = true)) (((ready .idle).setReg (ledReg 15 4) 1).onLed 15 fun l => { l with level := (50, 65535), faults := [0x31] }))
      ∧ (∃ c : Fin 16, meets (fun t => .adjacencyStep t c ⟨true, true⟩) (fun s => s.runs = true ∧ s.mode.mode.driveOn = true) ((fun s => c.val ∈ s.lights.testing ∧ s.mode.mode.driveOn = true)) ((ready .idle).onLights fun l => { l with testing := [15] }))
      ∧ (∃ c : Fin 16, meets (fun t => .adjacencyStep t c ⟨false, false⟩) (fun s => s.runs = true ∧ s.mode.mode.driveOn = true) ((fun s => c.val ∈ s.lights.testing ∧ s.mode.mode.driveOn = true)) ((ready .idle).onLights fun l => { l with testing := [15] }))
      ∧ (∃ v, meets .tokenAccrual (fun s => s.runs = true) ((fun s => ((((s.onTally fun t => { t with tokens := min (t.tokens + 1) (max t.tokens s.burst) }).rings fun r => { r with hubSecs := r.hubSecs + 1 }).ringHist 1 (centi (signed 16 (regView ((s.onTally fun t => { t with tokens := min (t.tokens + 1) (max t.tokens s.burst) }).rings fun r => { r with hubSecs := r.hubSecs + 1 }) 0x0B00001C).toNat)))).hottest = some v)) ((ready .idle).setReg (ntcReg 3) 5)) :=
  by
  refine ⟨⟨15, false, ?_⟩,
    ⟨(15 : Fin 16), ?_⟩,
    ⟨(15 : Fin 16), ?_⟩,
    ⟨5, ?_⟩⟩
  all_goals decide +kernel

/-! ## Witnesses: states and packets that meet the premises of the other statements -/

theorem met_TimeNeverDecreases : State.reset.now ≤ State.reset.now ∧ step State.reset = .next State.reset := ⟨Nat.le_refl _, rfl⟩
theorem met_RegisterHolds : ((ready .idle).setReg 0 1).regs.Pairwise fun x y => x.1 < y.1 := by decide +kernel
theorem met_MemoryHolds : Memory.wf [(4, 1), (5, 2)] = true := by decide
theorem met_WriteStores : Memory.wf State.reset.mem = true ∧ State.reset.ueIn 0x10000000 1 = [] := by decide +kernel

/-- SESSION_OPEN with session 0, ALERT_MASK from the manager in a worker where the session is not open, HOLD 1 us late, and packets for worker 1. -/
theorem met_PacketsAreOpcodes :
    let p0 : Packet := sealed 1 { raw 0 root (w [7] ++ h [3, 600]) with session := 0 }
    let pm : Packet := sealed 0x30 { raw 0 (1 :: root.drop 1) (w [0]) with port := .rafter }
    let pl : Packet := sealed 0x11 (raw 5 root [])
    let f1 : Packet := pk 0 (1 :: root.drop 1) []
    let f0 : Packet := sealed 0 { raw 0 (1 :: root.drop 1) [] with session := 0 }
    packetOf (.ping 0 (pk 0 root [])) = some (0, 0, pk 0 root [])
      ∧ (executes opSessionOpen 1 0 p0 (ready .idle) .host none = true ∧ (startState 1 (ready .idle) 0 p0 .host).freeSlot = some 1)
      ∧ executes opHold 0x11 0 pl { ready .idle with now := 1000 } (byCaller { ready .idle with now := 1000 }) (some 1000) = true
      ∧ (executes opAlertMask 0x30 0 pm worker1 .manager none = true ∧ (startState 0x30 worker1 0 pm .manager).session pm.session = none)
      ∧ (headPasses 0 0 f1 manager1 = true ∧ callerOf manager1 0 f1 = some (caller manager1) ∧ (caller manager1).seqCase .spi 1 = .fresh
          ∧ ((inState manager1 0 f1).setSession (caller manager1)).forwardTo 0 f1 = some 1)
      ∧ (headPasses 0 0 f0 manager1 = true ∧ f0.session = 0 ∧ (inState manager1 0 f0).openTo0 0 [] = true ∧ (inState manager1 0 f0).repeats0 f0 = false
          ∧ (inState manager1 0 f0).forwardTo 0 f0 = some 1) := by
  decide +kernel

/-- ALERT_ACK from the manager, in a worker where the session is not open. -/
theorem met_SessionCommands_worker :
    let pm : Packet := sealed 0x31 { raw 0 (1 :: root.drop 1) (w [1]) with port := .rafter }
    executes opAlertAck 0x31 0 pm worker1 .manager none = true ∧ (startState 0x31 worker1 0 pm .manager).session pm.session = none := by decide +kernel

/-- The ways not to hear: BOOT, a port without a link, and another UDP port. -/
theorem met_DeafDiscards : State.reset.runs = false ∧ (ready .idle).runs = true ∧ (ready .idle).hears { raw 0 root [] with port := .eth0 } = false
      ∧ ((ready .idle).onTime fun u => { u with linkUp0 := true }).hears { raw 0 root [] with port := .eth0, dport := 9 } = false := by decide +kernel
theorem met_MalformedDiscarded :
    (ready .idle).runs = true ∧ (ready .idle).hears { pk 0 root [] with path := [0] } = true ∧ { pk 0 root [] with path := [0] }.wellFormed = false := by decide +kernel
theorem met_CrcAnswered :
    (ready .idle).runs = true ∧ (ready .idle).hears (raw 0 root []) = true ∧ (raw 0 root []).wellFormed = true ∧ (raw 0 root []).port ≠ .rafter
      ∧ crc32c (rawHead 0 (raw 0 root []) ++ []) ≠ (raw 0 root []).crc := by decide +kernel

/-- A packet of a wrong version, with a reserved flag, with ALERT, of an opcode with bit 15, and with a wrong tag; each has its CRC. -/
theorem met_HeadAnswered :
    let ok (op : Nat) (p : Packet) : Bool := (ready .idle).runs && (ready .idle).hears p && p.wellFormed && crc32c (rawHead op p ++ p.tag) == p.crc
    let bad : Packet := sealed 0 { raw 2 root [] with tag := List.replicate 16 0 }
    (ok 0 (sealed 0 { raw 0 root [] with version := 2 }) = true)
      ∧ (ok 0 (sealed 0 (raw 0x10 root [])) = true ∧ (raw 0x10 root []).flags.toNat / 16 ≠ 0)
      ∧ (ok 0 (sealed 0 (raw 8 root [])) = true ∧ (raw 8 root []).isAlert = true)
      ∧ (ok 0x8000 (pk 0x8000 root []) = true)
      ∧ (ok 0 bad = true ∧ bad.isSecure = true ∧ (ready .idle).tagOk 0 bad = false) := by
  decide +kernel

/-- HOLD with session 0, and with a session that is not open. -/
theorem met_SessionMissing :
    (headPasses 0x0011 0 (sealed 0x0011 { raw 0 root [] with session := 0 }) (ready .idle) = true ∧ (ready .idle).openTo0 0x0011 [] = false)
      ∧ headPasses 0x0011 0 (sealed 0x0011 { raw 0 root [] with session := 8 }) (ready .idle) = true ∧ (ready .idle).session 8 = none := by
  decide +kernel

/-- A repetition whose reply is kept, one that a worker answered, and one that a worker has not answered yet. -/
theorem met_RepeatedIsResent :
    let se (k : Option (List Byte)) (waits : Bool) : Session := { sess with highest := some 1, seen := [⟨1, .spi, ⟨0, 0, 0⟩, k, waits⟩] }
    let s := fronts fun f => { f with sessions := [se (some [7]) false] }
    let v : State := { manager1 with front := { manager1.front with sessions := [se none true] } }
    let u : State := { worker1 with front := { worker1.front with replied := [(9, 1, [7])] } }
    let pr : Packet := sealed 0 { raw 0 (1 :: root.drop 1) [] with port := .rafter }
    let pf : Packet := pk 0 (1 :: root.drop 1) []
    (headPasses 0 0 (pk 0 root []) s = true ∧ callerOf s 0 (pk 0 root []) = some (se (some [7]) false) ∧ (se (some [7]) false).seqCase .spi 1 = .resend [7])
      ∧ (formPasses 0 0 pr u = true ∧ ((inState u 0 pr).front.replied.find? fun x => x.1 == 9 && x.2.1 == 1) = some (9, 1, [7]))
      ∧ headPasses 0 0 pf v = true ∧ callerOf v 0 pf = some (se none true) ∧ (se none true).seqCase .spi 1 = .forward
      ∧ ((inState v 0 pf).setSession (se none true)).forwardTo 0 pf = some 1 := by
  decide +kernel

/-- A number that lies 1,025 behind, and the second copy of a dual packet. -/
theorem met_StaleAndDual :
    let old : Session := { sess with highest := some 1026 }
    let two : Session := { sess with dual := true, highest := some 1, seen := [⟨1, .eth0, ⟨0, 0, 0⟩, some [7], false⟩] }
    let p1 : Packet := sealed 0 { raw 0 root [] with port := .eth1, dport := 51720 }
    let s := fronts fun f => { f with sessions := [old] }
    let d : State := (fronts fun f => { f with sessions := [two] }).onTime fun u => { u with linkUp1 := true }
    (headPasses 0 0 (pk 0 root []) s = true ∧ callerOf s 0 (pk 0 root []) = some old ∧ old.seqCase .spi 1 = .stale)
      ∧ headPasses 0 0 p1 d = true ∧ ∃ se, callerOf d 0 p1 = some se ∧ se.seqCase .eth1 1 = .dual :=
  ⟨by decide +kernel, by decide +kernel, _, rfl, by decide +kernel⟩

/-- A SECURE packet of session 0 in UPDATE with the number that is the highest kept. -/
theorem met_StaleAndDual_update :
    let s : State := { ready .update with sec := { State.reset.sec with seq0 := some 1 } }
    let p : Packet := { raw 2 root [] with session := 0 }
    (s.openTo0 0x0E03 [] = true ∧ s.repeats0 p = true) ∧ runsAt opUpdateBegin 0x0E03 (spk 0x0E03 root []) (ready .update) (fun _ _ => true) = true :=
  ⟨by decide +kernel, runs_spk rfl (by decide) (by decide +kernel)⟩

theorem met_UnknownOpcode :
    opSpec (0x7FFF : BitVec 16).toNat = none ∧ arrivesNew 0x7FFF 0 (pk 0x7FFF root []) (ready .idle) (byCaller (ready .idle)) = true := ⟨rfl, by decide +kernel⟩

/-- HOLD with four parameter bytes. -/
theorem met_RefusedAnswered :
    arrivesNew 0x0011 0 (pk 0x0011 root [0, 0, 0, 0]) (ready .idle) (byCaller (ready .idle)) = true
      ∧ ∃ r a, opHold.judge (startState 0x0011 (ready .idle) 0 (pk 0x0011 root [0, 0, 0, 0]) (byCaller (ready .idle))) 0x0011 (pk 0x0011 root [0, 0, 0, 0]) false 5 = .refuse r a :=
  ⟨by decide +kernel, _, _, rfl⟩

/-- HOLD at a time that is just far enough ahead. -/
theorem met_ScheduledIsKept :
    let p : Packet := sealed 0x0011 { raw 4 root [] with atNs := 5000 }
    arrivesNew 0x0011 0 p (ready .idle) (byCaller (ready .idle)) = true
      ∧ ∃ c due n, opHold.judge (startState 0x0011 (ready .idle) 0 p (byCaller (ready .idle))) 0x0011 p false 5 = .later c due n :=
  ⟨by decide +kernel, _, _, _, rfl⟩

/-- Refusals of the world, of the mode, of the path and of the parameters. -/
theorem met_StepsInOrder :
    let c (o : OpSpec) (op : Nat) (p : Packet) (s : State) : Ctx := o.ctx s op p false 5
    let i := ready .idle
    let x := ready .expose
    (raw 0 root []).hasAt = false
      ∧ (opRingsConfig.world i (c opRingsConfig 0x0D05 (raw 0 root []) i) = some 0)
      ∧ (opReset.world x (c opReset 0x0014 (raw 0 root []) x) = none ∧ x.mode.mode ≠ .update ∧ opReset.mode x (c opReset 0x0014 (raw 0 root []) x) x.mode.mode = some 1)
      ∧ ((match i.resolve opPing.path (raw 0 (at1 5) []) with | .error _ => true | .ok _ => false) = true)
      ∧ ((match i.resolve opPing.path (raw 0 root []) with | .error _ => false | .ok _ => true) = true
          ∧ opPing.params i (c opPing 0 (raw 0 root [0, 0, 0, 0]) i) = some 0xFFFF) := by
  decide +kernel

theorem met_FanOutReaches : (opBeamStatus.fan (ready .idle) (opBeamStatus.ctx (ready .idle) 0x0403 (raw 0 (at1 0) []) false 5) isBeam false).reject = none := by decide +kernel
theorem met_ReadsStand : (ready .idle).held = [] ∧ (ready .idle).ue = [] ∧ ∃ u, exec (.ping 0 (pk 0 root [])) (ready .idle) = .next u := ⟨rfl, rfl, _, rfl⟩
theorem met_MissingIsExact : (([(0, 4)] : List (Nat × Nat)).Pairwise fun x y => x.2 < y.1) ∧ (∀ r ∈ [((0, 4) : Nat × Nat)], r.1 < r.2) ∧ 4 < 8 := by decide
theorem met_ScheduleOrder_rest : (fronts fun f => { f with sched := [sched0] }).schedule = [sched0] := by decide +kernel

/-- A scheduled LATCH_CLEAR that comes due in EXPOSE. -/
theorem met_PacketFrontEvents_mode (v : State) (c : Ctx) : opSpec 0x0013 = some opLatchClear ∧ opLatchClear.mode v c (ready .expose).mode.mode = some 1 := ⟨rfl, rfl⟩

/-- An image whose digest fits passes where its signature does, which is a free value (log entry 4). -/
theorem met_SecurityCommands_image (hs : ∀ x, Config.signatureOk x = true) :
    ({ slotB .update .writing with nv := Memory.writes [] 0x1000000 (w [0x4D49464A, 1, 0, 4] ++ sha256 [0, 0, 0, 0]) } : State).imageResult true = 0 := by
  unfold State.imageResult
  rw [if_neg (by decide +kernel), if_neg (by decide +kernel), if_neg (by decide +kernel), if_neg (by rw [hs]; decide), if_neg (by decide +kernel)]

/-- A pulse of 99 ns: one of the two clauses applies, as the free value decides (log entry 2). -/
theorem met_SupervisorEvents_short :
    let s := ((ready .idle).onSafety fun c => { c with enA := true, enB := true }).touch 0
    s.power.power = .on ∧ s.safety.enB = true ∧ 99 < 100 ∧ (Config.freeNat s.draws % 2 = 1 ∨ Config.freeNat s.draws % 2 = 0) := by
  refine ⟨by decide +kernel, by decide +kernel, by decide, ?_⟩
  omega

theorem met_BeamPortEvents_edge :
    let s : State := (ready .expose).setB (beamReg 7 0x6000) 0 true
    (s.runs = true ∧ s.mode.mode.driveOn = true) ∧ s.raster 7 = some initRaster ∧ s.isRaster 7 = true ∧ initRaster.lastStamp < 1 := by decide +kernel
theorem met_ScribeVeneerEvents_start :
    (ready .calibrate).runs = true ∧ (ready .calibrate).mode.mode.beamOn = true ∧ ((ready .calibrate).scribe 0).pass = none := by decide +kernel

/-- A Sync of the master with a Follow_Up to come, one without, and that Follow_Up. -/
theorem met_NetworkEvents_master :
    let s : State := (((ready .idle).setF timeConfig 0 2 1).setReg ptpConfig 0x300).onTime fun u =>
      { u with ptpPort := some 0, ports := [⟨some announce0, 0, []⟩], chosen := some 7, pathDelay := some 2 }
    let v : State := s.onTime fun u => { u with sync := some (3, 6, 1) }
    (s.fromMaster 0 ⟨9, 3, 0, true, 0, 0⟩ = true ∧ s.fromMaster 0 ⟨9, 3, 0, false, 0, 0⟩ = true ∧ s.time.sync = none ∧ s.time.pathDelay = some 2)
      ∧ v.fromMaster 0 ⟨9, 3, 0, false, 0, 0⟩ = true ∧ v.time.sync = some (3, 6, 1) ∧ v.time.pathDelay = some 2 := by
  decide +kernel

/-- A lane that comes back to a degraded port, with clean headers and without, and one that leaves the stripe of a port that is UP. -/
theorem met_LaneAndHeadEvents_stripe :
    let s (c : Bool) : State := ((ready .idle).onLane (.down 3) fun x => { x with link := .up }).onRport .down fun r =>
      { r with port := .degraded, inStripe := [true, true, true, false], clean := [false, false, false, c] }
    let v : State := (ready .idle).onRport .down fun r => { r with port := .up, inStripe := List.replicate 4 true }
    (∀ c, (((s c).rport .down).lanes.getD 3 noLane).link = .up ∧ ((s c).rport .down).inStripe.getD 3 false = false ∧ ((s c).rport .down).port = .degraded)
      ∧ (v.rport .down).inStripe.getD 0 false = true ∧ (v.rport .down).port = .up := by
  decide +kernel

end

end Sys2Proof.Tests
end

namespace Sys2Proof.Machine

open Sys2Proof

/-! ## The guard of every command

Every meaning is one of the guards of Machine/Modes.lean and Machine/Events.lean around an effect of its own, and each guard decides alone what becomes of device time. -/

/-- `u` is what a guard leaves of `s`, around some effect `f`. -/
inductive Guarded (s : State) : State → Prop
  /-- An event or a packet of the HUB, which sleeps in SILL, BOOT and a held reset. -/
  | hub (t : Nat) (f : State → State) : Guarded s (s.act t f)
  /-- An event of the chain, of the lanes or of memory, in BOOT too. -/
  | chain (t : Nat) (f : State → State) : Guarded s (s.chainAct t f)
  /-- An event of the Sill domain. -/
  | sill (t : Nat) (f : State → State) : Guarded s (s.sillAct t f)
  /-- An event of the module without power. -/
  | off (f : State → State) : Guarded s (s.unpowered f)

/-- An event with one guard for the powered module and another for the module without power is guarded. -/
theorem Guarded.byPower {s u v : State} (on : Guarded s u) (off : Guarded s v) : Guarded s (if s.power.power = .on then u else v) := by
  split
  · exact on
  · exact off

/-- Every command, from every state, answers what a guard leaves. -/
theorem exec_guarded (i : Instr) (s : State) : ∃ u, exec i s = .next u ∧ Guarded s u := by
  cases i
  case powerOn | porRelease => exact ⟨_, rfl, .off _⟩
  case brownOut | pinReset | resetNRise | referenceLoss | referenceRestored | laserEnFall | laserEnRise =>
    exact ⟨_, rfl, .byPower (.sill _ _) (.off _)⟩
  case thermalTrip | thermalRelease | wakeEvent | wakeAlarm | discrepancy | vinWarning | supplyDip | vinHigh | vmotFault | vledFault | holdupLow | tempWarning
      | ref32Loss | ref32Restored | spiStatus =>
    exact ⟨_, rfl, .sill _ _⟩
  case watchdog | memoryCe | memoryUe | laneSignalLost | laneSignalOk | laneAligned | attemptTimeout | backoffEnd | hello | align | laneErased | portHello | index
      | timeSyncSend | timeSync | rafterTimeEcho | tirril =>
    exact ⟨_, rfl, .chain _ _⟩
  -- Packets, and the events of the HUB and of the BEAM and DRIVE domains.
  all_goals exact ⟨_, rfl, .hub _ _⟩

/-! ## Device time (R16) -/

theorem now_le_touch (s : State) (t : Nat) : s.now ≤ (s.touch t).now := Nat.le_max_left _ _

theorem now_le_keep (s u : State) : s.now ≤ (s.keep u).now := Nat.le_max_left _ _

/-- A command's time comes, and its effect is kept or does not happen: device time does not decrease. -/
theorem now_le_guard (s u : State) (t : Nat) (c : Prop) [Decidable c] : s.now ≤ (if c then (s.touch t).keep u else s.touch t).now := by
  split
  · exact (now_le_touch s t).trans (now_le_keep _ u)
  · exact now_le_touch s t

theorem Guarded.now_le {s u : State} (h : Guarded s u) : s.now ≤ u.now := by
  cases h with
  | hub t f => exact now_le_guard s _ t _
  | chain t f => exact now_le_guard s _ t _
  | sill t f => exact now_le_guard s _ t _
  | off f => exact now_le_keep s _

theorem exec_now_le {i : Instr} {s u : State} (h : exec i s = .next u) : s.now ≤ u.now := by
  obtain ⟨v, hv, guarded⟩ := exec_guarded i s
  obtain rfl : v = u := Host.Outcome.next.inj (hv.symm.trans h)
  exact guarded.now_le

/-- An empty queue idles, and a command starts at the device time of the step. -/
theorem step_now_le {s u : State} (h : step s = .next u) : s.now ≤ u.now := by
  unfold step at h
  split at h
  next => exact Host.Outcome.next.inj h ▸ Nat.le_refl _
  next c r _ => exact exec_now_le (s := { s with pending := r }) h

/-- Settles O3: every meaning is a guard around an effect, and no guard takes device time back. -/
theorem timeNeverDecreases : Obligations.TimeNeverDecreases := by
  intro T s s' hT h
  exact hT.trans (step_now_le h)

/-! ## The state right after reset -/

/-- Reset lists one register alone: ENABLE of the manager's upstream port (R374). -/
theorem reset_reg (a : Nat) : State.reset.reg a = if a = 0x08004004 then 0 else resetOf a := by
  simp only [State.reg, State.reset, initRegs, if_true, getKey, eq_comm]

/-- Settles O2: the parts stand in `State.reset` as written, and its registers by `reset_reg`. -/
theorem resetState : Obligations.ResetState := by
  obtain ⟨hmem, hnv⟩ := reset_memories
  refine ⟨rfl, rfl, rfl, rfl, rfl, rfl, rfl, rfl, rfl, hmem, hnv, ?_, fun a ha => ?_⟩
  · rw [reset_reg, if_pos rfl]
  · rw [reset_reg, if_neg ha]

end Sys2Proof.Machine

namespace Sys2Proof.Machine

open Sys2Proof

/-! ## Lists of keys that rise -/

/-- An entry of the list in which `k` was given `v` is that entry or stood before. -/
theorem mem_putKey {α : Type} [DecidableEq α] {k : Nat} {v d : α} {l : List (Nat × α)} {c : Nat × α} (h : c ∈ putKey k v d l) : c = (k, v) ∨ c ∈ l := by
  fun_induction putKey k v d l <;> grind

/-- A key given a value keeps the keys rising. -/
theorem putKey_pairwise {α : Type} [DecidableEq α] (k : Nat) (v d : α) {l : List (Nat × α)} (h : l.Pairwise fun x y => x.1 < y.1) :
    (putKey k v d l).Pairwise fun x y => x.1 < y.1 := by
  induction l with
  | nil => unfold putKey; split <;> simp
  | cons e r ih =>
    obtain ⟨k', v'⟩ := e
    obtain ⟨above, rest⟩ := List.pairwise_cons.mp h
    unfold putKey
    split_ifs with before same
    · exact List.pairwise_cons.mpr ⟨fun c hc => (mem_putKey hc).elim (fun e => e ▸ before) (above c), ih rest⟩
    · exact rest
    · exact List.pairwise_cons.mpr ⟨same ▸ above, rest⟩
    · exact h
    · have after : k < k' := by omega
      exact List.pairwise_cons.mpr ⟨List.forall_mem_cons.mpr ⟨after, fun c hc => after.trans (above c hc)⟩, h⟩

/-- A key given a value reads it. -/
theorem getKey_putKey_same {α : Type} [DecidableEq α] (k : Nat) (v d : α) {l : List (Nat × α)} (h : l.Pairwise fun x y => x.1 < y.1) :
    getKey k d (putKey k v d l) = v := by
  induction l with
  | nil => unfold putKey; split <;> simp_all [getKey]
  | cons e r ih =>
    obtain ⟨k', v'⟩ := e
    obtain ⟨above, rest⟩ := List.pairwise_cons.mp h
    unfold putKey
    split_ifs with before same off off'
    · rw [getKey, if_neg (by omega), ih rest]
    · rw [getKey_below k d r (same ▸ above), off]
    · simp [getKey]
    · have after : k < k' := by omega
      rw [getKey_below k d _ (List.forall_mem_cons.mpr ⟨after, fun c hc => after.trans (above c hc)⟩)]
      exact off'.symm
    · simp [getKey]

/-- Any other key reads what it read. -/
theorem getKey_putKey_other {α : Type} [DecidableEq α] {k k' : Nat} (v d d' : α) (l : List (Nat × α)) (hk : k ≠ k') :
    getKey k' d' (putKey k v d l) = getKey k' d' l := by
  fun_induction putKey k v d l <;> grind [getKey]

/-- Entries taken off by their keys leave every other key as it was. -/
theorem getKey_filter {α : Type} (p : Nat → Bool) (k : Nat) (d : α) (l : List (Nat × α)) :
    getKey k d (l.filter fun c => p c.1) = if p k then getKey k d l else d := by
  induction l with
  | nil => simp [getKey]
  | cons c l ih =>
    obtain ⟨k', v⟩ := c
    rw [List.filter_cons]
    grind [getKey]

/-! ## Reading after a write -/

/-- Settles O5: a register's list keeps its keys rising, and reading it follows what one key of such a list reads. -/
theorem registerHolds : Obligations.RegisterHolds := by
  intro s a b w sorted
  exact ⟨getKey_putKey_same a w _ sorted, fun hab => getKey_putKey_other w _ _ _ hab, putKey_pairwise a w _ sorted⟩

/-- A byte outside the range that bytes were written to is as it was. -/
theorem Memory.read_writes_outside (bs : List Byte) (m : List Host.Cell) (a x : Nat) (h : x < a ∨ a + bs.length ≤ x) :
    Memory.read (Memory.writes m a bs) x = Memory.read m x := by
  induction bs generalizing m a with
  | nil => rfl
  | cons b r ih =>
    rw [List.length_cons] at h
    rw [Memory.writes, ih _ _ (by omega), Memory.read_write_other _ _ _ _ (by omega)]

/-- Bytes written are read back. -/
theorem Memory.reads_writes (bs : List Byte) (m : List Host.Cell) (a : Nat) (h : Memory.wf m = true) :
    Memory.reads (Memory.writes m a bs) a bs.length = bs := by
  induction bs generalizing m a with
  | nil => rfl
  | cons b r ih =>
    have first : Memory.read (Memory.writes (Memory.write m a b) (a + 1) r) a = b := by
      rw [Memory.read_writes_outside _ _ _ _ (.inl (Nat.lt_succ_self a)), Memory.read_write_same _ _ _ h]
    rw [List.length_cons, Memory.reads, Memory.writes, first, ih _ _ (Memory.wf_write m a b h)]

/-- An erased range reads the default, and every byte outside it is as it was. -/
theorem Memory.read_erase (m : List Host.Cell) (a n x : Nat) :
    Memory.read (Memory.erase m a n) x = if a ≤ x ∧ x < a + n then memDefault else Memory.read m x := by
  have erased := getKey_filter (fun k => !(decide (a ≤ k) && decide (k < a + n))) x memDefault m
  rw [Memory.read, Memory.erase, erased, Memory.read]
  grind

/-- Settles O6, from the rules of single writes and of the list form. -/
theorem memoryHolds : Obligations.MemoryHolds := by
  intro m a n bs formed
  exact ⟨Memory.wf_writes bs m a formed, Memory.reads_writes bs m a formed, fun x hx => Memory.read_writes_outside bs m a x hx, Memory.wf_erase m a n formed,
    fun x => Memory.read_erase m a n x⟩

/-- A write that meets no word in error stores its bytes and no more. -/
theorem State.writeMem_clean {s : State} {a : Nat} {bs : List Byte} (h : s.ueIn a bs.length = []) :
    s.writeMem a bs = { s with mem := Memory.writes s.mem a bs } := by
  simp [State.writeMem, h]

/-- Settles O7: such a write is the plain write of its bytes, and O6's rules of memory apply. -/
theorem writeStores : Obligations.WriteStores := by
  intro s a bs formed clean
  rw [State.writeMem_clean clean]
  exact ⟨Memory.reads_writes bs s.mem a formed, fun x hx => Memory.read_writes_outside bs s.mem a x hx, rfl, rfl⟩

/-! ## Fan-out (R39, R40) -/

/-- Whether a fan-out skips a leaf: a member reached through a frame that is ABSENT or DISABLED (R40). -/
def State.skips (s : State) (x : List Nat × Leaf × Option Bool) : Bool :=
  x.2.2 == some true && (s.unitState x.2.1 == stAbsent || s.unitState x.2.1 == stDisabled)

theorem State.reached_eq (s : State) (c : Ctx) : s.reached c = ((s.leavesUnder c.target c.lv).filter fun x => !s.skips x).map (·.2.1) := rfl

/-- What one more leaf makes of a fan-out that nothing refuses: the leaf is skipped and counted, or it fits the opcode and joins those reached. -/
theorem OpSpec.fanStep_accepts {o : OpSpec} {s : State} {c : Ctx} {k : Leaf → Bool} {f : Fan} {x : List Nat × Leaf × Option Bool}
    (h : (o.fanStep s c k false f x).reject = none) :
    f.reject = none ∧
      (s.skips x = true ∧ o.fanStep s c k false f x = { f with skipped := f.skipped + 1 }
        ∨ s.skips x = false ∧ k x.2.1 = true ∧ o.leafOk s c x.2.1 = none ∧ o.fanStep s c k false f x = { f with leaves := f.leaves ++ [(x.1, x.2.1)] }) := by
  simp only [OpSpec.fanStep, Bool.not_false, Bool.true_and] at h ⊢
  split_ifs at h ⊢ with rejected skipped away kind
  · simp [h] at rejected
  · exact ⟨h, .inl ⟨skipped, rfl⟩⟩
  · cases ok : o.leafOk s c x.2.1 with
    | some r => simp [ok] at h
    | none =>
      simp only [ok] at h
      exact ⟨h, .inr ⟨Bool.eq_false_iff.mpr skipped, Bool.eq_true_of_not_eq_false kind, rfl, rfl⟩⟩

/-- Leaves joined one after another to a fan-out that nothing refuses. -/
theorem OpSpec.foldl_fanStep_accepts {o : OpSpec} {s : State} {c : Ctx} {k : Leaf → Bool} (l : List (List Nat × Leaf × Option Bool)) (f : Fan)
    (h : (l.foldl (fun f x => o.fanStep s c k false f x) f).reject = none) :
    let g := l.foldl (fun f x => o.fanStep s c k false f x) f
    let met := (l.filter fun x => !s.skips x).map (·.2.1)
    f.reject = none ∧ g.leaves.map (·.2) = f.leaves.map (·.2) ++ met ∧ g.skipped + met.length = f.skipped + l.length
      ∧ ∀ u ∈ met, k u = true ∧ o.leafOk s c u = none := by
  induction l generalizing f with
  | nil => simpa using h
  | cons x l ih =>
    obtain ⟨accepted, leaves, count, fits⟩ := ih _ h
    obtain ⟨before, ⟨skipped, step⟩ | ⟨kept, kind, ok, step⟩⟩ := OpSpec.fanStep_accepts accepted
    · simp only [List.foldl_cons, step] at leaves count ⊢
      simp only [List.filter_cons, skipped, Bool.not_true, Bool.false_eq_true, if_false, List.length_cons]
      exact ⟨before, leaves, by omega, fits⟩
    · simp only [List.foldl_cons, step] at leaves count ⊢
      simp only [List.filter_cons, kept, Bool.not_false, if_true, List.map_cons, List.length_cons, List.forall_mem_cons]
      refine ⟨before, by simp [leaves], by omega, ⟨kind, ok⟩, fits⟩

/-- A fan-out that nothing refuses is its leaves joined in member order. -/
theorem OpSpec.fan_accepts {o : OpSpec} {s : State} {c : Ctx} {k : Leaf → Bool} {every : Bool} (h : (o.fan s c k every).reject = none) :
    o.fan s c k every = (s.leavesUnder c.target c.lv).foldl (fun f x => o.fanStep s c k every f x) ⟨none, [], 0⟩ := by
  simp only [OpSpec.fan] at h ⊢
  split_ifs at h ⊢ with many
  rfl

/-- Settles O21, by induction on the leaves under the path. -/
theorem fanOutReaches : Obligations.FanOutReaches := by
  intro o s c k accepted
  have joined := OpSpec.fan_accepts accepted
  rw [joined] at accepted ⊢
  obtain ⟨-, leaves, count, fits⟩ := OpSpec.foldl_fanStep_accepts _ _ accepted
  simp only [List.map_nil, List.nil_append, Nat.zero_add] at leaves count
  rw [State.reached_eq]
  exact ⟨leaves, count, fits⟩

end Sys2Proof.Machine

namespace Sys2Proof.Machine

open Sys2Proof

/-! ## The stable sort by a key -/

section SortBy

variable {α : Type} (f : α → Nat)

theorem insertBy_perm (x : α) (l : List α) : (insertBy f x l).Perm (x :: l) := by
  induction l with
  | nil => exact .refl _
  | cons y l ih =>
    unfold insertBy
    split
    · exact .refl _
    · exact (ih.cons y).trans (.swap x y l)

theorem insertBy_pairwise (x : α) {l : List α} (h : l.Pairwise fun a b => f a ≤ f b) : (insertBy f x l).Pairwise fun a b => f a ≤ f b := by
  induction l with
  | nil => exact List.pairwise_singleton _ x
  | cons y l ih =>
    obtain ⟨least, rest⟩ := List.pairwise_cons.mp h
    unfold insertBy
    split
    next before => exact List.pairwise_cons.mpr ⟨List.forall_mem_cons.mpr ⟨before.le, fun c hc => before.le.trans (least c hc)⟩, h⟩
    next after =>
      refine List.pairwise_cons.mpr ⟨fun c hc => ?_, ih rest⟩
      obtain rfl | hl := List.mem_cons.mp ((insertBy_perm f x l).mem_iff.mp hc)
      · exact Nat.le_of_not_lt after
      · exact least c hl

/-- An element comes behind those of its key. -/
theorem filter_insertBy (x : α) (d : Nat) {l : List α} (h : l.Pairwise fun a b => f a ≤ f b) :
    ((insertBy f x l).filter fun a => f a == d) = (l ++ [x]).filter fun a => f a == d := by
  induction l with
  | nil => rfl
  | cons y l ih =>
    obtain ⟨least, rest⟩ := List.pairwise_cons.mp h
    unfold insertBy
    split
    next before =>
      by_cases key : f x = d
      · have greater : ∀ c ∈ y :: l, f c ≠ d := List.forall_mem_cons.mpr ⟨by omega, fun c hc => by have := least c hc; omega⟩
        have others : ((y :: l).filter fun a => f a == d) = [] := List.filter_eq_nil_iff.mpr fun c hc => by simpa using greater c hc
        rw [List.filter_append, others, List.filter_cons, others]
        simp [key]
      · rw [List.filter_append, List.filter_cons]
        simp [key]
    next => rw [List.cons_append, List.filter_cons, List.filter_cons, ih rest]

/-- What a sort keeps: its elements, their order by key, and the order of those of one key. -/
theorem foldl_insertBy (l acc : List α) (h : acc.Pairwise fun a b => f a ≤ f b) :
    let r := l.foldl (fun a x => insertBy f x a) acc
    r.Perm (acc ++ l) ∧ (r.Pairwise fun a b => f a ≤ f b) ∧ ∀ d, (r.filter fun a => f a == d) = (acc ++ l).filter fun a => f a == d := by
  induction l generalizing acc with
  | nil => simpa using h
  | cons x l ih =>
    obtain ⟨perm, sorted, stable⟩ := ih _ (insertBy_pairwise f x h)
    refine ⟨perm.trans ?_, sorted, fun d => (stable d).trans ?_⟩
    · exact ((insertBy_perm f x acc).append_right l).trans List.perm_middle.symm
    · rw [List.filter_append, filter_insertBy f x d h, ← List.filter_append, List.append_assoc, List.singleton_append]

theorem sortBy_perm (l : List α) : (sortBy f l).Perm l := (foldl_insertBy f l [] .nil).1

theorem sortBy_pairwise (l : List α) : (sortBy f l).Pairwise fun a b => f a ≤ f b := (foldl_insertBy f l [] .nil).2.1

theorem filter_sortBy (l : List α) (d : Nat) : ((sortBy f l).filter fun a => f a == d) = l.filter fun a => f a == d := (foldl_insertBy f l [] .nil).2.2 d

theorem mem_of_filters {l m : List α} (h : ∀ d, (l.filter fun a => f a == d) = m.filter fun a => f a == d) {x : α} (hx : x ∈ l) : x ∈ m := by
  have here : x ∈ l.filter fun a => f a == f x := List.mem_filter.mpr ⟨hx, beq_self_eq_true _⟩
  rw [h] at here
  exact (List.mem_filter.mp here).1

/-- Two lists that rise by a key and agree on the elements of each key are the same list. -/
theorem eq_of_sorted_of_filters {l m : List α} (hl : l.Pairwise fun a b => f a ≤ f b) (hm : m.Pairwise fun a b => f a ≤ f b)
    (h : ∀ d, (l.filter fun a => f a == d) = m.filter fun a => f a == d) : l = m := by
  induction l generalizing m with
  | nil => exact (List.eq_nil_iff_forall_not_mem.mpr fun x hx => absurd (mem_of_filters f (fun d => (h d).symm) hx) List.not_mem_nil).symm
  | cons a l ih =>
    cases m with
    | nil => exact absurd (mem_of_filters f h List.mem_cons_self) List.not_mem_nil
    | cons b m =>
      obtain ⟨leastA, restA⟩ := List.pairwise_cons.mp hl
      obtain ⟨leastB, restB⟩ := List.pairwise_cons.mp hm
      have le : f b ≤ f a := (List.mem_cons.mp (mem_of_filters f h List.mem_cons_self)).elim (fun e => e ▸ le_rfl) (leastB a)
      have ge : f a ≤ f b := (List.mem_cons.mp (mem_of_filters f (fun d => (h d).symm) List.mem_cons_self)).elim (fun e => e ▸ le_rfl) (leastA b)
      have heads := h (f a)
      simp only [List.filter_cons, le_antisymm le ge, beq_self_eq_true, if_true, List.cons.injEq] at heads
      obtain ⟨rfl, -⟩ := heads
      refine congrArg (a :: ·) (ih restA restB fun d => ?_)
      have same := h d
      simp only [List.filter_cons] at same
      grind

/-- The rest of a sorted list, once its first element has been taken off, is what is left, sorted. -/
theorem sortBy_erase [DecidableEq α] {l r : List α} {e : α} (h : sortBy f l = e :: r) : sortBy f (l.erase e) = r := by
  have sorted := sortBy_pairwise f l
  rw [h] at sorted
  refine eq_of_sorted_of_filters f (sortBy_pairwise f _) (List.pairwise_cons.mp sorted).2 fun d => ?_
  have stable := filter_sortBy f l d
  rw [filter_sortBy, ← List.erase_filter, ← stable, h, List.erase_filter, List.erase_cons_head]

end SortBy

end Sys2Proof.Machine

namespace Sys2Proof.Machine

open Sys2Proof

/-! ## Packets that end in OK -/

/-- An opcode whose execution is `f` where `cond` holds, answers OK and does nothing after its reply. -/
theorem givesIf_done {o : OpSpec} {op : Nat} {i : Nat → Packet → Instr} {cond : State → Ctx → Prop} {f : State → Ctx → Res}
    (he : ∀ t p s, exec (i t p) s = .next (s.packet t (some o) op p)) (hx : ∀ u c, cond u c → o.effect u c = f u c)
    (done : ∀ u c, (f u c).status.done = true := by intros; rfl) (after : ∀ u c, o.after u c = u := by intros; rfl) : GivesIf o op i cond f :=
  givesIf he hx fun _ _ _ u c => (finish_done (done u c)).trans (after _ c)

theorem gives_done {o : OpSpec} {op : Nat} {i : Nat → Packet → Instr} {f : State → Ctx → Res}
    (he : ∀ t p s, exec (i t p) s = .next (s.packet t (some o) op p)) (hx : ∀ u c, o.effect u c = f u c)
    (done : ∀ u c, (f u c).status.done = true := by intros; rfl) (after : ∀ u c, o.after u c = u := by intros; rfl) : Gives o op i f :=
  givesIf_done he (fun u c _ => hx u c) done after

/-- An opcode whose execution is `f` and answers OK, and which does `g` after its reply. -/
theorem givesThen_done {o : OpSpec} {op : Nat} {i : Nat → Packet → Instr} {f : State → Ctx → Res} {g : State → Ctx → State}
    (he : ∀ t p s, exec (i t p) s = .next (s.packet t (some o) op p)) (hx : ∀ u c, o.effect u c = f u c)
    (after : ∀ u c, o.after u c = g u c) (done : ∀ u c, (f u c).status.done = true := by intros; rfl) : GivesThen o op i f g :=
  givesThen he hx fun _ _ _ u c => (finish_done (done u c)).trans (after _ c)

/-! ## Events and their guards -/

/-- An event of the HUB does `f` where its effect is `f`. -/
theorem doesUp {i : Nat → Instr} {cond : State → Prop} {f g : State → State} (he : ∀ t s, exec (i t) s = .next (s.act t g)) (hg : ∀ u, cond u → g u = f u) :
    Does i isUp cond f :=
  doesOf (fun t s h => (he t s).trans (congrArg _ (upE h))) hg

theorem alwaysUp {i : Nat → Instr} {f g : State → State} (he : ∀ t s, exec (i t) s = .next (s.act t g)) (hg : ∀ u, g u = f u) : Always i isUp f :=
  alwaysOf (fun t s h => (he t s).trans (congrArg _ (upE h))) hg

/-- An event of the chain or of memory does `f` where its effect is `f`. -/
theorem alwaysAwake {i : Nat → Instr} {f g : State → State} (he : ∀ t s, exec (i t) s = .next (s.chainAct t g)) (hg : ∀ u, g u = f u) : Always i isAwake f :=
  alwaysOf (fun t s h => (he t s).trans (congrArg _ (awE h))) hg

/-- An event of the supervisor that a module without power does not have. -/
theorem watches {i : Nat → Instr} {cond : State → Prop} {f g : State → State} (he : ∀ t s, exec (i t) s = .next (s.watch t g)) (hg : ∀ u, cond u → g u = f u) :
    Watches i cond f :=
  watchesOf (fun t s _ => he t s) hg

/-- An event with a meaning of its own for the module without power. -/
theorem watchesOn {i : Nat → Instr} {cond : State → Prop} {f g off : State → State}
    (he : ∀ t s, exec (i t) s = .next (if s.power.power = .on then s.watch t g else s.unpowered off)) (hg : ∀ u, cond u → g u = f u) : Watches i cond f :=
  watchesOf (fun t s on => (he t s).trans (congrArg _ (if_pos on))) hg

theorem doesUnpowered {i : Nat → Instr} {f on : State → State} {guard : State → Nat → (State → State) → State}
    (he : ∀ t s, exec (i t) s = .next (if s.power.power = .on then guard s t on else s.unpowered f)) : DoesOff i (fun _ => True) f :=
  doesOffOf (fun t s off => (he t s).trans (congrArg _ (if_neg off))) (fun _ _ => rfl) fun _ h => h

end Sys2Proof.Machine

namespace Sys2Proof.Machine

open Sys2Proof

/-! ## Group 0x00: reads (R43, R97, R98) -/

theorem opStatusGet_leaf {s : State} {c : Ctx} {l : Leaf} (h : c.target = .leaf l) :
    opStatusGet.effect s c = { st := s, body := leBytes 4 (regView s (statusReg l)).toNat } := by
  simp only [OpSpec.effect, opStatusGet, readOp, h]

theorem opStatusGet_frame {s : State} {c : Ctx} (h : ∀ l, c.target ≠ .leaf l) :
    opStatusGet.effect s c = { st := s, body := s.aggregate c.target c.lv } := by
  simp only [OpSpec.effect, opStatusGet, readOp]

/-- Settles O23: each of the four opcodes executes its `run`, which reads alone. -/
theorem deviceReads : Obligations.DeviceReads := by
  refine ⟨?ping, ?info, fun l => ?leaf, ?frame, ?list⟩
  case ping => exact gives_done (fun _ _ _ => rfl) (fun _ _ => rfl)
  case info => exact gives_done (fun _ _ _ => rfl) (fun _ _ => rfl)
  case leaf => exact givesIf_done (fun _ _ _ => rfl) (fun _ _ h => opStatusGet_leaf h)
  case frame => exact givesIf_done (fun _ _ _ => rfl) (fun _ _ h => opStatusGet_frame h)
  case list => exact gives_done (fun _ _ _ => rfl) (fun _ _ => rfl)

/-! ## Group 0x00: modes, latches and resets (R42, R49, R51, R54, R59, R61, R69) -/

theorem opModeSet_effect {s : State} {c : Ctx} {m : Mode} (h : modeArg c = some m) : opModeSet.effect s c = c.done (s.makeMove m).driveClock := by
  simp only [OpSpec.effect, opModeSet, h]

theorem State.makeMove_direct {s : State} {m : Mode} (hold : m ≠ .hold) (pause : m ≠ .pause) : s.makeMove m = s.enterMode m 0 := by
  unfold State.makeMove
  split
  next => exact absurd rfl pause
  next => exact absurd rfl hold
  next => rfl

theorem State.makeMove_pause (s : State) : s.makeMove .pause = if s.mode.mode = .expose then s.beginPause else s.enterMode .pause 0 := rfl

theorem opReset_after (s : State) (c : Ctx) : opReset.after s c = (s.resetState 0x10 false).loadTime.startUp false := by
  simp only [opReset, State.deviceReset]

theorem opShutdown_after (s : State) (c : Ctx) :
    opShutdown.after s c = s.shutdown (if leAt c.params 0 4 = 1 then some (timeAt c.params 4) else none) := by
  simp only [opShutdown]

/-- Settles O25: each clause is its opcode's `run`; MODE_SET's move depends on the mode asked for and, for PAUSE, on the mode left. -/
theorem modeCommands : Obligations.ModeCommands := by
  refine ⟨fun m => ?direct, ?toHold, ?fromExpose, ?toPause, ?hold, ?safe, ?latch, ?ack, ?reset, ?shutdown⟩
  case direct =>
    refine givesIf_done (fun _ _ _ => rfl) (fun u c h => ?_)
    obtain ⟨arg, hold, pause⟩ := h
    rw [opModeSet_effect arg, State.makeMove_direct hold pause]
  case toHold => exact givesIf_done (fun _ _ _ => rfl) (fun _ _ arg => opModeSet_effect arg)
  case fromExpose =>
    refine givesIf_done (fun _ _ _ => rfl) (fun u c h => ?_)
    rw [opModeSet_effect h.1, State.makeMove_pause, if_pos h.2]
  case toPause =>
    refine givesIf_done (fun _ _ _ => rfl) (fun u c h => ?_)
    rw [opModeSet_effect h.1, State.makeMove_pause, if_neg h.2]
  case hold => exact gives_done (fun _ _ _ => rfl) (fun _ _ => rfl)
  case safe => exact gives_done (fun _ _ _ => rfl) (fun _ _ => rfl)
  case latch => exact gives_done (fun _ _ _ => rfl) (fun _ _ => rfl)
  case ack => exact gives_done (fun _ _ _ => rfl) (fun _ _ => rfl)
  case reset => exact givesThen_done (fun _ _ _ => rfl) (fun _ _ => rfl) opReset_after
  case shutdown => exact givesThen_done (fun _ _ _ => rfl) (fun _ _ => rfl) opShutdown_after

/-! ## Group 0x0F: custom frames (R37, R38, R110) -/

theorem Ctx.frameId_frame {c : Ctx} {f : Nat} (h : c.target = .frame f) : c.frameId = some f := by
  simp only [Ctx.frameId, h]

theorem opFrameCreate_effect {s : State} {c : Ctx} {place : Option Nat × Nat} (h : s.newPlace c.lv = some place) :
    opFrameCreate.effect s c = c.done (s.withFrame place (BitVec.ofNat 8 (byteAt c.params 0)) (s.membersIn c.params)) := by
  simp only [OpSpec.effect, opFrameCreate, h]

theorem opFrameDelete_effect {s : State} {c : Ctx} {f : Nat} (h : c.target = .frame f) : opFrameDelete.effect s c = c.done (s.dropFrameOf f) := by
  simp only [OpSpec.effect, opFrameDelete, Ctx.frameId_frame h, Option.getD_some]

theorem opFrameAdd_effect {s : State} {c : Ctx} {f : Nat} (h : c.target = .frame f) :
    opFrameAdd.effect s c = c.done (s.onFrame f fun x => { x with members := sortBy (fun m => m.1) (addMembers x.members (s.membersIn c.params)) }) := by
  simp only [OpSpec.effect, opFrameAdd, State.withMembers, Ctx.frameId_frame h, Option.getD_some]

theorem opFrameRemove_effect {s : State} {c : Ctx} {f : Nat} (h : c.target = .frame f) :
    opFrameRemove.effect s c
      = c.done (s.onFrame f fun x => { x with members := x.members.filter fun m => !(s.membersIn c.params).contains m.2 }).pruneFrames := by
  simp only [OpSpec.effect, opFrameRemove, State.dropMembers, Ctx.frameId_frame h, Option.getD_some]

theorem opFrameAttr_effect {s : State} {c : Ctx} {f : Nat} (h : c.target = .frame f) :
    opFrameAttr.effect s c = c.done (s.onFrame f fun x => { x with attrs := BitVec.ofNat 8 (byteAt c.params 0) }) := by
  simp only [OpSpec.effect, opFrameAttr, Ctx.frameId_frame h, Option.getD_some]

/-- Settles O42: with the path's target known, each clause is its opcode's `run`. -/
theorem frameCommands : Obligations.FrameCommands := by
  refine ⟨fun place => ?create, fun f => ?delete, fun f => ?add, fun f => ?remove, ?list, fun f => ?attr⟩
  case create => exact givesIf_done (fun _ _ _ => rfl) (fun _ _ h => opFrameCreate_effect h)
  case delete => exact givesIf_done (fun _ _ _ => rfl) (fun _ _ h => opFrameDelete_effect h)
  case add => exact givesIf_done (fun _ _ _ => rfl) (fun _ _ h => opFrameAdd_effect h)
  case remove => exact givesIf_done (fun _ _ _ => rfl) (fun _ _ h => opFrameRemove_effect h)
  case list => exact gives_done (fun _ _ _ => rfl) (fun _ _ => rfl)
  case attr => exact givesIf_done (fun _ _ _ => rfl) (fun _ _ h => opFrameAttr_effect h)

end Sys2Proof.Machine

namespace Sys2Proof.Machine

open Sys2Proof

/-! ## Single register accesses -/

/-- A unit that is no motor port is acknowledged in its UNIT_STATUS alone (R42). -/
theorem State.ackAny_unit (s : State) {u : Leaf} (h : ∀ p, u ≠ .motor p) : s.ackAny u = (s.setB (statusReg u) 4 false).settle u := by
  cases u
  case motor p => exact absurd rfl (h p)
  all_goals rfl

theorem State.eventWrite_made {s : State} {secure : Bool} {w : RegWr} (world : s.writesDenied secure [w] = false) (mode : s.writesMode [w] = false)
    (bad : s.writesBad [w] = none) (busy : s.writesBusy [w] = false) :
    s.eventWrite secure w = (s.doWrites [w]).1.eventAudit secure (s.doWrites [w]).2 := by
  simp [State.eventWrite, world, mode, bad, busy]

theorem State.eventWrite_denied {s : State} {secure : Bool} {w : RegWr} (world : s.writesDenied secure [w] = true) :
    s.eventWrite secure w = s.eventDenied w.addr := by
  simp [State.eventWrite, world]

theorem State.eventWrite_refused {s : State} {secure : Bool} {w : RegWr} (world : s.writesDenied secure [w] = false)
    (later : s.writesMode [w] = true ∨ (s.writesBad [w]).isSome = true ∨ s.writesBusy [w] = true) : s.eventWrite secure w = s := by
  simp [State.eventWrite, world, later, or_assoc]

/-- Settles O48: three single writes share `eventWrite`, whose outcome the checks of R84 decide; the other accesses have one effect each. -/
theorem registerEvents : Obligations.RegisterEvents := by
  unfold Obligations.RegisterEvents
  intro audited acked writes refused
  have made {i : Nat → Instr} {secure : Bool} {w : RegWr} (he : ∀ t s, exec (i t) s = .next (s.act t fun u => u.eventWrite secure w)) : writes i secure w :=
    ⟨doesUp he fun _ ⟨world, mode, bad, busy⟩ => State.eventWrite_made world mode bad busy, doesUp he fun _ world => State.eventWrite_denied world⟩
  have unmade {i : Nat → Instr} {secure : Bool} {w : RegWr} (he : ∀ t s, exec (i t) s = .next (s.act t fun u => u.eventWrite secure w)) : refused i secure w :=
    doesUp he fun _ ⟨world, later⟩ => State.eventWrite_refused world later
  refine ⟨fun p => ?motor, fun u other => ?unit, ?cause, ?vinMin, ?era, fun b secure enable => ?enable, fun b secure profile => ?arm, fun secure a v window => ?window⟩
  case motor => exact alwaysUp (fun _ _ => rfl) fun _ => rfl
  case unit =>
    refine alwaysUp (g := fun s => s.ackWrite u) (fun _ _ => rfl) fun s => ?_
    rw [State.ackWrite, State.ackAny_unit s other]
    rfl
  case cause => exact alwaysUp (fun _ _ => rfl) fun _ => rfl
  case vinMin => exact alwaysUp (fun _ _ => rfl) fun _ => rfl
  case era => exact alwaysUp (fun _ _ => rfl) fun _ => rfl
  case enable => exact ⟨made fun _ _ => rfl, unmade fun _ _ => rfl⟩
  case arm => exact made fun _ _ => rfl
  case window =>
    have meaning : (fun u : State => u.windowWrite secure a v) = fun u => u.eventWrite secure ⟨a, v, allBits, 0, 0⟩ := funext fun _ => if_pos window
    have he (t : Nat) (s : State) : exec (.grainWindowWrite t secure a v) s = .next (s.act t fun u => u.eventWrite secure ⟨a, v, allBits, 0, 0⟩) :=
      congrArg (fun g => Host.Outcome.next (s.act t g)) meaning
    exact ⟨made he, unmade he⟩

end Sys2Proof.Machine

namespace Sys2Proof.Machine

open Sys2Proof

/-! ## The LASER_EN inputs (R59, R60, R461) -/

/-- What the fall of a LASER_EN input does: both latches, the interlock snapshot, and HOLD. -/
def State.enDown (s : State) (chanB : Bool) : State := (((s.onSafety fun c => c.level chanB false s.now).setLatches 2).interlockSnap).holdCause 1

/-- The level of a LASER_EN input. -/
def State.enHigh (s : State) (chanB : Bool) : Bool := if chanB then s.safety.enB else s.safety.enA

theorem State.enFall_long {s : State} {chanB : Bool} {width : Nat} (high : s.enHigh chanB = true) (long : 100 ≤ width) : s.enFall chanB width = s.enDown chanB := by
  rw [State.enHigh] at high
  simp only [State.enFall, high, if_neg long.not_gt, Bool.true_eq_false, Nat.one_mod, one_ne_zero, or_self, if_false]
  rfl

theorem State.enFall_short {s : State} {chanB : Bool} {width : Nat} (high : s.enHigh chanB = true) (short : width < 100) (odd : Config.freeNat s.draws % 2 = 1) :
    s.enFall chanB width = State.enDown { s with draws := s.draws + 1 } chanB := by
  rw [State.enHigh] at high
  simp only [State.enFall, State.draw, high, if_pos short, odd, Bool.true_eq_false, one_ne_zero, or_self, if_false]
  rfl

theorem State.enFall_glitch {s : State} {chanB : Bool} {width : Nat} (short : width < 100) (even : Config.freeNat s.draws % 2 = 0) :
    s.enFall chanB width = { s with draws := s.draws + 1 } := by
  simp only [State.enFall, State.draw, if_pos short, even, or_true, if_true]

theorem State.discrepancy_since {s : State} {d : Nat} (h : s.safety.discSince = some d) :
    s.discrepancy = (((s.reach (d + 10 * milli)).onSafety fun c => { c with discSince := none, lockout := true, lockStage := .waitLow }).setLatches 3).interlockSnap.holdCause 2 := by
  simp only [State.discrepancy, h]
  rfl

/-! ## The supervisor's thresholds (R56, R62, R63, R75) -/

theorem State.vinWarning_again {s : State} {mv : Nat} (low : mv < 5600) (known : s.regB supplyStatus 0 = true) : s.vinWarning mv = s.vinSeen mv := by
  simp only [State.vinWarning, if_neg low.not_ge, known, if_true]

theorem State.vinWarning_first {s : State} {mv : Nat} (low : mv < 5600) (first : s.regB supplyStatus 0 = false) :
    s.vinWarning mv =
      let v := (((s.onPower fun p => { p with dipActive := true, dipMin := mv, dipStart := s.now }).vinSeen mv).setB supplyStatus 0 true).setB supplyStatus 1 true
      let w := (v.count dipCount).snapshot 2 rSnapSupply (v.regF supplyStatus 0 16)
      w.supplyAlert w.power.dipMin := by
  simp only [State.vinWarning, if_neg low.not_ge, first, Bool.false_eq_true, if_false]

theorem State.dipEnd_over {s : State} {mv : Nat} (dip : s.power.dipActive = true) (high : 5800 < mv) :
    s.dipEnd mv =
      let v := (s.vinSeen mv).setB supplyStatus 0 false
      let low := v.power.dipMin
      let w := v.note 0x0082 1 0x60 [] (leBytes 2 low ++ leBytes 1 (histBin (v.tally.rings.limits.getD 3 []) low) ++ leBytes 1 0 ++ leBytes 4 (v.now - v.power.dipStart))
      (w.ringHist 3 low).onPower fun p => { p with dipActive := false } := by
  simp only [State.dipEnd, dip, high, decide_true, Bool.and_self, if_true]

theorem State.vinHigh_crosses {s : State} {mv : Nat} (h : s.regB supplyStatus 2 ≠ decide (41000 < mv)) :
    s.vinHigh mv = (s.setB supplyStatus 2 (decide (41000 < mv))).supplyAlert (if s.power.dipActive then s.power.dipMin else mv) := by
  rw [State.vinHigh]
  exact if_neg h

theorem State.holdupCross_crosses {s : State} {mv : Nat} (h : s.regB supplyStatus 8 ≠ decide (mv < 4800)) :
    s.holdupCross mv = (s.setB supplyStatus 8 (decide (mv < 4800))).supplyAlert (s.setB supplyStatus 8 (decide (mv < 4800))).vinMin := by
  rw [State.holdupCross]
  exact if_neg h

theorem State.tempCross_crosses {s : State} {temp : BitVec 16} (h : s.regB supplyStatus 7 ≠ decide (25600 ≤ signed 16 temp.toNat)) :
    s.tempCross temp = (s.setB supplyStatus 7 (decide (25600 ≤ signed 16 temp.toNat))).supplyLevel := by
  rw [State.tempCross]
  exact if_neg h

theorem State.ref32Level_changes {s : State} {lost : Bool} (h : s.regB supplyStatus 9 = !lost) :
    s.ref32Level lost = ((s.onPower fun p => { p with ref32 := !lost }).setB supplyStatus 9 lost).supplyLevel := by
  have changed : s.regB supplyStatus 9 ≠ lost := by rw [h]; exact Bool.not_ne_self lost
  rw [State.ref32Level, if_neg changed]

/-- VMOT is back within its limits. -/
theorem State.vmotLevel_back {s : State} {mv : Nat} (was : s.regB supplyStatus 3 = true ∨ s.regB supplyStatus 4 = true) (above : s.regF 0x0B000014 0 16 ≤ mv)
    (below : mv ≤ s.regF 0x0B000014 16 16) :
    s.vmotLevel mv = ports8.foldl (fun st p => (st.onAxis p fun a => { a with faults := a.faults.filter (· != 0x27) }).settle (.motor p))
      (((s.setB supplyStatus 3 false).setB supplyStatus 4 false).supplyLevel) := by
  have changed : ¬ (s.regB supplyStatus 3 = false ∧ s.regB supplyStatus 4 = false) := by
    rintro ⟨uv, ov⟩
    simp [uv, ov] at was
  simp only [State.vmotLevel, decide_eq_false above.not_gt, decide_eq_false below.not_gt, if_neg changed, Bool.or_self, if_true]

/-- A voltage out of its limits is below one or above the other. -/
theorem outside_limits {x lo hi : Nat} (out : x < lo ∨ hi < x) :
    ¬ (false = decide (x < lo) ∧ false = decide (hi < x)) ∧ ¬ (decide (x < lo) || decide (hi < x)) = false := by
  obtain low | high := out
  · simp [low]
  · simp [high]

/-- VMOT leaves its limits. -/
theorem State.vmotLevel_fault {s : State} {mv : Nat} (uv : s.regB supplyStatus 3 = false) (ov : s.regB supplyStatus 4 = false)
    (out : mv < s.regF 0x0B000014 0 16 ∨ s.regF 0x0B000014 16 16 < mv) :
    s.vmotLevel mv =
      let v := ((s.setB supplyStatus 3 (decide (mv < s.regF 0x0B000014 0 16))).setB supplyStatus 4 (decide (s.regF 0x0B000014 16 16 < mv))).supplyLevel
      let w := ports8.foldl (fun st p =>
        if st.mpKind p = 0 then st
        else
          let x := (st.onAxis p fun a => { a with faults := a.faults ++ [0x27] }).unitFault (.motor p) stFault 0x27
          x.raise 0x0B02 2 0x27 [1, p] (leBytes 1 0x27 ++ leBytes 3 0 ++ x.mpPos p)) v
      if v.anyMoving = true then (w.setBridge 6).holdCause 6 else w.setBridge 6 := by
  obtain ⟨changed, faulty⟩ := outside_limits out
  simp only [State.vmotLevel, uv, ov, if_neg changed, if_neg faulty, Bool.or_self, Bool.false_eq_true, if_false]

/-- VLED leaves its limits. -/
theorem State.vledLevel_fault {s : State} {mv : Nat} (uv : s.regB supplyStatus 5 = false) (ov : s.regB supplyStatus 6 = false)
    (out : mv < s.regF 0x0B000018 0 16 ∨ s.regF 0x0B000018 16 16 < mv) :
    s.vledLevel mv = (List.finRange 16).foldl (fun st c =>
      if st.regB (0x07800004 + 0x100 * c.val) 0 = true then (st.onLed c fun l => { l with faults := l.faults ++ [0x34] }).unitFault (.led c) stFault 0x34 else st)
      (((s.setB supplyStatus 5 (decide (mv < s.regF 0x0B000018 0 16))).setB supplyStatus 6 (decide (s.regF 0x0B000018 16 16 < mv))).supplyLevel) := by
  obtain ⟨changed, faulty⟩ := outside_limits out
  simp only [State.vledLevel, uv, ov, if_neg changed, if_neg faulty, Bool.or_self, Bool.false_eq_true, if_false]
  rfl

/-! ## The gate monitor and the memory checks (R30, R469, R527) -/

theorem State.gateMismatch_seen {s : State} {b : Fin 48} {commanded : Bool} {duration : Nat} (long : 20 ≤ duration)
    (armed : s.mode.mode.beamOn = true ∨ s.safety.laserLatch = true) :
    s.gateMismatch b commanded duration
      = (s.snapshot 3 rSnapGate b.val).raise 0x0D02 2 0 [0, b.val] (leBytes 1 b.val ++ leBytes 1 (bit commanded) ++ leBytes 2 0 ++ leBytes 4 duration) := by
  rw [State.gateMismatch]
  exact if_neg (by simpa [long.not_gt, or_iff_not_imp_left] using armed)

theorem State.memCe_region {a r : Nat} (h : memRegion a = some r) (s : State) : s.memCe a = s.note 0x0080 0 0x61 [] (leBytes 1 r ++ leBytes 3 0) := by
  simp only [State.memCe, h]

theorem State.memUe_region {a r : Nat} (h : memRegion a = some r) (s : State) :
    s.memUe a = (({ s with ue := if s.ue.contains (eccWord a) then s.ue else s.ue ++ [eccWord a] } : State).note 0x0081 1 0 []
      (leBytes 1 r ++ leBytes 3 0 ++ leBytes 8 a)).ueAction r a := by
  simp only [State.memUe, h]

/-- Settles O45: each clause is one case of the event's meaning. -/
theorem supervisorEvents : Obligations.SupervisorEvents := by
  unfold Obligations.SupervisorEvents
  refine ⟨?laserEn, ?thresholds, ?monitors⟩
  case laserEn =>
    intro falls high
    refine ⟨fun chanB width => ?long, fun chanB width => ?short, fun chanB width => ?glitch, fun chanB width => ?fallOff, fun chanB => ?rise, fun chanB => ?riseOff,
      fun d => ?discrepancy⟩
    case long => exact watchesOn (fun _ _ => rfl) fun _ ⟨was, long⟩ => State.enFall_long was long
    case short => exact watchesOn (fun _ _ => rfl) fun _ ⟨was, short, odd⟩ => State.enFall_short was short odd
    case glitch => exact watchesOn (fun _ _ => rfl) fun _ ⟨short, even⟩ => State.enFall_glitch short even
    case fallOff => exact doesUnpowered fun _ _ => rfl
    case rise => exact watchesOn (fun _ _ => rfl) fun _ _ => rfl
    case riseOff => exact doesUnpowered fun _ _ => rfl
    case discrepancy => exact watches (fun _ _ => rfl) fun _ since => State.discrepancy_since since
  case thresholds =>
    refine ⟨fun mv => ?first, fun mv => ?again, fun mv => ?dip, fun mv => ?high, fun mv => ?holdup, fun temp => ?temp, ?loss, ?back, fun mv => ?vmotBack, fun mv => ?vmot,
      fun mv => ?vled⟩
    case first => exact watches (fun _ _ => rfl) fun _ ⟨low, first⟩ => State.vinWarning_first low first
    case again => exact watches (fun _ _ => rfl) fun _ ⟨low, known⟩ => State.vinWarning_again low known
    case dip => exact watches (fun _ _ => rfl) fun _ ⟨dip, high⟩ => State.dipEnd_over dip high
    case high => exact watches (fun _ _ => rfl) fun _ h => State.vinHigh_crosses h
    case holdup => exact watches (fun _ _ => rfl) fun _ h => State.holdupCross_crosses h
    case temp => exact watches (fun _ _ => rfl) fun _ h => State.tempCross_crosses h
    case loss => exact watches (fun _ _ => rfl) fun _ h => State.ref32Level_changes h
    case back => exact watches (fun _ _ => rfl) fun _ h => State.ref32Level_changes h
    case vmotBack => exact watches (fun _ _ => rfl) fun _ ⟨was, above, below⟩ => State.vmotLevel_back was above below
    case vmot => exact watches (fun _ _ => rfl) fun _ ⟨uv, ov, out⟩ => State.vmotLevel_fault uv ov out
    case vled => exact watches (fun _ _ => rfl) fun _ ⟨uv, ov, out⟩ => State.vledLevel_fault uv ov out
  case monitors =>
    refine ⟨fun b commanded duration => ?gate, fun a r region => ?ce, fun a r region => ?ue⟩
    case gate => exact doesUp (fun _ _ => rfl) fun _ ⟨long, armed⟩ => State.gateMismatch_seen long armed
    case ce => exact alwaysAwake (fun _ _ => rfl) (State.memCe_region region)
    case ue => exact alwaysAwake (fun _ _ => rfl) (State.memUe_region region)

end Sys2Proof.Machine

namespace Sys2Proof.Machine

open Sys2Proof

/-! ## SPI and discarded packets (R78, R84, R377) -/

@[simp] theorem length_leBytes (n v : Nat) : (leBytes n v).length = n := by
  induction n generalizing v with
  | zero => rfl
  | succ n ih => rw [leBytes, List.length_cons, ih]

theorem State.spiWrite_packet {s : State} {bs : List Byte} {op : Nat} {p : Packet} (formed : parsePacket .spi ⟨0, 0, 0⟩ bs = some (op, p))
    (enabled : s.regB 0x3000 16 = true) : s.spiWrite bs = s.receive (opSpec op) op p := by
  simp only [State.spiWrite, State.takes, enabled, formed, Bool.true_eq_false, if_false]

theorem State.spiWrite_malformed {s : State} {bs : List Byte} (formed : parsePacket .spi ⟨0, 0, 0⟩ bs = none) (enabled : s.regB 0x3000 16 = true) :
    s.spiWrite bs = s.count rRxMalformed := by
  simp only [State.spiWrite, State.takes, enabled, formed, Bool.true_eq_false, if_false]

theorem State.spiRead_empty {s : State} (h : s.front.spiOut = []) (n : Nat) : s.spiRead n = s.emit (.spi ((leBytes 2 0).take n)) := by
  simp only [State.spiRead, h]

/-- A packet whose bytes have all been clocked leaves the queue. -/
theorem State.spiRead_whole {s : State} {b : List Byte} {r : List (List Byte)} {n : Nat} (h : s.front.spiOut = b :: r) (all : 2 + b.length ≤ n) :
    s.spiRead n = (s.emit (.spi (leBytes 2 b.length ++ b))).onFront fun f => { f with spiOut := r } := by
  have clocked : (leBytes 2 b.length ++ b).take n = leBytes 2 b.length ++ b := List.take_of_length_le (by simpa using all)
  simp only [State.spiRead, h, if_pos all, clocked]
  rfl

theorem State.spiRead_part {s : State} {b : List Byte} {r : List (List Byte)} {n : Nat} (h : s.front.spiOut = b :: r) (part : n < 2 + b.length) :
    s.spiRead n = s.emit (.spi ((leBytes 2 b.length ++ b).take n)) := by
  simp only [State.spiRead, h, if_neg part.not_ge]

theorem State.spiStatus_awake {s : State} (h : s.mode.mode ≠ .sill) :
    s.spiStatus = s.emit (.spi [BitVec.ofNat 8 ((if s.front.spiOut = [] then 0 else 1) + (if s.runs = true then 4 else 0))]) := by
  have pending : bit (!s.spiIrqN) = if s.front.spiOut = [] then 0 else 1 := by
    cases queue : s.front.spiOut <;> simp [State.spiIrqN, queue, bit]
  have ready : 4 * bit s.runs = if s.runs = true then 4 else 0 := by
    cases runs : s.runs <;> rfl
  rw [State.spiStatus, if_neg h, pending, ready]
  rfl

theorem State.discard_malformed {s : State} {port : Port} {bs : List Byte} {f : FrameFault} (sound : f ≠ .badMac) (takes : s.takes port = true)
    (fits : s.fits port bs.length = true) (host : port ≠ .rafter) (bad : (f = .badUdp ∧ port ≠ .spi) ∨ parsePacket port ⟨0, 0, 0⟩ bs = none) :
    s.discard port bs f = (s.frameAt port).count rRxMalformed := by
  have mac : (f == FrameFault.badMac) = false := beq_eq_false_iff_ne.mpr sound
  have other : (port != Port.rafter) = true := bne_iff_ne.mpr host
  have seen : ((f == .badUdp && port != .spi) || (parsePacket port ⟨0, 0, 0⟩ bs).isNone) = true := by
    simpa only [Bool.or_eq_true, Bool.and_eq_true, beq_iff_eq, bne_iff_ne, Option.isNone_iff_eq_none] using bad
  simp only [State.discard, mac, takes, fits, seen, other, Bool.not_true, Bool.or_self, Bool.and_false, Bool.and_self, Bool.false_eq_true, if_false, if_true]

theorem State.discard_lost {s : State} {port : Port} {bs : List Byte} {f : FrameFault} (takes : s.takes port = true)
    (lost : f = .badMac ∨ s.fits port bs.length = false) : s.discard port bs f = s.frameLost port := by
  have mac : (s.takes port && (f == .badMac || !s.fits port bs.length)) = true := by simpa [takes] using lost
  simp only [State.discard, mac, if_true]

/-! ## Time-outs (R88, R100, R108) -/

theorem State.sessionTimeout_open {s : State} {k : Fin 8} {se : Session} (h : s.front.sessions.find? (fun x => x.slot == k) = some se) :
    s.sessionTimeout k = (s.reach (se.lastAt + se.timeout * second)).closeSession se.id := by
  simp only [State.sessionTimeout, h]

theorem State.alertRetry_again {s : State} {k : Fin 8} {q : Word} {se : Session} {a : Alert} (session : s.front.sessions.find? (fun x => x.slot == k) = some se)
    (alert : se.alerts.find? (fun a => a.seq == q.toNat) = some a) (few : a.resent < 5) :
    s.alertRetry k q =
      let v := s.reach (a.sentAt + 200 * milli)
      let b : Alert := { a with resent := a.resent + 1, sentAt := v.now }
      (v.setSession { se with alerts := se.alerts.map fun x => if x.seq = a.seq then b else x }).sendAlert se b := by
  simp only [State.alertRetry, session, alert, if_pos few]

theorem State.alertRetry_drops {s : State} {k : Fin 8} {q : Word} {se : Session} {a : Alert} (session : s.front.sessions.find? (fun x => x.slot == k) = some se)
    (alert : se.alerts.find? (fun a => a.seq == q.toNat) = some a) (many : 5 ≤ a.resent) :
    s.alertRetry k q = (((s.reach (a.sentAt + 200 * milli)).setSession { se with alerts := se.alerts.filter fun x => x.seq != a.seq, lostNow := se.lostNow + 1 }).count
      rAlertsLost).alertLost k := by
  simp only [State.alertRetry, session, alert, if_neg many.not_gt]

theorem State.bulkTimeout_open {s : State} {id : Nat} {x : Transfer} (h : s.transfer id = some x) :
    s.bulkTimeout id
      = ((s.reach (x.lastAt + 10 * second)).onFront fun f => { f with transfers := f.transfers.erase x }).raise 0x0200 1 0 [] (leBytes 2 x.id ++ leBytes 2 1) := by
  simp only [State.bulkTimeout, h]
  rfl

/-! ## What runs next (R46, R94, R443) -/

/-- The LED commit of the chain whose time comes first. -/
def State.nextLed (s : State) : Option (Nat × Nat) := (sortBy (fun (c : Nat × Nat) => c.1) s.lights.commits).head?

/-- Whether a time is before that of what may come next. -/
def isBefore (o : Option Nat) (t : Nat) : Bool := match o with | some d => decide (t < d) | none => true

theorem isBefore_map {α : Type} (o : Option α) (f : α → Nat) (t : Nat) : isBefore (o.map f) t = true ↔ ∀ x, o = some x → t < f x := by
  cases o <;> simp [isBefore]

/-- Whether a move of the manager is before the earliest command and the first LED commit. -/
def State.moveFirst (s : State) (m : Nat × Nat) : Bool := isBefore (s.schedule.head?.map (·.due)) m.1 && isBefore (s.nextLed.map (·.1)) m.1

theorem State.moveFirst_iff (s : State) (m : Nat × Nat) :
    s.moveFirst m = true ↔ (∀ e, s.schedule.head? = some e → m.1 < e.due) ∧ ∀ c, s.nextLed = some c → m.1 < c.1 := by
  rw [State.moveFirst, Bool.and_eq_true, isBefore_map, isBefore_map]

/-- The move of the manager that runs next. -/
def State.firstMove (s : State) : Option (Nat × Nat) := (sortBy (fun (m : Nat × Nat) => m.1) s.front.moves).find? s.moveFirst

/-- What runs next when no move does: the earliest command, unless an LED commit is before it. -/
def State.runRest (s : State) : State :=
  match s.schedule.head?, s.nextLed with
  | some e, some c => if e.due ≤ c.1 then s.runSched opSpec e else s.runLed c
  | some e, none => s.runSched opSpec e
  | none, some c => s.runLed c
  | none, none => s

theorem State.runNext_of_firstMove {s : State} {m : Nat × Nat} (h : s.firstMove = some m) : s.runNext = s.runMove m := by
  unfold State.runNext
  simp only []
  split
  next m' h' =>
    obtain rfl : m' = m := Option.some.inj (h'.symm.trans h)
    rfl
  next none_first => exact absurd h (none_first m)

theorem State.runNext_of_no_move {s : State} (h : s.firstMove = none) : s.runNext = s.runRest := by
  unfold State.runNext
  simp only []
  split
  next m h' => exact absurd (h'.symm.trans h) (Option.some_ne_none m)
  next => rfl

theorem State.firstMove_none {s : State} (h : ∀ m ∈ s.front.moves, s.moveFirst m = false) : s.firstMove = none :=
  List.find?_eq_none.mpr fun m hm => by simp [h m ((sortBy_perm _ _).mem_iff.mp hm)]

theorem State.runNext_command {s : State} {e : Sched} (head : s.schedule.head? = some e) (lights : ∀ c, s.nextLed = some c → e.due ≤ c.1)
    (moves : ∀ m ∈ s.front.moves, e.due ≤ m.1) : s.runNext = s.runSched opSpec e := by
  have later : ∀ m ∈ s.front.moves, s.moveFirst m = false := fun m hm =>
    Bool.eq_false_iff.mpr fun first => (moves m hm).not_gt (((s.moveFirst_iff m).mp first).1 e head)
  rw [State.runNext_of_no_move (State.firstMove_none later), State.runRest, head]
  cases led : s.nextLed with
  | none => rfl
  | some c => exact if_pos (lights c led)

theorem State.runNext_led {s : State} {c : Nat × Nat} (led : s.nextLed = some c) (commands : ∀ e, s.schedule.head? = some e → c.1 < e.due)
    (moves : ∀ m ∈ s.front.moves, c.1 ≤ m.1) : s.runNext = s.runLed c := by
  have later : ∀ m ∈ s.front.moves, s.moveFirst m = false := fun m hm =>
    Bool.eq_false_iff.mpr fun first => (moves m hm).not_gt (((s.moveFirst_iff m).mp first).2 c led)
  rw [State.runNext_of_no_move (State.firstMove_none later), State.runRest, led]
  cases head : s.schedule.head? with
  | none => rfl
  | some e => exact if_neg (commands e head).not_ge

theorem State.runNext_move {s : State} {m : Nat × Nat} (move : (sortBy (fun (m : Nat × Nat) => m.1) s.front.moves).head? = some m)
    (commands : ∀ e, s.schedule.head? = some e → m.1 < e.due) (lights : ∀ c, s.nextLed = some c → m.1 < c.1) : s.runNext = s.runMove m := by
  obtain ⟨rest, sorted⟩ := List.head?_eq_some_iff.mp move
  refine State.runNext_of_firstMove ?_
  rw [State.firstMove, sorted, List.find?_cons_of_pos ((s.moveFirst_iff m).mpr ⟨commands, lights⟩)]

/-! ## A scheduled command that its mode refuses (R94) -/

/-- A command taken from the schedule, as its execution sees it before its path is resolved. -/
def State.schedCtx (s : State) (e : Sched) : Ctx :=
  { op := e.opcode, p := e.packet, secure := e.secure, client := e.client, se := s.session e.packet.session, target := .root, lv := [], due := none, later := true }

/-- A mode that does not take the command ends its execution at step 11. -/
theorem OpSpec.execLater_wrongMode {o : OpSpec} {s : State} {c : Ctx} {k : Nat}
    (update : (s.clocked c.op).mode.mode = .update → (s.clocked c.op).updateAccepts c.op c.p.params = true)
    (refuses : o.mode (s.clocked c.op) c (s.clocked c.op).mode.mode = some k) :
    o.execLater s c = { st := s.clocked c.op, status := .wrongMode, cause := k } := by
  have accepts : ¬ ((s.clocked c.op).mode.mode = .update ∧ (s.clocked c.op).updateAccepts c.op c.p.params = false) := fun ⟨mode, denies⟩ =>
    Bool.false_ne_true (denies.symm.trans (update mode))
  simp only [OpSpec.execLater, if_neg accepts, refuses]

/-- The state in which a command taken from the schedule executes. -/
def State.unscheduled (s : State) (e : Sched) : State := (s.onFront fun f => { f with sched := f.sched.erase e }).reach e.due

/-- What follows the execution of a command taken from the schedule. -/
def OpSpec.endLater (o : OpSpec) (e : Sched) (c : Ctx) (r : Res) : State :=
  let st := (if r.status.done || r.audit.isSome then r.st.auditCmd e.opcode e.packet e.secure e.client true r.audit else r.st).endSched e r
  if r.status.done then o.after st c else st

theorem State.runSched_eq (s : State) {e : Sched} {o : OpSpec} (spec : opSpec e.opcode = some o) :
    s.runSched opSpec e = o.endLater e ((s.unscheduled e).schedCtx e) (o.execLater (s.unscheduled e) ((s.unscheduled e).schedCtx e)) := by
  simp only [State.runSched, spec]
  rfl

/-- A refused command that is no MODE_SET leaves its EXEC_RESULT alone. -/
theorem OpSpec.endLater_wrongMode (o : OpSpec) {e : Sched} (other : e.opcode ≠ 0x0010) (c : Ctx) (v : State) (k : Nat) :
    o.endLater e c { st := v, status := .wrongMode, cause := k }
      = v.execResult e.packet.session e.packet.sequence (levelsOf e.packet.path) .wrongMode (v.now - e.due) := by
  simp only [OpSpec.endLater, State.endSched, if_neg other, Status.done, Option.isSome_none, Bool.or_self, Bool.false_eq_true, if_false]

/-- Settles O46: each clause is one case of the event's meaning. -/
theorem packetFrontEvents : Obligations.PacketFrontEvents := by
  unfold Obligations.PacketFrontEvents
  refine ⟨?front, ?next⟩
  case front =>
    refine ⟨fun bs op p formed => ?packet, fun bs formed => ?malformed, fun n => ?empty, fun n b r => ?whole, fun n b r => ?part, ?status, fun port bs f sound => ?discard,
      fun port bs f => ?lost, fun k se => ?session, fun k q se a => ?again, fun k q se a => ?drops, fun id x => ?bulk⟩
    case packet => exact doesUp (fun _ _ => rfl) fun _ enabled => State.spiWrite_packet formed enabled
    case malformed => exact doesUp (fun _ _ => rfl) fun _ enabled => State.spiWrite_malformed formed enabled
    case empty => exact doesUp (fun _ _ => rfl) fun _ queue => State.spiRead_empty queue n
    case whole => exact doesUp (fun _ _ => rfl) fun _ ⟨queue, all⟩ => State.spiRead_whole queue all
    case part => exact doesUp (fun _ _ => rfl) fun _ ⟨queue, part⟩ => State.spiRead_part queue part
    case status => exact doesOf (fun _ _ on => congrArg _ (poE on)) fun _ awake => State.spiStatus_awake awake
    case discard => exact doesUp (fun _ _ => rfl) fun _ ⟨takes, fits, host, bad⟩ => State.discard_malformed sound takes fits host bad
    case lost => exact doesUp (fun _ _ => rfl) fun _ ⟨takes, lost⟩ => State.discard_lost takes lost
    case session => exact doesUp (fun _ _ => rfl) fun _ opened => State.sessionTimeout_open opened
    case again => exact doesUp (fun _ _ => rfl) fun _ ⟨opened, alert, few⟩ => State.alertRetry_again opened alert few
    case drops => exact doesUp (fun _ _ => rfl) fun _ ⟨opened, alert, many⟩ => State.alertRetry_drops opened alert many
    case bulk => exact doesUp (fun _ _ => rfl) fun _ opened => State.bulkTimeout_open opened
  case next =>
    intro led
    refine ⟨⟨fun e => ?command, fun c => ?commit, fun m => ?move⟩, fun s e o spec other => ?refused⟩
    case command => exact doesUp (fun _ _ => rfl) fun _ ⟨head, lights, moves⟩ => State.runNext_command head lights moves
    case commit => exact doesUp (fun _ _ => rfl) fun _ ⟨first, commands, moves⟩ => State.runNext_led first commands moves
    case move => exact doesUp (fun _ _ => rfl) fun _ ⟨first, commands, lights⟩ => State.runNext_move first commands lights
    case refused =>
      intro u v c k update refuses
      have result : o.execLater (s.unscheduled e) ((s.unscheduled e).schedCtx e) = { st := v, status := .wrongMode, cause := k } :=
        OpSpec.execLater_wrongMode update refuses
      rw [State.runSched_eq s spec, result, OpSpec.endLater_wrongMode o other]

/-! ## The schedule (R41) -/

/-- Settles O50: the schedule is a stable sort, and the step takes its head. -/
theorem scheduleOrder : Obligations.ScheduleOrder := by
  refine ⟨fun s => ⟨sortBy_perm _ _, sortBy_pairwise _ _, filter_sortBy _ _⟩, fun s e r h => sortBy_erase _ h, fun e => ?_⟩
  refine doesUp (fun _ _ => rfl) fun u ⟨head, lights, moves⟩ => State.runNext_command head ?_ ?_
  · simp [State.nextLed, lights, sortBy]
  · simp [moves]

end Sys2Proof.Machine

namespace Sys2Proof.Machine

open Sys2Proof

/-! ## Packets that the block does not hear (R45, R52, R76, R78, R376) -/

/-- A packet command is its packet's way through R84. -/
theorem exec_packetOf {i : Instr} {t op : Nat} {p : Packet} (h : packetOf i = some (t, op, p)) (s : State) : ∃ o, exec i s = .next (s.packet t o op p) := by
  cases i
  all_goals cases h <;> exact ⟨_, rfl⟩

theorem State.takes_touch (s : State) (t : Nat) (port : Port) : (s.touch t).takes port = s.takes port := by
  cases port <;> rfl

theorem State.fits_touch (s : State) (t : Nat) (port : Port) (n : Nat) : (s.touch t).fits port n = s.fits port n := by
  cases port <;> rfl

/-- The touch of a command does not decide whether a packet is heard. -/
theorem State.hears_touch (s : State) (t : Nat) (p : Packet) : (s.touch t).hears p = s.hears p := by
  rw [State.hears, State.takes_touch, State.fits_touch]
  rfl

/-- What the block does with a packet that it does not hear. -/
def State.ignores (s : State) (p : Packet) : State :=
  if s.takes p.port = false then s else if s.fits p.port (packetSize p) = true then s.frameAt p.port else s.frameLost p.port

theorem State.packet_unheard {s : State} (t : Nat) (o : Option OpSpec) (op : Nat) {p : Packet} (runs : s.runs = true) (unheard : s.hears p = false) :
    s.packet t o op p = (s.touch t).keep ((s.touch t).ignores p) := by
  have still : ¬ (s.touch t).hears p = true := by rw [State.hears_touch, unheard]; exact Bool.false_ne_true
  rw [State.packet, act_runs runs, if_neg still]
  rfl

/-- Settles O10: a packet command's guard lets nothing through before start-up is past, and the packet's first test sorts out what the block does not hear. -/
theorem deafDiscards : Obligations.DeafDiscards := by
  intro i t op p s packet
  obtain ⟨o, meaning⟩ := exec_packetOf packet s
  rw [meaning]
  refine ⟨fun deaf => ?_, fun runs unheard => ?_⟩
  · rw [State.packet, act_deaf deaf]
    rfl
  · rw [State.packet_unheard t o op runs unheard, State.ignores, State.takes_touch, State.fits_touch]
    rfl

/-! ## LATCH_CLEAR (R61) -/

/-- Causes asked in order give none when the first does not apply and the rest give none. -/
theorem ite_eq_zero_iff {c : Prop} [Decidable c] {k x : Nat} (hk : k ≠ 0) : (if c then k else x) = 0 ↔ ¬ c ∧ x = 0 := by
  split <;> simp_all

/-- Settles O26: the causes of R61 are asked in order, and each asks the opposite of one condition. -/
theorem latchClearCauses : Obligations.LatchClearCauses := by
  intro s w
  have modes : (s.mode.mode == .config || s.mode.mode == .idle || s.mode.mode == .pause || s.mode.mode == .hold) = true
      ↔ s.mode.mode ∈ [Mode.config, .idle, .pause, .hold] := by
    simp [or_assoc]
  have window : enWindow = 10000000 := rfl
  rw [State.clearCause, ← modes]
  simp only [ite_eq_zero_iff, ne_eq, OfNat.ofNat_ne_zero, not_false_eq_true, one_ne_zero, window, Safety.enHigh]
  grind

end Sys2Proof.Machine

namespace Sys2Proof.Machine

open Sys2Proof

/-! ## What reporting changes -/

/-- `u` is `s` after reports: only registers, what leaves the block, the rafter ports, the sessions' alert queues, the queue of SPI and records that no page holds yet have
changed. -/
def Reported (s u : State) : Prop :=
  ∃ regs out up down sessions spiOut tally,
    u = { s with regs := regs, out := out, up := up, down := down, front := { s.front with sessions := sessions, spiOut := spiOut }, tally := tally }
      ∧ sessions.map (·.slot) = s.front.sessions.map (·.slot) ∧ tally.firstArea = s.tally.firstArea ∧ tally.circ = s.tally.circ

theorem Reported.refl (s : State) : Reported s s := ⟨_, _, _, _, _, _, _, rfl, rfl, rfl, rfl⟩

theorem Reported.trans {s u v : State} (h : Reported s u) (h' : Reported u v) : Reported s v := by
  obtain ⟨_, _, _, _, _, _, _, rfl, slots, first, circ⟩ := h
  obtain ⟨_, _, _, _, _, _, _, rfl, slots', first', circ'⟩ := h'
  exact ⟨_, _, _, _, _, _, _, rfl, slots'.trans slots, first'.trans first, circ'.trans circ⟩

theorem Reported.foldl {α : Type} {f : State → α → State} (h : ∀ s x, Reported s (f s x)) (l : List α) (s : State) : Reported s (l.foldl f s) :=
  List.foldlRecOn l f (.refl s) fun u hu x _ => hu.trans (h u x)

theorem Reported.ite {s u v : State} {c : Prop} [Decidable c] (hu : Reported s u) (hv : Reported s v) : Reported s (if c then u else v) := by
  split
  · exact hu
  · exact hv

theorem Reported.setReg (s : State) (a : Nat) (w : Word) : Reported s (s.setReg a w) := ⟨_, _, _, _, _, _, _, rfl, rfl, rfl, rfl⟩

theorem Reported.setUncommitted (s : State) {t : Tally} (first : t.firstArea = s.tally.firstArea) (circ : t.circ = s.tally.circ) : Reported s { s with tally := t } :=
  ⟨_, _, _, _, _, _, _, rfl, rfl, first, circ⟩

/-! ### Records -/

theorem Reported.tallyNew (s : State) (type : Nat) (body : List Byte) : Reported s (s.tallyNew type body).1 := by
  have lost : Reported s s.tallyLose := (Reported.setReg s rLostTotal _).trans (.setUncommitted _ rfl rfl)
  unfold State.tallyNew
  simp only []
  split
  · exact lost
  · split
    · exact .setUncommitted s rfl rfl
    · rw [apply_ite Prod.fst]
      exact .ite (.setUncommitted s rfl rfl) lost

theorem Reported.tallyEvent (s : State) (code sev cls : Nat) (levels : List Nat) (payload : List Byte) : Reported s (s.tallyEvent code sev cls levels payload).1 := by
  have merged {t : Tally} (first : t.firstArea = s.tally.firstArea) (circ : t.circ = s.tally.circ) : Reported s (({ s with tally := t } : State).count rMergedTotal) :=
    (Reported.setUncommitted s first circ).trans (.setReg _ _ _)
  unfold State.tallyEvent
  simp only []
  split
  · exact merged rfl rfl
  · split
    · exact merged rfl rfl
    · split
      · exact merged rfl rfl
      · exact .tallyNew s _ _

theorem Reported.note (s : State) (code sev cls : Nat) (levels : List Nat) (payload : List Byte) : Reported s (s.note code sev cls levels payload) :=
  .tallyEvent s code sev cls levels payload

/-! ### Packets -/

theorem Reported.emit (s : State) (o : Out) : Reported s (s.emit o) := ⟨_, _, _, _, _, _, _, rfl, rfl, rfl, rfl⟩

theorem Reported.sendFrom (s : State) (p : RPort) (type src dst flags : Nat) (payload : List Byte) : Reported s (s.sendFrom p type src dst flags payload) := by
  cases p <;> exact .ite ⟨_, _, _, _, _, _, _, rfl, rfl, rfl, rfl⟩ (.refl s)

theorem Reported.sendTirril (s : State) (p : RPort) (dst : Nat) (bs : List Byte) : Reported s (s.sendTirril p dst bs) :=
  .foldl (fun st _ => .sendFrom st p 0x30 st.chain.index dst _ _) _ s

theorem Reported.sendAt (s : State) (port : Port) (dest : HostAddr) (bs : List Byte) : Reported s (s.sendAt port dest bs) := by
  cases port with
  | spi => exact ⟨_, _, _, _, _, _, _, rfl, rfl, rfl, rfl⟩
  | rafter => exact .sendTirril s .up 0 bs
  | eth0 | eth1 => exact .emit s _

/-- A session given other contents under its slot. -/
theorem Reported.setSession (s : State) (se : Session) : Reported s (s.setSession se) := by
  refine ⟨_, _, _, _, _, _, _, rfl, ?_, rfl, rfl⟩
  rw [List.map_map]
  refine List.map_congr_left fun x _ => ?_
  by_cases same : x.slot = se.slot
  · simp [same]
  · simp [same]

theorem Reported.queueAlert (s : State) (slot : Fin 8) (code sev : Nat) (tally : Word) (path : List Byte) (time : Nat) (payload : List Byte) :
    Reported s (s.queueAlert slot code sev tally path time payload) := by
  unfold State.queueAlert
  split
  · exact .refl s
  · split
    · exact (Reported.setSession s _).trans (.setReg _ _ _)
    · exact (Reported.setSession s _).trans (.foldl (fun st _ => .sendAt st _ _ _) _ _)

theorem Reported.alert (s : State) (code sev : Nat) (tally : Word) (path : List Byte) (payload : List Byte) : Reported s (s.alert code sev tally path payload) := by
  have queued := Reported.foldl (f := fun st (se : Session) => st.queueAlert se.slot code sev tally path s.now payload) (fun st _ => .queueAlert st _ _ _ _ _ _ _)
    (s.front.sessions.filter fun x => x.alertMask.getLsbD (code / 256)) s
  exact queued.trans (.ite (.refl _) (.sendTirril _ _ _ _))

theorem Reported.raise (s : State) (code sev cls : Nat) (levels : List Nat) (payload : List Byte) : Reported s (s.raise code sev cls levels payload) :=
  (Reported.tallyEvent s code sev cls levels payload).trans (.alert _ _ _ _ _ _)

/-! ### Unit states and the servo's -/

theorem Reported.unitFault (s : State) (u : Leaf) (st cls : Nat) (extra : List Byte) : Reported s (s.unitFault u st cls extra) := by
  unfold State.unitFault
  simp only []
  refine .ite (.note s _ _ _ _ _) (.ite ?again ?new)
  case again => exact ((Reported.setReg s _ _).trans (.setReg _ _ _)).trans (.note _ _ _ _ _ _)
  case new =>
    exact (((((Reported.setReg s _ _).trans (.setReg _ _ _)).trans (.setReg _ _ _)).trans (.setReg _ _ _)).trans (.tallyEvent _ _ _ _ _ _)).trans
      (.alert _ _ _ _ _ _)

theorem Reported.settle (s : State) (u : Leaf) : Reported s (s.settle u) :=
  .ite ((Reported.setReg s _ _).trans (.raise _ _ _ _ _ _)) (.refl s)

theorem Reported.timeStatus (s : State) : Reported s s.timeStatus := by
  unfold State.timeStatus
  simp only []
  split
  · exact .refl s
  · exact .refl s
  · exact .ite (.ite (.refl s) (.unitFault s _ _ _ _)) (.ite (.settle s _) (.setReg s _ _))

/-- Beside what it reports, the servo's state and lock count alone change with it. -/
theorem State.setServo_reported (s : State) (v : Servo) :
    ∃ servo lockRun, Reported (s.onTime fun u => { u with servo := servo, lockRun := lockRun }) (s.setServo v) := by
  unfold State.setServo
  simp only []
  split
  · exact ⟨s.time.servo, s.time.lockRun, .refl s⟩
  · refine ⟨v, 0, ?_⟩
    refine Reported.trans ?_ (.ite (.raise _ _ _ _ _ _) (.ite (.raise _ _ _ _ _ _) (.refl _)))
    cases v
    case holdover | stepHeld => exact .unitFault _ _ _ _ _
    all_goals exact .timeStatus _

/-! ## A reset of a running device (R54, R55) -/

theorem Reported.stagingDone (s : State) : Reported s s.stagingDone := by
  unfold State.stagingDone
  simp only []
  split
  · exact .refl s
  · split <;> exact .setUncommitted s rfl rfl

theorem Reported.tallyDrain (s : State) : Reported s s.tallyDrain := .foldl (fun st _ => .stagingDone st) _ s

/-- The records that a reset cuts off are none of a page. -/
theorem Reported.cutCrossing (s : State) : Reported s s.cutCrossing := by
  unfold State.cutCrossing
  simp only []
  split
  · exact .refl s
  · exact .ite (.refl s) (.setUncommitted s rfl rfl)

/-- Beside what is reported, a servo that starts over changes its state and lock count alone. -/
theorem State.reported_of_setServo {t u : State} {c : Prop} [Decidable c] {v : Servo} (h : (if c then t.setServo v else t) = u) :
    ∃ servo lockRun, Reported (t.onTime fun x => { x with servo := servo, lockRun := lockRun }) u := by
  subst h
  split
  · exact t.setServo_reported v
  · exact ⟨_, _, .refl t⟩

/-- A Sill tick moves device time on and changes the fraction that the Sill domain keeps. -/
theorem State.sillTick_eq (s : State) : ∃ now frac, s.now ≤ now ∧ s.sillTick = { s with now := now, power := { s.power with sillFrac := frac } } := by
  refine ⟨_, _, (Nat.le_div_iff_mul_le (by decide : 0 < 64)).mpr ?_, rfl⟩
  rw [ceilDiv, if_neg (by decide)]
  omega

/-- RESET_CAUSE gets the cause's bits below the bit of an interrupted layer, bit 10. -/
theorem getLsbD_cause {w : Word} {bits x k : Nat} (hk : k < 10) (set : bits.testBit k = true) : (w ||| BitVec.ofNat 32 (bits + 1024 * x)).getLsbD k = true := by
  have low : (bits + 1024 * x).testBit k = bits.testBit k := by
    have same : (bits + 1024 * x) % 2 ^ 10 = bits % 2 ^ 10 := by omega
    have bits := congrArg (·.testBit k) same
    simpa only [Nat.testBit_mod_two_pow, hk, decide_true, Bool.true_and] using bits
  rw [BitVec.getLsbD_or, BitVec.getLsbD_ofNat, low, set, decide_eq_true (hk.trans (by decide)), Bool.true_and, Bool.or_true]

/-- RESET_CAUSE keeps the bits that it has. -/
theorem getLsbD_or_kept {w v : Word} {k : Nat} (set : w.getLsbD k = true) : (w ||| v).getLsbD k = true := by
  rw [BitVec.getLsbD_or, set, Bool.true_or]

/-- Settles O43: a reset builds its state from the drained recorder and the Sill time; what follows, the servo's new start, only reports. -/
theorem resetLeaves : Obligations.ResetLeaves := by
  intro s bits u
  obtain ⟨_, _, _, _, _, _, _, drained, -, -, -⟩ := (Reported.cutCrossing s).trans (.tallyDrain _)
  have hu : s.resetState bits false = u := rfl
  clear_value u
  unfold State.resetState at hu
  extract_lets _ _ _ _ d at hu
  obtain ⟨_, _, later, ticked⟩ := State.sillTick_eq s.cutCrossing.tallyDrain
  have hd : d = _ := ticked
  rw [drained] at later hd
  clear_value d
  obtain ⟨_, _, _, _, _, _, _, _, _, left, slots, first, circ⟩ := State.reported_of_setServo hu
  subst left hd
  rw [drained]
  exact ⟨rfl, rfl, rfl, rfl, rfl, rfl, rfl, rfl, rfl, fun _ hk set => getLsbD_cause hk set, fun _ _ set => getLsbD_or_kept set, rfl, rfl, rfl,
    List.map_eq_nil_iff.mp slots, rfl, rfl, rfl, rfl, rfl, rfl, rfl, rfl, rfl, first, circ, rfl, rfl, later⟩

end Sys2Proof.Machine

namespace Sys2Proof.Machine

open Sys2Proof

/-! ## Holding and releasing a reset (R54) -/

theorem State.resetHeld_false {s : State} : s.resetHeld = false ↔ s.power.heldPin = false ∧ s.power.heldThermal = false ∧ s.power.heldRef = false := by
  simp [State.resetHeld, and_assoc]

theorem State.holdReset_first {s : State} (h : s.resetHeld = false) (bits : Nat) (f : Power → Power) : s.holdReset bits f = (s.resetState bits false).onPower f := by
  simp only [State.holdReset, h, Bool.false_eq_true, if_false]

/-- A source that finds the device in reset adds its bit. -/
theorem State.holdReset_again {s : State} (h : s.resetHeld = true) (bits : Nat) (f : Power → Power) :
    s.holdReset bits f = (s.onPower fun p => { p with resetCause := p.resetCause ||| BitVec.ofNat 32 bits }).onPower f := by
  simp only [State.holdReset, h, if_true]

theorem State.releaseReset_last {s : State} {f : Power → Power} (held : s.resetHeld = true) (free : (s.onPower f).resetHeld = false) :
    s.releaseReset f = (s.onPower f).loadTime.startUp false := by
  simp only [State.releaseReset, held, free, Bool.not_false, Bool.and_self, if_true]

theorem State.releaseReset_held {s : State} {f : Power → Power} (held : (s.onPower f).resetHeld = true) : s.releaseReset f = s.onPower f := by
  simp only [State.releaseReset, held, Bool.not_true, Bool.and_false, Bool.false_eq_true, if_false]

/-- An event of the Sill domain does `f` where its effect on the powered module is `f`. -/
theorem doesPowered {i : Nat → Instr} {cond : State → Prop} {f g : State → State} (he : ∀ t s, s.power.power = .on → exec (i t) s = .next (s.sillAct t g))
    (hg : ∀ u : State, u.power.power = .on → cond u → g u = f u) : Does i isPowered cond f := by
  intro t s on holds
  rw [he t s on, sillAct_on on, hg (s.touch t) on holds]
  rfl

/-- An event that the module sees without power does `f` where its effect then is `f`. -/
theorem doesOff {i : Nat → Instr} {cond : State → Prop} {f g : State → State} (he : ∀ t s, s.power.power ≠ .on → exec (i t) s = .next (s.unpowered g))
    (hg : ∀ u : State, u.power.power ≠ .on → cond u → g u = f u) (hc : ∀ s : State, cond s → cond { s with out := [] } := by exact fun _ h => h) : DoesOff i cond f := by
  intro t s off holds
  rw [he t s off, State.unpowered, hg { s with out := [] } off (hc s holds)]
  rfl

/-! ## Power comes and goes (R52, R54, R63) -/

theorem State.powerOn_rises {s : State} {vin : Nat} (h : s.power.power = .off ∧ 4800 < vin) : s.powerOn vin = s.onPower fun p => { p with power := .filtering } :=
  if_pos h

theorem State.porRelease_filtered {s : State} (h : s.power.power = .filtering) : s.porRelease = s.powerUp := if_pos h

theorem State.brownOut_filtering {s : State} {vin : Nat} (filtering : s.power.power = .filtering) (low : vin < 4600) :
    s.brownOut vin = s.onPower fun p => { p with power := .off } := by
  simp only [State.brownOut, filtering, low.not_ge, reduceCtorEq, or_self, if_false, if_true]

/-- The module as a brown-out finds it: both latches are set, and VIN_MIN has followed VIN. -/
def State.browned (s : State) (vin : Nat) : State := (s.setLatches 1).vinSeen vin

/-- The power is off: no reset is held any more, and the next power-up starts from BOOT. -/
def State.powerLost (s : State) : State :=
  (s.onPower fun p => { p with power := .off, heldPin := false, heldThermal := false, heldRef := false, dipActive := false }).onMode fun m => { m with mode := .boot }

/-- The emergency page is written (R63, R458). -/
def State.emergencyPage (s : State) : State :=
  let w := (s.snapshot 2 rSnapSupply (s.regF supplyStatus 0 16)).tallyDrain
  ({ w with tally := { w.tally with staged := [], next := w.emergencyRecs.2, lostNow := 0 } } : State).commitPage 3 w.emergencyRecs.1

/-- Whether a brown-out writes the emergency page. -/
def State.hasEmergency (s : State) : Bool :=
  s.regB supplyStatus 8 == false && decide (s.power.porAt + 24 * milli ≤ s.now) && s.mode.mode != .sill

theorem State.brownOut_on {s : State} {vin : Nat} (on : s.power.power = .on) (low : vin < 4600) :
    s.brownOut vin = (if (s.browned vin).hasEmergency = true then (s.browned vin).emergencyPage else s.browned vin).powerLost := by
  simp only [State.brownOut, on, low.not_ge, reduceCtorEq, or_self, if_false, State.browned, State.hasEmergency, State.emergencyPage, State.powerLost]
  rfl

theorem State.brownOut_silent {s : State} {vin : Nat} (on : s.power.power = .on) (low : vin < 4600)
    (silent : (s.browned vin).regB supplyStatus 8 = true ∨ (s.browned vin).mode.mode = .sill) : s.brownOut vin = (s.browned vin).powerLost := by
  have none : (s.browned vin).hasEmergency = false := by
    obtain holdup | sill := silent
    · simp [State.hasEmergency, holdup]
    · simp [State.hasEmergency, sill]
  rw [State.brownOut_on on low, none, if_neg Bool.false_ne_true]

theorem State.brownOut_page {s : State} {vin : Nat} (on : s.power.power = .on) (low : vin < 4600) (holdup : (s.browned vin).regB supplyStatus 8 = false)
    (awake : (s.browned vin).mode.mode ≠ .sill) (settled : (s.browned vin).power.porAt + 24 * milli ≤ (s.browned vin).now) :
    s.brownOut vin = (s.browned vin).emergencyPage.powerLost := by
  have page : (s.browned vin).hasEmergency = true := by
    simp [State.hasEmergency, holdup, awake, settled]
  rw [State.brownOut_on on low, if_pos page]

/-! ## What the sources do (R54, R57) -/

theorem State.pinReset_first {s : State} (on : s.power.power = .on) (high : s.power.resetNLow = false) (free : s.resetHeld = false) :
    s.pinReset = ((s.onPower fun p => { p with resetNLow := true }).resetState 4 false).onPower fun p => { p with heldPin := true } := by
  have free' : (s.onPower fun p => { p with resetNLow := true }).resetHeld = false := free
  have on' : (s.onPower fun p => { p with resetNLow := true }).power.power = .on := on
  rw [State.pinReset, high, if_neg Bool.false_ne_true]
  exact (if_pos on').trans (State.holdReset_first free' _ _)

theorem State.pinReset_again {s : State} (on : s.power.power = .on) (high : s.power.resetNLow = false) (held : s.resetHeld = true) :
    s.pinReset = s.onPower fun p => { p with resetNLow := true, resetCause := p.resetCause ||| 4, heldPin := true } := by
  have held' : (s.onPower fun p => { p with resetNLow := true }).resetHeld = true := held
  have on' : (s.onPower fun p => { p with resetNLow := true }).power.power = .on := on
  rw [State.pinReset, high, if_neg Bool.false_ne_true]
  exact (if_pos on').trans (State.holdReset_again held' _ _)

theorem State.pinReset_off {s : State} (off : s.power.power ≠ .on) : s.pinReset = s.onPower fun p => { p with resetNLow := true } := by
  cases level : s.power.resetNLow with
  | true =>
    rw [State.pinReset, if_pos level]
    have same : (s.onPower fun p => { p with resetNLow := s.power.resetNLow }) = s := rfl
    rw [← level, same]
  | false =>
    rw [State.pinReset, level, if_neg Bool.false_ne_true]
    exact if_neg off

/-- RESET_N, the last source that held the device, lets it go. -/
theorem State.resetNRise_last {s : State} (pin : s.power.heldPin = true) (thermal : s.power.heldThermal = false) (ref : s.power.heldRef = false) :
    s.resetNRise = (s.onPower fun p => { p with resetNLow := false, heldPin := false }).loadTime.startUp false :=
  State.releaseReset_last (s := s.onPower fun p => { p with resetNLow := false }) (f := fun p => { p with heldPin := false })
    (by simp [State.resetHeld, State.onPower, pin]) (State.resetHeld_false.mpr ⟨rfl, thermal, ref⟩)

theorem State.resetNRise_held {s : State} (other : s.power.heldThermal = true ∨ s.power.heldRef = true) :
    s.resetNRise = s.onPower fun p => { p with resetNLow := false, heldPin := false } :=
  State.releaseReset_held (s := s.onPower fun p => { p with resetNLow := false }) (f := fun p => { p with heldPin := false })
    (by simpa [State.resetHeld, State.onPower] using other)

theorem State.thermalTrip_first {s : State} (on : s.power.power = .on) (free : s.resetHeld = false) :
    s.thermalTrip = (s.resetState 0x40 false).onPower fun p => { p with heldThermal := true } :=
  (if_pos on).trans (State.holdReset_first free _ _)

theorem State.thermalTrip_again {s : State} (on : s.power.power = .on) (held : s.resetHeld = true) :
    s.thermalTrip = s.onPower fun p => { p with resetCause := p.resetCause ||| 0x40, heldThermal := true } :=
  (if_pos on).trans (State.holdReset_again held _ _)

theorem State.thermalRelease_last {s : State} (pin : s.power.heldPin = false) (thermal : s.power.heldThermal = true) (ref : s.power.heldRef = false) :
    s.thermalRelease = (s.onPower fun p => { p with heldThermal := false }).loadTime.startUp false :=
  State.releaseReset_last (by simp [State.resetHeld, thermal]) (State.resetHeld_false.mpr ⟨pin, rfl, ref⟩)

theorem State.referenceLoss_first {s : State} (on : s.power.power = .on) (present : s.power.ref25 = true) (free : s.resetHeld = false) :
    s.referenceLoss = ((s.onPower fun p => { p with ref25 := false }).resetState 0x80 false).onPower fun p => { p with heldRef := true } := by
  have powered : ((s.onPower fun p => { p with ref25 := false }).power.power = .on && s.power.ref25) = true := by simp [State.onPower, on, present]
  have free' : (s.onPower fun p => { p with ref25 := false }).resetHeld = false := free
  rw [State.referenceLoss]
  exact (if_pos powered).trans (State.holdReset_first free' _ _)

theorem State.referenceLoss_off {s : State} (off : s.power.power ≠ .on) : s.referenceLoss = s.onPower fun p => { p with ref25 := false } := by
  have unpowered : ¬ ((s.onPower fun p => { p with ref25 := false }).power.power = .on && s.power.ref25) = true := by simp [State.onPower, off]
  rw [State.referenceLoss]
  exact if_neg unpowered

theorem State.referenceBack_last {s : State} (pin : s.power.heldPin = false) (thermal : s.power.heldThermal = false) (ref : s.power.heldRef = true) :
    s.referenceBack = (s.onPower fun p => { p with ref25 := true, heldRef := false }).loadTime.startUp false :=
  State.releaseReset_last (s := s.onPower fun p => { p with ref25 := true }) (f := fun p => { p with heldRef := false })
    (by simp [State.resetHeld, State.onPower, ref]) (State.resetHeld_false.mpr ⟨pin, thermal, rfl⟩)

theorem State.wakeEvent_asleep {s : State} (h : s.asleep = true) : s.wakeEvent = s.wake := if_pos h

theorem State.wakeByAlarm_asleep {s : State} {a : Nat} (asleep : s.asleep = true) (alarm : s.power.wakeAlarm = some a) : s.wakeByAlarm = (s.reach a).wake := by
  simp only [State.wakeByAlarm, alarm, asleep, if_true]

/-- Settles O44: each clause is one case of the event's meaning, with power or without it. -/
theorem powerAndResetEvents : Obligations.PowerAndResetEvents := by
  refine ⟨?power, ?resets, ?wakes⟩
  case power =>
    refine ⟨fun vin => ?rises, ?filtered, fun vin => ?drops, fun vin => ?silent, fun vin => ?page⟩
    case rises => exact doesOff (fun _ _ _ => rfl) fun _ _ h => State.powerOn_rises h
    case filtered => exact doesOff (fun _ _ _ => rfl) fun _ _ h => State.porRelease_filtered h
    case drops => exact doesOff (fun _ _ off => congrArg _ (if_neg off)) fun _ _ ⟨filtering, low⟩ => State.brownOut_filtering filtering low
    case silent => exact doesPowered (fun _ _ on => congrArg _ (if_pos on)) fun _ on ⟨low, silent⟩ => State.brownOut_silent on low silent
    case page =>
      exact doesPowered (fun _ _ on => congrArg _ (if_pos on)) fun _ on ⟨low, holdup, awake, settled⟩ => by
        simpa only [State.browned, State.emergencyPage, State.powerLost] using State.brownOut_page on low holdup awake settled
  case resets =>
    refine ⟨?pin, ?pinAgain, ?pinOff, ?rise, ?riseHeld, ?watchdog, ?trip, ?tripAgain, ?release, ?loss, ?lossOff, ?back⟩
    case pin => exact doesPowered (fun _ _ on => congrArg _ (if_pos on)) fun _ on ⟨high, free⟩ => State.pinReset_first on high free
    case pinAgain => exact doesPowered (fun _ _ on => congrArg _ (if_pos on)) fun _ on ⟨high, held⟩ => State.pinReset_again on high held
    case pinOff => exact doesOff (fun _ _ off => congrArg _ (if_neg off)) fun _ off _ => State.pinReset_off off
    case rise => exact doesPowered (fun _ _ on => congrArg _ (if_pos on)) fun _ _ ⟨pin, thermal, ref⟩ => State.resetNRise_last pin thermal ref
    case riseHeld => exact doesPowered (fun _ _ on => congrArg _ (if_pos on)) fun _ _ other => State.resetNRise_held other
    case watchdog => exact alwaysAwake (fun _ _ => rfl) fun _ => rfl
    case trip => exact doesPowered (fun _ _ _ => rfl) fun _ on free => State.thermalTrip_first on free
    case tripAgain => exact doesPowered (fun _ _ _ => rfl) fun _ on held => State.thermalTrip_again on held
    case release => exact doesPowered (fun _ _ _ => rfl) fun _ _ ⟨pin, thermal, ref⟩ => State.thermalRelease_last pin thermal ref
    case loss => exact doesPowered (fun _ _ on => congrArg _ (if_pos on)) fun _ on ⟨present, free⟩ => State.referenceLoss_first on present free
    case lossOff => exact doesOff (fun _ _ off => congrArg _ (if_neg off)) fun _ off _ => State.referenceLoss_off off
    case back => exact doesPowered (fun _ _ on => congrArg _ (if_pos on)) fun _ _ ⟨pin, thermal, ref⟩ => State.referenceBack_last pin thermal ref
  case wakes =>
    intro wakes
    have woken (u : State) : u.wake = wakes u := rfl
    refine ⟨fun spi => ?event, fun a => ?alarm⟩
    case event => exact doesPowered (fun _ _ _ => rfl) fun _ _ asleep => State.wakeEvent_asleep asleep
    case alarm => exact doesPowered (fun _ _ _ => rfl) fun _ _ ⟨asleep, alarm⟩ => (State.wakeByAlarm_asleep asleep alarm).trans (woken _)

end Sys2Proof.Machine

namespace Sys2Proof.Machine

open Sys2Proof

/-! ## Group 0x03: jobs and layers (R66, R67, R162-R164, R183, R184) -/

theorem opJobBegin_same {s : State} {c : Ctx} (h : BitVec.ofNat 16 (leAt c.params 0 2) = s.resume.jobGen) :
    opJobBegin.effect s c = c.done { s with layers := { s.layers with jobOpen := true, jobGen := BitVec.ofNat 16 (leAt c.params 0 2)
                                                                      lastGen := some (BitVec.ofNat 16 (leAt c.params 0 2)) } } := by
  have kept : ∀ f, BitVec.ofNat 16 (leAt c.params 0 2) = (s.onLayers f).resume.jobGen := fun _ => h
  simp only [OpSpec.effect, opJobBegin, if_pos (kept _)]
  rfl

theorem opJobBegin_other {s : State} {c : Ctx} (h : BitVec.ofNat 16 (leAt c.params 0 2) ≠ s.resume.jobGen) :
    opJobBegin.effect s c = c.done ({ s with layers := { s.layers with jobOpen := true, jobGen := BitVec.ofNat 16 (leAt c.params 0 2)
                                                                       lastGen := some (BitVec.ofNat 16 (leAt c.params 0 2)) } } : State).clearResume := by
  have kept : ∀ f, ¬ BitVec.ofNat 16 (leAt c.params 0 2) = (s.onLayers f).resume.jobGen := fun _ => h
  simp only [OpSpec.effect, opJobBegin, if_neg (kept _)]
  rfl

/-- Settles O30: JOB_BEGIN depends on the generation of the resume point; each other clause is its opcode's `run`. -/
theorem layerCommands : Obligations.LayerCommands := by
  refine ⟨?same, ?other, ?jobEnd, ?declare, ?activate, ?resume, ?status, ?abort⟩
  case same => exact givesIf_done (fun _ _ _ => rfl) (fun _ _ h => opJobBegin_same h)
  case other => exact givesIf_done (fun _ _ _ => rfl) (fun _ _ h => opJobBegin_other h)
  case jobEnd => exact gives_done (fun _ _ _ => rfl) (fun _ _ => rfl)
  case declare => exact gives_done (fun _ _ _ => rfl) (fun _ _ => rfl)
  case activate => exact gives_done (fun _ _ _ => rfl) (fun _ _ => rfl)
  case resume => exact gives_done (fun _ _ _ => rfl) (fun _ _ => rfl)
  case status => exact gives_done (fun _ _ _ => rfl) (fun _ _ => rfl)
  case abort => exact gives_done (fun _ _ _ => rfl) (fun _ _ => rfl)

/-! ## The end of EXPOSE and the package check (R50, R162, R181, R527) -/

theorem State.pauseReached_pause {s : State} (moving : s.mode.transition = some .pause) (still : s.enginesStill = true)
    (unended : ¬ (s.chain.manager = true ∧ s.chainDone = true)) : s.pauseReached = s.enterMode .pause 0 := by
  rw [State.pauseReached, if_pos ⟨moving, still⟩, if_neg unended]

theorem State.pauseReached_layerEnd {s : State} (moving : s.mode.transition = some .pause) (still : s.enginesStill = true) (manager : s.chain.manager = true)
    (done : s.chainDone = true) : s.pauseReached = s.layerEndMove := by
  rw [State.pauseReached, if_pos ⟨moving, still⟩, if_pos ⟨manager, done⟩]

theorem State.layerEndMove_uncovered {s : State} (manager : s.chain.manager = true) (expose : s.mode.mode = .expose) (done : s.chainDone = true)
    (uncovered : s.chainUncovered = true) : s.layerEndMove = s.holdCause 3 := by
  rw [State.layerEndMove, if_pos ⟨manager, expose, done⟩, if_pos uncovered]

theorem State.layerEndMove_named {s : State} {p : Pkg} (manager : s.chain.manager = true) (expose : s.mode.mode = .expose) (done : s.chainDone = true)
    (covered : s.chainUncovered = false) (active : s.layers.activePkg = some p) :
    s.layerEndMove = s.enterMode (if p.nextIdle = true then .idle else .recoat) 0 := by
  rw [State.layerEndMove, if_pos ⟨manager, expose, done⟩, if_neg (by simp [covered]), active]
  rfl

/-- The start of the inactive half, which the check reads. -/
def State.checkBase (s : State) : Nat := halfBase (!s.layers.halfB)

/-- What a finished check reports (R162): its registers and LAYER_CHECKED. -/
def State.checkReport (s : State) (f : CheckFail) : State :=
  ((s.setReg 0x2014 (BitVec.ofNat 32 (f.code + 256 * f.beam + 65536 * f.stick))).setReg 0x2018 (BitVec.ofNat 32 f.index)).raise 0x0300 (if f.code = 0 then 0 else 1) 0 []
    (leBytes 1 f.code ++ leBytes 1 f.beam ++ leBytes 2 f.stick ++ leBytes 4 f.index)

/-- What a check leaves of a package that fails it: nothing to activate, its first failure, and the errors that reading it met. -/
def State.checkFails (s : State) (f : CheckFail) : State :=
  ((s.onLayers fun l => { l with inactive := .invalid, inactPkg := none }).checkReport f).memMet (s.ueIn s.checkBase (s.readPkg s.checkBase).length)

/-- What a check leaves of a package that passes it. -/
def State.checkPasses (s : State) : State :=
  ((s.onLayers fun l => { l with inactive := .valid, inactPkg := some (s.pkgFacts s.checkBase (s.readPkg s.checkBase)) }).checkReport (failAt 0)).memMet
    (s.ueIn s.checkBase (s.readPkg s.checkBase).length)

section PackageCheck

variable {s : State} (checking : s.layers.inactive = .checking)
include checking

theorem State.packageChecked_part (part : s.halfCovers (s.readPkg s.checkBase).length = false) : s.packageChecked = s.checkFails (failAt 2) := by
  rw [State.checkBase] at part
  simp only [State.packageChecked, State.layerChecked, checking, part, if_true, Option.getD_some]
  rfl

variable (whole : s.halfCovers (s.readPkg s.checkBase).length = true)
include whole

theorem State.packageChecked_head {f : CheckFail} (head : s.headCheck s.checkBase (s.readPkg s.checkBase) = some f) : s.packageChecked = s.checkFails f := by
  rw [State.checkBase] at whole head
  simp only [State.packageChecked, State.layerChecked, checking, whole, head, Bool.true_eq_false, if_true, if_false, Option.getD_some]
  rfl

variable (head : s.headCheck s.checkBase (s.readPkg s.checkBase) = none)
include head

theorem State.packageChecked_body {f : CheckFail} (body : s.bodyCheck s.checkBase (s.readPkg s.checkBase) = some f) : s.packageChecked = s.checkFails f := by
  rw [State.checkBase] at whole head body
  simp only [State.packageChecked, State.layerChecked, checking, whole, head, body, Bool.true_eq_false, if_true, if_false, Option.getD_some]
  rfl

theorem State.packageChecked_passes (body : s.bodyCheck s.checkBase (s.readPkg s.checkBase) = none) : s.packageChecked = s.checkPasses := by
  rw [State.checkBase] at whole head body
  simp only [State.packageChecked, State.layerChecked, checking, whole, head, body, Bool.true_eq_false, if_true, if_false, Option.getD_none]
  rfl

end PackageCheck

/-- Settles O47: each clause is one case of the pause's end, of the layer-end move, or of the check's result. -/
theorem layerEvents : Obligations.LayerEvents := by
  unfold Obligations.LayerEvents
  intro base failed
  refine ⟨?pause, ?layerEnd, ?uncovered, fun p => ?named, ?valid, fun f => ?head, fun f => ?body, ?part⟩
  case pause => exact doesUp (fun _ _ => rfl) fun _ ⟨moving, still, unended⟩ => State.pauseReached_pause moving still unended
  case layerEnd => exact doesUp (fun _ _ => rfl) fun _ ⟨moving, still, manager, done⟩ => State.pauseReached_layerEnd moving still manager done
  case uncovered => exact doesUp (fun _ _ => rfl) fun _ ⟨manager, expose, done, uncovered⟩ => State.layerEndMove_uncovered manager expose done uncovered
  case named => exact doesUp (fun _ _ => rfl) fun _ ⟨manager, expose, done, covered, active⟩ => State.layerEndMove_named manager expose done covered active
  case valid => exact doesUp (fun _ _ => rfl) fun _ ⟨checking, whole, head, body⟩ => State.packageChecked_passes checking whole head body
  case head => exact doesUp (fun _ _ => rfl) fun _ ⟨checking, whole, head⟩ => State.packageChecked_head checking whole head
  case body => exact doesUp (fun _ _ => rfl) fun _ ⟨checking, whole, head, body⟩ => State.packageChecked_body checking whole head body
  case part => exact doesUp (fun _ _ => rfl) fun _ ⟨checking, part⟩ => State.packageChecked_part checking part

end Sys2Proof.Machine

namespace Sys2Proof.Machine

open Sys2Proof

/-! ## Every command completes (R16) -/

theorem pending_guard (s u : State) (t : Nat) (c : Prop) [Decidable c] : (if c then (s.touch t).keep u else s.touch t).pending = s.pending := by
  split <;> rfl

/-- The queue belongs to the step: no guard touches it. -/
theorem Guarded.pending_eq {s u : State} (h : Guarded s u) : u.pending = s.pending := by
  cases h with
  | hub t f => exact pending_guard s _ t _
  | chain t f => exact pending_guard s _ t _
  | sill t f => exact pending_guard s _ t _
  | off f => rfl

/-- Settles O4: every meaning is a guard around an effect, and a guard answers a next state. -/
theorem everyCommandCompletes : Obligations.EveryCommandCompletes := by
  intro i s
  obtain ⟨u, answers, guarded⟩ := exec_guarded i s
  exact ⟨u, answers, guarded.pending_eq, guarded.now_le⟩

/-! ## What a transfer lacks (R107, R108) -/

/-- Whether one of some ranges holds an offset. -/
def inRanges (l : List (Nat × Nat)) (off : Nat) : Prop := ∃ r ∈ l, r.1 ≤ off ∧ off < r.2

@[simp] theorem inRanges_nil (off : Nat) : inRanges [] off ↔ False := by simp [inRanges]

@[simp] theorem inRanges_cons (x y : Nat) (l : List (Nat × Nat)) (off : Nat) : inRanges ((x, y) :: l) off ↔ (x ≤ off ∧ off < y) ∨ inRanges l off := by
  simp [inRanges]

theorem inRanges_append (l m : List (Nat × Nat)) (off : Nat) : inRanges (l ++ m) off ↔ inRanges l off ∨ inRanges m off := by
  simp only [inRanges, List.mem_append, or_and_right, exists_or]

/-- Ranges that rise with gaps between them, none of them empty. -/
def Apart (l : List (Nat × Nat)) : Prop := (l.Pairwise fun x y => x.2 < y.1) ∧ ∀ r ∈ l, r.1 < r.2

theorem Apart.cons_iff {x y : Nat} {l : List (Nat × Nat)} : Apart ((x, y) :: l) ↔ x < y ∧ (∀ r ∈ l, y < r.1) ∧ Apart l := by
  simp only [Apart, List.pairwise_cons, List.forall_mem_cons]
  tauto

/-- What lies below every range lies in none. -/
theorem not_inRanges_of_below {l : List (Nat × Nat)} {y off : Nat} (above : ∀ r ∈ l, y < r.1) (h : off ≤ y) : ¬ inRanges l off := by
  rintro ⟨r, hr, from_, -⟩
  exact absurd (above r hr) (by omega)

/-- A bound below a range and below what is joined to it is below what comes of it. -/
theorem addRange_above {b a z : Nat} {l : List (Nat × Nat)} (ha : b < a) (above : ∀ r ∈ l, b < r.1) : ∀ r ∈ addRange a z l, b < r.1 := by
  fun_induction addRange a z l with
  | case1 => simpa using ha
  | case2 | case3 => exact above
  | case4 a z x y l _ _ ih =>
    obtain ⟨first, rest⟩ := List.forall_mem_cons.mp above
    exact List.forall_mem_cons.mpr ⟨first, ih ha rest⟩
  | case5 => exact List.forall_mem_cons.mpr ⟨ha, above⟩
  | case6 a z x y l _ _ _ ih =>
    obtain ⟨first, rest⟩ := List.forall_mem_cons.mp above
    exact ih (lt_min ha first) rest

theorem addRange_apart {a z : Nat} {l : List (Nat × Nat)} (h : Apart l) (nonempty : a < z) : Apart (addRange a z l) := by
  fun_induction addRange a z l with
  | case1 => simp [Apart, *]
  | case2 | case3 => omega
  | case4 a z x y l _ apart ih =>
    obtain ⟨order, above, rest⟩ := Apart.cons_iff.mp h
    exact Apart.cons_iff.mpr ⟨order, addRange_above apart above, ih rest nonempty⟩
  | case5 a z x y l _ _ apart =>
    obtain ⟨order, above, -⟩ := Apart.cons_iff.mp h
    exact Apart.cons_iff.mpr ⟨nonempty, List.forall_mem_cons.mpr ⟨apart, fun r hr => (apart.trans order).trans (above r hr)⟩, h⟩
  | case6 a z x y l _ _ _ ih => exact ih (Apart.cons_iff.mp h).2.2 (by omega)

/-- The joined ranges hold what the new one holds and what they held. -/
theorem inRanges_addRange {a z off : Nat} {l : List (Nat × Nat)} (h : Apart l) (nonempty : a < z) :
    inRanges (addRange a z l) off ↔ (a ≤ off ∧ off < z) ∨ inRanges l off := by
  fun_induction addRange a z l with
  | case1 => simp
  | case2 | case3 => omega
  | case4 a z x y l _ _ ih =>
    obtain ⟨-, -, rest⟩ := Apart.cons_iff.mp h
    rw [inRanges_cons, inRanges_cons, ih rest nonempty]
    tauto
  | case5 => rw [inRanges_cons]
  | case6 a z x y l _ _ _ ih =>
    obtain ⟨order, -, rest⟩ := Apart.cons_iff.mp h
    have joined : (min a x ≤ off ∧ off < max z y) ↔ (a ≤ off ∧ off < z) ∨ (x ≤ off ∧ off < y) := by omega
    rw [ih rest (by omega), inRanges_cons, joined, or_assoc]

/-- The gaps from `a` to `z` hold what no range holds. -/
theorem inRanges_gapsFrom {a z off : Nat} {l : List (Nat × Nat)} (h : Apart l) : inRanges (gapsFrom a z l) off ↔ (a ≤ off ∧ off < z) ∧ ¬ inRanges l off := by
  induction l generalizing a with
  | nil =>
    rw [gapsFrom]
    split <;> simp
    omega
  | cons r l ih =>
    obtain ⟨x, y⟩ := r
    obtain ⟨order, above, rest⟩ := Apart.cons_iff.mp h
    have first : inRanges (if a < min x z then [(a, min x z)] else []) off ↔ a ≤ off ∧ off < min x z := by
      split <;> simp
      omega
    have below : off ≤ y → ¬ inRanges l off := not_inRanges_of_below above
    rw [gapsFrom, inRanges_append, first, ih rest, inRanges_cons]
    by_cases hy : off ≤ y
    · simp only [below hy, or_false, not_false_eq_true, and_true]
      omega
    · have : ¬ (x ≤ off ∧ off < y) := by omega
      simp only [this, false_or]
      have : ¬ (a ≤ off ∧ off < min x z) := by omega
      have : (max a y ≤ off ∧ off < z) ↔ (a ≤ off ∧ off < z) := by omega
      tauto

/-- Settles O29: joining and gaps, each by induction on ranges that lie apart. -/
theorem missingIsExact : Obligations.MissingIsExact := by
  intro a z off l rising filled nonempty
  have apart : Apart l := ⟨rising, filled⟩
  obtain ⟨rising', filled'⟩ := addRange_apart apart nonempty
  refine ⟨rising', filled', inRanges_addRange apart nonempty, fun n => ?_⟩
  simpa only [inRanges, Nat.zero_le, true_and] using inRanges_gapsFrom (a := 0) (z := n) (off := off) apart

end Sys2Proof.Machine

namespace Sys2Proof.Machine

open Sys2Proof

/-! ## A packet's way through steps 1-8 (R84) -/

/-- A packet command is the reception of a packet of its opcode. -/
theorem exec_opcode {i : Instr} {t op : Nat} {p : Packet} (h : packetOf i = some (t, op, p)) (s : State) : exec i s = .next (s.packet t (opSpec op) op p) := by
  cases i
  all_goals cases h <;> rfl

/-- A packet that is heard has been counted, and is received. -/
theorem exec_heard {i : Instr} {t op : Nat} {p : Packet} {s : State} (h : packetOf i = some (t, op, p)) (runs : s.runs = true) (hears : s.hears p = true) :
    exec i s = leaves s t ((inState s t p).receive (opSpec op) op p) := by
  rw [exec_opcode h, State.packet, act_runs runs, if_pos (touch_hears hears)]
  rfl

/-- The arrival of a packet touches one counter. -/
theorem inState_eq (s : State) (t : Nat) (p : Packet) : ∃ regs, inState s t p = { s.touch t with regs := regs } := by
  unfold inState State.frameAt
  cases p.port <;> exact ⟨_, rfl⟩

theorem inState_openTo0 (s : State) (t : Nat) (p : Packet) (op : Nat) (ps : List Byte) : (inState s t p).openTo0 op ps = s.openTo0 op ps := by
  obtain ⟨_, h⟩ := inState_eq s t p
  rw [h]
  rfl

theorem inState_session (s : State) (t : Nat) (p : Packet) (id : Word) : (inState s t p).session id = s.session id := by
  obtain ⟨_, h⟩ := inState_eq s t p
  rw [h]
  rfl

section Receive

variable {s : State} {o : Option OpSpec} {op : Nat} {p : Packet}

theorem State.receive_malformed (h : p.wellFormed = false) : s.receive o op p = s.count rRxMalformed := by
  rw [State.receive, if_pos h]

variable (formed : p.wellFormed = true)
include formed

theorem State.receive_headFails {r : Rej} (head : s.headFails op p = some r) :
    s.receive o op p = if p.port = .rafter ∧ r.status = .crc then s else s.headRefuse op p r := by
  simp only [State.receive, formed, head, Bool.true_eq_false, if_false]

variable (head : s.headFails op p = none)
include head

theorem State.receive_rafter (rafter : p.port = .rafter) : s.receive o op p = s.fromManager o op p := by
  simp only [State.receive, formed, head, rafter, Bool.true_eq_false, if_false, if_true]

variable (host : p.port ≠ .rafter)
include host

theorem State.receive_session0 (zero : p.session = 0) : s.receive o op p = s.sessionless o op p := by
  simp only [State.receive, formed, head, host, zero, Bool.true_eq_false, if_false, if_true]

variable (named : p.session ≠ 0)
include named

theorem State.receive_unknown (unknown : s.session p.session = none) : s.receive o op p = s.reply op p p.isSecure false { status := .badSession } [] := by
  simp only [State.receive, formed, head, host, named, unknown, Bool.true_eq_false, if_false]

theorem State.receive_session {se : Session} (known : s.session p.session = some se) : s.receive o op p = s.inSession o op p se := by
  simp only [State.receive, formed, head, host, named, known, Bool.true_eq_false, if_false]

end Receive

theorem formPasses_iff {op t : Nat} {p : Packet} {s : State} :
    formPasses op t p s = true ↔ s.runs = true ∧ s.hears p = true ∧ p.wellFormed = true ∧ (inState s t p).headFails op p = none := by
  simp only [formPasses, Bool.and_eq_true, Option.isNone_iff_eq_none, and_assoc]

theorem headPasses_iff {op t : Nat} {p : Packet} {s : State} : headPasses op t p s = true ↔ formPasses op t p s = true ∧ p.port ≠ .rafter := by
  simp only [headPasses, Bool.and_eq_true, bne_iff_ne]

section Arrival

variable {i : Instr} {t op : Nat} {p : Packet} {s : State} (packet : packetOf i = some (t, op, p))
include packet

/-- A packet of the chain that passes steps 1-6 comes from the manager. -/
theorem exec_fromManager (passes : formPasses op t p s = true) (rafter : p.port = .rafter) :
    exec i s = leaves s t ((inState s t p).fromManager (opSpec op) op p) := by
  obtain ⟨runs, hears, formed, head⟩ := formPasses_iff.mp passes
  rw [exec_heard packet runs hears, State.receive_rafter formed head rafter]

variable (passes : headPasses op t p s = true)
include passes

theorem exec_sessionless (zero : p.session = 0) : exec i s = leaves s t ((inState s t p).sessionless (opSpec op) op p) := by
  obtain ⟨form, host⟩ := headPasses_iff.mp passes
  obtain ⟨runs, hears, formed, head⟩ := formPasses_iff.mp form
  rw [exec_heard packet runs hears, State.receive_session0 formed head host zero]

theorem exec_unknown (named : p.session ≠ 0) (unknown : s.session p.session = none) :
    exec i s = leaves s t ((inState s t p).reply op p p.isSecure false { status := .badSession } []) := by
  obtain ⟨form, host⟩ := headPasses_iff.mp passes
  obtain ⟨runs, hears, formed, head⟩ := formPasses_iff.mp form
  rw [exec_heard packet runs hears, State.receive_unknown formed head host named ((inState_session s t p _).trans unknown)]

/-- A packet of an open session reaches step 8 in it. -/
theorem exec_inSession {se : Session} (named : p.session ≠ 0) (caller : callerOf s t p = some se) :
    ∃ se0 : Session, se = se0.arrive p (inState s t p).now ∧ exec i s = leaves s t ((inState s t p).inSession (opSpec op) op p se0) := by
  obtain ⟨form, host⟩ := headPasses_iff.mp passes
  obtain ⟨runs, hears, formed, head⟩ := formPasses_iff.mp form
  obtain ⟨se0, known, arrived⟩ := Option.map_eq_some_iff.mp caller
  exact ⟨se0, arrived.symm, by rw [exec_heard packet runs hears, State.receive_session formed head host named known]⟩

end Arrival

/-- A packet that passes steps 1-8 as a new one of its sender reaches its opcode. -/
theorem exec_arrives {i : Instr} {t op : Nat} {p : Packet} {s : State} {who : Caller} (packet : packetOf i = some (t, op, p)) (arrives : arrivesNew op t p s who = true) :
    exec i s = leaves s t ((newState s t p who).dispatch (opSpec op) op p p.isSecure (who.client (inState s t p) p)) := by
  rw [exec_opcode packet, packet_arrives arrives]
  rfl

/-! ## What step 8 makes of a sequence number (R89, R90, R482) -/

section InSession

variable {s : State} {o : Option OpSpec} {op : Nat} {p : Packet} {se : Session}

theorem State.inSession_dual (h : (se.arrive p s.now).seqCase p.port p.sequence = .dual) :
    s.inSession o op p se = (s.setSession (se.arrive p s.now)).count rRxDualDropped := by
  simp only [State.inSession, h]

theorem State.inSession_stale (h : (se.arrive p s.now).seqCase p.port p.sequence = .stale) :
    s.inSession o op p se = ((s.setSession (se.arrive p s.now)).count rRxDuplicate).reply op p p.isSecure false { status := .duplicate } [] := by
  simp only [State.inSession, h]

theorem State.inSession_resend {bs : List Byte} (h : (se.arrive p s.now).seqCase p.port p.sequence = .resend bs) :
    s.inSession o op p se
      = ((s.setSession (se.arrive p s.now)).count rRxDuplicate).sendBytes ((s.setSession (se.arrive p s.now)).replyTo p (some (se.arrive p s.now))) bs := by
  simp only [State.inSession, h]

variable {d : Nat} (worker : (s.setSession (se.arrive p s.now)).forwardTo op p = some d)
include worker

theorem State.inSession_again (h : (se.arrive p s.now).seqCase p.port p.sequence = .forward) :
    s.inSession o op p se = ((s.setSession (se.arrive p s.now)).setSession ((se.arrive p s.now).again p)).forward d op p := by
  simp only [State.inSession, h, worker]

theorem State.inSession_forwards (h : (se.arrive p s.now).seqCase p.port p.sequence = .fresh) :
    s.inSession o op p se
      = (((s.setSession (se.arrive p s.now)).setSession ((se.arrive p s.now).mark p true s.now)).count rRxOk).forward d op p := by
  simp only [State.inSession, h, worker, Option.isSome_some]
  rfl

end InSession

theorem State.sessionless_closed {s : State} {o : Option OpSpec} {op : Nat} {p : Packet} (closed : s.openTo0 op p.params = false) :
    s.sessionless o op p = s.reply op p p.isSecure false { status := .badSession } [] := by
  rw [State.sessionless, if_pos closed]

theorem State.sessionless_repeated {s : State} {o : Option OpSpec} {op : Nat} {p : Packet} (opens : s.openTo0 op p.params = true) (again : s.repeats0 p = true) :
    s.sessionless o op p = (s.count rRxDuplicate).reply op p p.isSecure false { status := .duplicate } [] := by
  simp only [State.sessionless, opens, again, Bool.true_eq_false, if_false, if_true]

theorem newState_host_forwardTo (s : State) (t op : Nat) (p : Packet) : (newState s t p .host).forwardTo op p = (inState s t p).forwardTo op p := by
  simp only [newState]
  split <;> rfl

/-- A packet of session 0 for a worker is forwarded, its sequence number kept in UPDATE. -/
theorem sessionless_forwards {s : State} {t : Nat} {o : Option OpSpec} {op : Nat} {p : Packet} {d : Nat} (opens : (inState s t p).openTo0 op p.params = true)
    (once : (inState s t p).repeats0 p = false) (worker : (inState s t p).forwardTo op p = some d) :
    (inState s t p).sessionless o op p = (newState s t p .host).forward d op p := by
  rw [← newState_host_forwardTo] at worker
  simp only [newState] at worker ⊢
  simp only [State.sessionless, opens, once, worker, Bool.true_eq_false, Bool.false_eq_true, if_false]

/-- Settles O9: an opcode's row decides the meaning, and a packet for a worker leaves step 8 on the chain. -/
theorem packetsAreOpcodes : Obligations.PacketsAreOpcodes := by
  refine ⟨fun i t op p s packet => exec_opcode packet s, fun i t op p s who late o packet row run => ?runs,
    fun i t op p s se d packet passes named caller fresh worker => ?forwards, fun i t op p s d packet passes zero opens once worker => ?forwards0⟩
  case runs =>
    rw [exec_opcode packet, row, packet_executes run]
    rfl
  case forwards =>
    obtain ⟨se0, rfl, meaning⟩ := exec_inSession packet passes named caller
    rw [meaning, State.inSession_forwards worker fresh]
  case forwards0 => rw [exec_sessionless packet passes zero, sessionless_forwards opens once worker]

/-- Settles O11: a packet's form is asked first. -/
theorem malformedDiscarded : Obligations.MalformedDiscarded := by
  intro i t op p s packet runs hears malformed
  rw [exec_heard packet runs hears, State.receive_malformed malformed]

/-! ## Steps 3-6 (R84, R111) -/

section HeadFails

variable {s : State} {op : Nat} {p : Packet}

theorem State.headFails_crc (crc : crc32c (rawHead op p ++ p.tag) ≠ p.crc) : s.headFails op p = some { status := .crc } := by
  rw [State.headFails, if_pos crc]

variable (crc : crc32c (rawHead op p ++ p.tag) = p.crc)
include crc

theorem State.headFails_version (version : p.version ≠ 1) : s.headFails op p = some { status := .badVersion } := by
  rw [State.headFails, if_neg (not_not_intro crc), if_pos version]

variable (version : p.version = 1)
include version

theorem State.headFails_flags (flags : p.flags.toNat / 16 ≠ 0 ∨ p.isAlert = true ∨ 0x8000 ≤ op) : s.headFails op p = some (Rej.param 0xFFFF) := by
  rw [State.headFails, if_neg (not_not_intro crc), if_neg (not_not_intro version), if_pos flags]

theorem State.headFails_tag (reserved : p.flags.toNat / 16 = 0) (command : p.isAlert = false) (request : op < 0x8000) (secure : p.isSecure = true)
    (tag : s.tagOk op p = false) : s.headFails op p = some { status := .authFail } := by
  have flags : ¬ (p.flags.toNat / 16 ≠ 0 ∨ p.isAlert = true ∨ 0x8000 ≤ op) := by simp [reserved, command, request]
  rw [State.headFails, if_neg (not_not_intro crc), if_neg (not_not_intro version), if_neg flags, if_pos ⟨secure, tag⟩]

end HeadFails

theorem inState_tagOk (s : State) (t : Nat) (p : Packet) (op : Nat) : (inState s t p).tagOk op p = s.tagOk op p := by
  obtain ⟨_, h⟩ := inState_eq s t p
  rw [h]
  rfl

/-- A packet that fails steps 4-6 is refused at every port. -/
theorem exec_headRefuse {i : Instr} {t op : Nat} {p : Packet} {s : State} {r : Rej} (packet : packetOf i = some (t, op, p)) (runs : s.runs = true) (hears : s.hears p = true)
    (formed : p.wellFormed = true) (head : (inState s t p).headFails op p = some r) (other : r.status ≠ .crc) :
    exec i s = leaves s t ((inState s t p).headRefuse op p r) := by
  rw [exec_heard packet runs hears, State.receive_headFails formed head, if_neg fun h => other h.2]

/-- Settles O13: steps 4-6 are asked in their order. -/
theorem headAnswered : Obligations.HeadAnswered := by
  intro i t op p s packet runs hears formed crc
  have refuse {r : Rej} (head : (inState s t p).headFails op p = some r) (other : r.status ≠ .crc) := exec_headRefuse packet runs hears formed head other
  refine ⟨fun version => ?_, fun version flags => ?_, fun version reserved command request secure tag => ?_⟩
  · exact refuse (State.headFails_version crc version) nofun
  · exact refuse (State.headFails_flags crc version flags) nofun
  · exact refuse (State.headFails_tag crc version reserved command request secure ((inState_tagOk s t p op).trans tag)) nofun

/-- Settles O14: session 0 is asked for the opcode, every other one for an open session. -/
theorem sessionMissing : Obligations.SessionMissing := by
  intro i t op p s packet passes missing
  split at missing
  next zero => rw [exec_sessionless packet passes zero, State.sessionless_closed ((inState_openTo0 s t p op _).trans missing)]
  next named => exact exec_unknown packet passes named missing

/-- Settles O16: step 8 finds the number stale, the second of a dual pair, or not above that of session 0. -/
theorem staleAndDual : Obligations.StaleAndDual := by
  refine ⟨fun i t op p s se packet passes named caller => ?_, fun i t op p s packet passes zero opens again => ?_⟩
  · obtain ⟨se0, rfl, meaning⟩ := exec_inSession packet passes named caller
    exact ⟨fun stale => by rw [meaning, State.inSession_stale stale], fun dual => by rw [meaning, State.inSession_dual dual]⟩
  · rw [exec_sessionless packet passes zero, State.sessionless_repeated opens again]

/-- Settles O17: step 9 finds no row. -/
theorem unknownOpcode : Obligations.UnknownOpcode := by
  intro opcode t p s who none_ arrives
  rw [exec_arrives rfl arrives, none_]
  rfl

end Sys2Proof.Machine

namespace Sys2Proof

open Sys2Proof.Machine

/-! ## What stands while the block reports -/

theorem machineStands.refl (s : State) : machineStands s s := rfl

section MachineStands

variable {s u v : State}

theorem machineStands.trans (h : machineStands s u) (h' : machineStands u v) : machineStands s v := Eq.trans h' h

theorem machineStands.ite {c : Prop} [Decidable c] (hu : machineStands s u) (hv : machineStands s v) : machineStands s (if c then u else v) := by
  split
  · exact hu
  · exact hv

theorem machineStands.reported (h : machineStands s u) (reported : Reported u v) : machineStands s v := by
  obtain ⟨_, _, _, _, _, _, _, rfl, -, -, -⟩ := reported
  exact h

variable (h : machineStands s u)
include h

theorem machineStands.foldl {α : Type} {f : State → α → State} (step : ∀ v x, machineStands s v → machineStands s (f v x)) (l : List α) : machineStands s (l.foldl f u) :=
  List.foldlRecOn l f h fun v hv x _ => step v x hv

theorem machineStands.ue : u.ue = s.ue := (congrArg (·.ue) (show machineOf u = machineOf s from h) :)

theorem machineStands.held : u.held = s.held := (congrArg (·.held) (show machineOf u = machineOf s from h) :)

theorem machineStands.count (a : Nat) : machineStands s (u.count a) := h

theorem machineStands.front (f : Front) : machineStands s { u with front := f } := h

theorem machineStands.setSession (se : Session) : machineStands s (u.setSession se) := h

theorem machineStands.tally (t : Tally) : machineStands s { u with tally := t } := h

theorem machineStands.draws (n : Nat) : machineStands s { u with draws := n } := h

theorem machineStands.seq0 (q : Option Word) : machineStands s { u with sec := { u.sec with seq0 := q } } := h

end MachineStands

end Sys2Proof

namespace Sys2Proof.Machine

open Sys2Proof

/-- `u` is `s` after packets have left: the machine stands, and so do the recorder and the sessions. -/
def Sent (s u : State) : Prop := machineStands s u ∧ u.tally = s.tally ∧ u.front.sessions = s.front.sessions

theorem Sent.refl (s : State) : Sent s s := ⟨rfl, rfl, rfl⟩

theorem Sent.trans {s u v : State} (h : Sent s u) (h' : Sent u v) : Sent s v := by
  obtain ⟨machine, tally, sessions⟩ := h
  obtain ⟨machine', tally', sessions'⟩ := h'
  exact ⟨machine.trans machine', tally'.trans tally, sessions'.trans sessions⟩

theorem Sent.foldl {α : Type} {f : State → α → State} (h : ∀ s x, Sent s (f s x)) (l : List α) (s : State) : Sent s (l.foldl f s) :=
  List.foldlRecOn l f (.refl s) fun u hu x _ => hu.trans (h u x)

theorem Sent.ite {s u v : State} {c : Prop} [Decidable c] (hu : Sent s u) (hv : Sent s v) : Sent s (if c then u else v) := by
  split
  · exact hu
  · exact hv

theorem Sent.count (s : State) (a : Nat) : Sent s (s.count a) := ⟨rfl, rfl, rfl⟩

theorem Sent.sendFrom (s : State) (p : RPort) (type src dst flags : Nat) (payload : List Byte) : Sent s (s.sendFrom p type src dst flags payload) := by
  cases p <;> exact .ite ⟨rfl, rfl, rfl⟩ (.refl s)

theorem Sent.sendTirril (s : State) (p : RPort) (dst : Nat) (bs : List Byte) : Sent s (s.sendTirril p dst bs) :=
  .foldl (fun st _ => .sendFrom st p 0x30 st.chain.index dst _ _) _ s

theorem Sent.sendAt (s : State) (port : Port) (dest : HostAddr) (bs : List Byte) : Sent s (s.sendAt port dest bs) := by
  cases port with
  | spi | eth0 | eth1 => exact ⟨rfl, rfl, rfl⟩
  | rafter => exact .sendTirril s .up 0 bs

theorem Sent.sendBytes (s : State) (ds : List (Port × HostAddr)) (bs : List Byte) : Sent s (s.sendBytes ds bs) :=
  .foldl (f := fun st (d : Port × HostAddr) => (st.sendAt d.1 d.2 bs).count rTxReplies) (fun st d => (Sent.sendAt st d.1 d.2 bs).trans (.count _ _)) ds s

/-- A reply that is not kept leaves the sessions as they are. -/
theorem Sent.reply (s : State) (op : Nat) (p : Packet) (secure : Bool) (r : Rej) (body : List Byte) : Sent s (s.reply op p secure false r body) := by
  unfold State.reply
  simp only [Bool.false_eq_true, false_and, and_false, if_false]
  split <;> exact .sendBytes s _ _

theorem Sent.inState (s : State) (t : Nat) (p : Packet) : Sent s (inState s t p) := by
  obtain ⟨_, h⟩ := inState_eq s t p
  rw [h]
  exact ⟨rfl, rfl, rfl⟩

/-- What leaves a command is what its effect left. -/
theorem Sent.of_leaves {s u v : State} {t : Nat} (h : Sent s v) (answer : leaves s t v = .next u) : Sent s u := by
  obtain rfl := Host.Outcome.next.inj answer
  exact h

/-- Settles O12: the reply goes to the packet's own port, and the sessions are not asked. -/
theorem crcAnswered : Obligations.CrcAnswered := by
  intro i t op p s packet runs hears formed crc
  have meaning := (exec_heard packet runs hears).trans (congrArg (leaves s t) (State.receive_headFails formed (State.headFails_crc crc)))
  by_cases rafter : p.port = .rafter
  · rw [if_pos ⟨rafter, rfl⟩] at meaning
    exact ⟨fun host => absurd rafter host, fun _ => meaning, fun u answer => by
      obtain ⟨machine, tally, sessions⟩ := (Sent.inState s t p).of_leaves (meaning ▸ answer)
      exact ⟨sessions, machine, tally⟩⟩
  · rw [if_neg fun h => rafter h.1] at meaning
    exact ⟨fun _ => meaning, fun h => absurd h rafter, fun u answer => by
      obtain ⟨machine, tally, sessions⟩ := (((Sent.inState s t p).trans (.count _ rRxCrc)).trans (.reply _ op p false _ [])).of_leaves (meaning ▸ answer)
      exact ⟨sessions, machine, tally⟩⟩

theorem State.fromManager_again {s : State} {o : Option OpSpec} {op : Nat} {p : Packet} {x : Word × Word × List Byte}
    (kept : s.front.replied.find? (fun x => x.1 == p.session && x.2.1 == p.sequence) = some x) : s.fromManager o op p = s.sendBytes [(p.port, p.origin)] x.2.2 := by
  simp only [State.fromManager, kept]

/-- Settles O15: the kept bytes are sent, and sending changes the counters of the ports alone. -/
theorem repeatedIsResent : Obligations.RepeatedIsResent := by
  refine ⟨fun i t op p s se bs packet passes named caller again => ?session, fun i t op p s x packet passes rafter kept => ?worker,
    fun i t op p s se d packet passes named caller again worker => ?manager⟩
  case session =>
    obtain ⟨se0, rfl, meaning⟩ := exec_inSession packet passes named caller
    rw [State.inSession_resend again] at meaning
    refine ⟨meaning, fun u answer => ?_⟩
    obtain ⟨arrived, recorder, -⟩ := Sent.inState s t p
    obtain ⟨machine, tally, -⟩ := Sent.sendBytes (((inState s t p).setSession (se0.arrive p (inState s t p).now)).count rRxDuplicate)
      (((inState s t p).setSession (se0.arrive p (inState s t p).now)).replyTo p (some (se0.arrive p (inState s t p).now))) bs
    obtain rfl := Host.Outcome.next.inj (meaning.symm.trans answer)
    exact ⟨arrived.trans machine, tally.trans recorder⟩
  case worker => rw [exec_fromManager packet passes rafter, State.fromManager_again kept, rafter]
  case manager =>
    obtain ⟨se0, rfl, meaning⟩ := exec_inSession packet passes named caller
    rw [meaning, State.inSession_again worker again]

/-! ## Steps 10-16 (R84, R91, R94) -/

theorem OpSpec.perform_refuse {o : OpSpec} {s : State} {op : Nat} {p : Packet} {sec : Bool} {cl : Word} {r : Rej} {a : Option Nat}
    (h : o.judge (s.clocked op) op p sec cl = .refuse r a) : o.perform s op p sec cl = (o.refused s r).rejectCmd op p sec r a := by
  simp only [OpSpec.perform, h]

/-- Settles O18: the verdict of steps 10-16 decides, and the waiting writes of a gated block go on waiting. -/
theorem refusedAnswered : Obligations.RefusedAnswered := by
  intro i t op p s who o r a packet row arrives refused
  rw [exec_arrives packet arrives, row]
  exact congrArg (leaves s t) (OpSpec.perform_refuse refused)

/-- A command that is accepted for later is the command that its checks saw, and its time can be reached and is not too far. -/
theorem judge_later {o : OpSpec} {s : State} {op : Nat} {p : Packet} {sec : Bool} {cl : Word} {c : Ctx} {due skipped : Nat}
    (h : o.judge s op p sec cl = .later c due skipped) :
    c = o.ctx s op p sec cl ∧ due = p.due ∧ o.ahead s p = true ∧ ¬ (p.hasAt = true ∧ s.firstAt p + 3600 * second < p.due) := by
  unfold OpSpec.judge at h
  simp only at h
  repeat' split at h
  all_goals cases h
  all_goals exact ⟨rfl, rfl, by assumption, by assumption⟩

theorem OpSpec.ahead_iff {o : OpSpec} {s : State} {p : Packet} : o.ahead s p = true ↔ p.hasAt = true ∧ s.firstAt p + o.lead s ≤ p.due := by
  rw [OpSpec.ahead, Bool.and_eq_true, decide_eq_true_eq]

theorem OpSpec.perform_later {o : OpSpec} {s : State} {op : Nat} {p : Packet} {sec : Bool} {cl : Word} {c : Ctx} {due skipped : Nat}
    (h : o.judge (s.clocked op) op p sec cl = .later c due skipped) :
    o.perform s op p sec cl
      = (o.accept (s.onFront fun f => { f with sched := f.sched ++ [⟨due, op, p, sec, cl⟩] }) c).reply op p sec true { status := .ok, value := skipped } [] := by
  obtain ⟨rfl, -⟩ := judge_later h
  simp only [OpSpec.perform, h]
  rfl

/-- Settles O19: acceptance for later asks that the time can be reached and is not too far, and appends to the schedule. -/
theorem scheduledIsKept : Obligations.ScheduledIsKept := by
  intro i t op p s who o c due skipped packet row arrives later
  obtain ⟨-, rfl, ahead, near⟩ := judge_later later
  obtain ⟨hasAt, first⟩ := OpSpec.ahead_iff.mp ahead
  refine ⟨rfl, hasAt, first, Nat.le_of_not_lt fun far => near ⟨hasAt, far⟩, ?_⟩
  rw [exec_arrives packet arrives, row]
  exact congrArg (leaves s t) (OpSpec.perform_later later)

section Judge

variable {o : OpSpec} {s : State} {op : Nat} {p : Packet} {sec : Bool} {client : Word}

theorem judge_world {a : Nat} (h : o.world s (o.ctx s op p sec client) = some a) : o.judge s op p sec client = .refuse { status := .denied } (some a) := by
  simp only [OpSpec.judge, h, Option.isSome_some, if_true]

variable (world : o.world s (o.ctx s op p sec client) = none) (other : s.mode.mode ≠ .update) (atOnce : p.hasAt = false)
include world other atOnce

theorem judge_mode {k : Nat} (h : o.mode s (o.ctx s op p sec client) s.mode.mode = some k) : o.judge s op p sec client = .refuse (Rej.mode k) none := by
  simp [OpSpec.judge, OpSpec.ahead, atOnce, world, other, h]

variable (mode : o.mode s (o.ctx s op p sec client) s.mode.mode = none)
include mode

theorem judge_path {r : Rej} (h : s.resolve o.path p = .error r) : o.judge s op p sec client = .refuse r none := by
  simp [OpSpec.judge, OpSpec.ahead, atOnce, world, other, mode, h]

theorem judge_params {x : Target × List Nat} (path : s.resolve o.path p = .ok x) {k : Nat} (h : o.params s (o.ctx s op p sec client) = some k) :
    o.judge s op p sec client = .refuse (Rej.param k) none := by
  simp [OpSpec.judge, OpSpec.ahead, atOnce, world, other, mode, path, h]

end Judge

/-- Settles O20: each step is asked when those before it pass. -/
theorem stepsInOrder : Obligations.StepsInOrder := by
  intro o s op p sec client atOnce
  exact ⟨fun a => judge_world, fun world other k => judge_mode world other atOnce, fun world other mode r => judge_path world other atOnce mode,
    fun world other mode x path k => judge_params world other atOnce mode path⟩

end Sys2Proof.Machine

namespace Sys2Proof.Machine

open Sys2Proof

/-! ## Group 0x00: sessions, alerts and the schedule (R87, R88, R94, R98, R100) -/

/-- The session that SESSION_OPEN opens in a slot (R87). -/
def State.opened (s : State) (c : Ctx) (k : Fin 8) : Session :=
  { slot := k, id := freshId (s.front.sessions.map (·.id)) (Config.freeNat s.draws) 8, client := leWord c.params 0, dual := (byteAt c.params 4).testBit 0
    jumbo := (byteAt c.params 4).testBit 1, timeout := if leAt c.params 6 2 = 0 then 10 else leAt c.params 6 2, highest := none, seen := [], alertMask := 0xFFFF, alertSeq := 1
    alerts := [], lostNow := 0, addr0 := none, addr1 := none, lastPort := c.p.port, lastAddr := c.p.origin, lastAt := s.now }

theorem opSessionOpen_effect {s : State} {c : Ctx} {k : Fin 8} (h : s.freeSlot = some k) :
    opSessionOpen.effect s c
      = { st := ({ s with draws := s.draws + 1, front := { s.front with sessions := s.front.sessions ++ [s.opened c k] } } : State).toWorkers ctlSession
            ((s.opened c k).notice true)
          body := leBytes 4 (s.opened c k).id.toNat ++ timeBytes s.now, audit := some (.params c.params) } := by
  simp only [OpSpec.effect, opSessionOpen, h]
  rfl

theorem opAlertMask_effect {s : State} {c : Ctx} {se : Session} (h : s.session c.p.session = some se) :
    opAlertMask.effect s c = c.done (s.setSession { se with alertMask := BitVec.ofNat 16 (leAt c.params 0 2) }) := by
  simp only [OpSpec.effect, opAlertMask, h]

theorem opAlertMask_none {s : State} {c : Ctx} (h : s.session c.p.session = none) : opAlertMask.effect s c = c.done s := by
  simp only [OpSpec.effect, opAlertMask, h]

theorem opAlertAck_effect {s : State} {c : Ctx} {se : Session} (h : s.session c.p.session = some se) :
    opAlertAck.effect s c = c.done ((s.setSession { se with alerts := se.alerts.filter fun a => decide (leAt c.params 0 4 < a.seq) }).alertLost se.slot) := by
  simp only [OpSpec.effect, opAlertAck, h]

theorem opAlertAck_none {s : State} {c : Ctx} (h : s.session c.p.session = none) : opAlertAck.effect s c = c.done s := by
  simp only [OpSpec.effect, opAlertAck, h]

theorem opScheduleCancel_effect {s : State} {c : Ctx} {e : Sched} (h : s.cancelled c = some e) : opScheduleCancel.effect s c = c.done (s.abortSched e) := by
  simp only [OpSpec.effect, opScheduleCancel, h]

/-- Settles O24: each opcode's `run`, with the slot, the session or the pending command known. -/
theorem sessionCommands : Obligations.SessionCommands := by
  refine ⟨fun k => ?opens, ?closes, fun se => ?mask, fun se => ?ack, ?noMask, ?noAck, fun e => ?cancel⟩
  case opens => exact givesIf_done (fun _ _ _ => rfl) (fun _ _ h => opSessionOpen_effect h)
  case closes => exact givesThen_done (fun _ _ _ => rfl) (fun _ _ => rfl) (fun _ _ => rfl)
  case mask => exact givesIf_done (fun _ _ _ => rfl) (fun _ _ h => opAlertMask_effect h)
  case ack => exact givesIf_done (fun _ _ _ => rfl) (fun _ _ h => opAlertAck_effect h)
  case noMask => exact givesIf_done (fun _ _ _ => rfl) (fun _ _ h => opAlertMask_none h)
  case noAck => exact givesIf_done (fun _ _ _ => rfl) (fun _ _ h => opAlertAck_none h)
  case cancel => exact givesIf_done (fun _ _ _ => rfl) (fun _ _ h => opScheduleCancel_effect h)

/-! ## Group 0x01: registers (R102-R105, R378) -/

/-- Settles O27: the reads share `readRegs`; the writes share `writeOp`, whose writes of an Ethernet port wait for the reply. -/
theorem registerCommands : Obligations.RegisterCommands := by
  unfold Obligations.RegisterCommands
  intro first last
  refine ⟨?read, ?readList, ?write, ?writeList, ?modify⟩
  case read => exact gives_done (fun _ _ _ => rfl) (fun _ _ => rfl)
  case readList => exact gives_done (fun _ _ _ => rfl) (fun _ _ => rfl)
  case write => exact givesThen_done (fun _ _ _ => rfl) (fun _ _ => rfl) (fun _ _ => rfl)
  case writeList => exact givesThen_done (fun _ _ _ => rfl) (fun _ _ => rfl) (fun _ _ => rfl)
  case modify => exact givesThen_done (fun _ _ _ => rfl) (fun _ _ => rfl) (fun _ _ => rfl)

/-! ## Group 0x02: bulk transfers (R106-R109, R527) -/

/-- An opcode whose execution is `f` where `cond` holds, and answers neither OK nor DENIED. -/
theorem givesIf_undone {o : OpSpec} {op : Nat} {i : Nat → Packet → Instr} {cond : State → Ctx → Prop} {f : State → Ctx → Res}
    (he : ∀ t p s, exec (i t p) s = .next (s.packet t (some o) op p)) (hx : ∀ u c, cond u c → o.effect u c = f u c)
    (undone : ∀ u c, (f u c).status.done = false := by intros; rfl) (granted : ∀ u c, (f u c).status ≠ .denied := by exact fun _ _ => nofun)
    (silent : ∀ u c, (f u c).audit = none := by intros; rfl) : GivesIf o op i cond f :=
  givesIf he hx fun _ _ _ u c => finish_undone (undone u c) (granted u c) (silent u c)

theorem opBulkData_effect {s : State} {c : Ctx} {x : Transfer} (h : s.named c = some x) :
    opBulkData.effect s c
      = { st := (s.bulkWrite x.kind (x.offset + leAt c.params 4 4) (c.params.drop 8)).setTransfer
            { x with got := addRange (leAt c.params 4 4) (leAt c.params 4 4 + (c.params.drop 8).length) x.got, lastAt := s.now } } := by
  simp only [OpSpec.effect, opBulkData, h]

/-- The state after the data of a transfer has been read for its CRC, with the errors that the read meets (R527). -/
def State.closeRead (s : State) (x : Transfer) : State :=
  s.memMet (if x.kind = 1 ∨ x.kind = 2 then s.ueIn ((s.bulkArea x.kind).1 + x.offset) x.length else [])

theorem opBulkClose_missing {s : State} {c : Ctx} {x : Transfer} {g : Nat × Nat} {l : List (Nat × Nat)} (h : s.named c = some x) (missing : x.missing = g :: l) :
    opBulkClose.effect s c = { st := s.setTransfer { x with lastAt := s.now }, status := .incomplete, value := g.1 } := by
  simp only [OpSpec.effect, opBulkClose, h, missing]
  rfl

theorem opBulkClose_crc {s : State} {c : Ctx} {x : Transfer} (h : s.named c = some x) (whole : x.missing = []) (crc : crc32c (s.bulkRead x.kind x.offset x.length) ≠ x.crc) :
    opBulkClose.effect s c = { st := (s.closeRead x).setTransfer { x with lastAt := (s.closeRead x).now }, status := .crc } := by
  simp only [OpSpec.effect, opBulkClose, h, whole, beq_eq_false_iff_ne.mpr crc, if_true]
  rfl

theorem opBulkClose_valid {s : State} {c : Ctx} {x : Transfer} (h : s.named c = some x) (whole : x.missing = []) (crc : crc32c (s.bulkRead x.kind x.offset x.length) = x.crc) :
    opBulkClose.effect s c = { st := (s.closeRead x).xferDone x, audit := some (.bulk x.kind x.offset x.length x.crc) } := by
  simp only [OpSpec.effect, opBulkClose, h, whole, beq_iff_eq.mpr crc, Bool.true_eq_false, if_false]
  rfl

theorem opBulkAbort_effect {s : State} {c : Ctx} {x : Transfer} (h : s.named c = some x) : opBulkAbort.effect s c = { st := s.dropXfer x } := by
  simp only [OpSpec.effect, opBulkAbort, h]

theorem opBulkStatus_effect {s : State} {c : Ctx} {x : Transfer} (h : s.named c = some x) :
    opBulkStatus.effect s c
      = { st := s.xferSeen x
          body := leBytes 2 (min x.missing.length 64) ++ leBytes 1 (bit (decide (64 < x.missing.length))) ++ leBytes 1 0
            ++ (x.missing.take 64).flatMap fun g => leBytes 4 g.1 ++ leBytes 4 (g.2 - g.1) } := by
  simp only [OpSpec.effect, opBulkStatus, h]

/-- Settles O28: with the transfer known, each opcode's `run`; BULK_CLOSE asks for what is missing, then for the CRC. -/
theorem bulkCommands : Obligations.BulkCommands := by
  unfold Obligations.BulkCommands
  intro met
  refine ⟨?opens, fun x => ?data, fun x g l => ?missing, fun x => ?crc, fun x => ?valid, fun x => ?abort, fun x => ?status, ?read⟩
  case opens => exact gives_done (fun _ _ _ => rfl) (fun _ _ => rfl)
  case data => exact givesIf_done (fun _ _ _ => rfl) (fun _ _ h => opBulkData_effect h)
  case missing => exact givesIf_undone (fun _ _ _ => rfl) (fun _ _ ⟨h, missing⟩ => opBulkClose_missing h missing)
  case crc => exact givesIf_undone (fun _ _ _ => rfl) (fun _ _ ⟨h, whole, crc⟩ => opBulkClose_crc h whole crc)
  case valid => exact givesIf_done (fun _ _ _ => rfl) (fun _ _ ⟨h, whole, crc⟩ => opBulkClose_valid h whole crc)
  case abort => exact givesIf_done (fun _ _ _ => rfl) (fun _ _ h => opBulkAbort_effect h)
  case status => exact givesIf_done (fun _ _ _ => rfl) (fun _ _ h => opBulkStatus_effect h)
  case read => exact gives_done (fun _ _ _ => rfl) (fun _ _ => rfl)

end Sys2Proof.Machine

namespace Sys2Proof

open Sys2Proof.Machine

/-! ## The parts of a packet's way that leave the machine standing -/

section MachineStands

variable {s u : State} (h : machineStands s u)
include h

theorem machineStands.sendBytes (ds : List (Port × HostAddr)) (bs : List Byte) : machineStands s (u.sendBytes ds bs) := h.trans (Sent.sendBytes u ds bs).1

theorem machineStands.reply (op : Nat) (p : Packet) (secure kept : Bool) (r : Rej) (body : List Byte) : machineStands s (u.reply op p secure kept r body) := by
  unfold State.reply
  extract_lets rep bs se v
  have sent : machineStands s v := h.sendBytes _ _
  clear_value se
  cases se with
  | some x => exact (sent.setSession _).ite sent
  | none => exact .ite (sent.front _) sent

theorem machineStands.denied (op : Nat) (p : Packet) (secure : Bool) (addr : Nat) : machineStands s (u.denied op p secure addr) :=
  (h.count rRxDenied).reported (.note _ _ _ _ _ _)

theorem machineStands.auditCmd (op : Nat) (p : Packet) (secure : Bool) (client : Word) (scheduled : Bool) (d : Option Detail) :
    machineStands s (u.auditCmd op p secure client scheduled d) := by
  cases d with
  | none => exact h
  | some d => exact h.foldl (fun _ _ hv => hv.reported (.tallyNew _ _ _)) _

/-- A rejection that is no refused move changes what reporting changes. -/
theorem machineStands.rejectCmd {op : Nat} (quiet : setsRefuse op = false) (p : Packet) (secure : Bool) (r : Rej) (addr : Option Nat) :
    machineStands s (u.rejectCmd op p secure r addr) := by
  simp only [State.rejectCmd, quiet, Bool.and_false, Bool.false_eq_true, if_false]
  refine machineStands.reply ?_ op p secure true r []
  split
  · exact h.denied _ _ _ _
  · exact (h.denied _ _ _ _).ite h

theorem machineStands.headRefuse (op : Nat) (p : Packet) (r : Rej) : machineStands s (u.headRefuse op p r) := by
  unfold State.headRefuse
  extract_lets v
  have counted : machineStands s v := (h.count _).ite (((h.count _).reported (.note _ _ _ _ _ _)).ite h)
  exact counted.reply _ _ _ _ _ _

theorem machineStands.nextSeq (p : RPort) (type : Nat) : machineStands s (u.nextSeq p type).2 := by
  cases p <;> exact h

theorem machineStands.onRport (p : RPort) (f : Rafter → Rafter) : machineStands s (u.onRport p f) := by
  cases p <;> exact h

theorem machineStands.emitRafter (p : RPort) (type : Nat) (m : Msg) : machineStands s (u.emitRafter p type m) := h

theorem machineStands.controlFrom (p : RPort) (src dst : Nat) (payload : List Byte) : machineStands s (u.controlFrom p src dst payload) := by
  unfold State.controlFrom
  extract_lets q m closed v
  have queued : machineStands s v := (h.nextSeq p 0x20).onRport _ _
  exact (queued.emitRafter _ _ _).ite queued

theorem machineStands.sendControl (p : RPort) (code dst : Nat) (body : List Byte) : machineStands s (u.sendControl p code dst body) := h.controlFrom _ _ _ _

theorem machineStands.toWorkers (code : Nat) (body : List Byte) : machineStands s (u.toWorkers code body) :=
  (h.foldl (fun _ _ hv => hv.sendControl _ _ _ _) _).ite h

theorem machineStands.forward (d op : Nat) (p : Packet) : machineStands s (u.forward d op p) := by
  unfold State.forward
  extract_lets _ v w
  have asked : machineStands s v := (h.front _).ite h
  exact (asked.sendControl _ _ _ _).trans (Sent.sendTirril _ _ _ _).1

theorem machineStands.frameAt (port : Port) : machineStands s (u.frameAt port) := by
  cases port <;> exact h

theorem machineStands.frameLost (port : Port) : machineStands s (u.frameLost port) := by
  cases port <;> exact h

end MachineStands

end Sys2Proof

namespace Sys2Proof.Machine

open Sys2Proof

/-! ## Opcodes that leave the machine standing -/

/-- From a state with the machine of `s`, nothing that an opcode does changes the machine: neither the start of its block's clock, nor its effect on the device or on a leaf,
nor what comes with its acceptance, its refusal and its reply. -/
structure OpSpec.Stands (o : OpSpec) (op : Nat) (s : State) : Prop where
  clocked : ∀ u, machineStands s u → machineStands s (u.clocked op) := by exact fun _ h => h
  run : ∀ u c, machineStands s u → machineStands s (o.run u c).st := by exact fun _ _ h => h
  leafRun : ∀ u c l, machineStands s u → machineStands s (o.leafRun u c l).1 := by exact fun _ _ _ h => h
  accept : ∀ u c, machineStands s u → machineStands s (o.accept u c) := by exact fun _ _ h => h
  refused : ∀ u r, machineStands s u → machineStands s (o.refused u r) := by exact fun _ _ h => h
  after : ∀ u c, machineStands s u → machineStands s (o.after u c) := by exact fun _ _ h => h
  quiet : setsRefuse op = false := by rfl

section Stands

variable {o : OpSpec} {op : Nat} {s u : State} (h : o.Stands op s) (hu : machineStands s u)
include h hu

theorem OpSpec.Stands.effect (c : Ctx) : machineStands s (o.effect u c).st := by
  unfold OpSpec.effect
  split
  · exact List.foldlRecOn (motive := fun (q : State × List Byte) => machineStands s q.1) _ _ hu fun q hq x _ => h.leafRun q.1 c x.2 hq
  · exact h.run u c hu

theorem OpSpec.Stands.perform (p : Packet) (sec : Bool) (cl : Word) : machineStands s (o.perform u op p sec cl) := by
  unfold OpSpec.perform
  extract_lets v
  split
  next r a _ => exact (h.refused u r hu).rejectCmd h.quiet _ _ _ _
  next c due skipped _ => exact (h.accept _ c (hu.front _)).reply _ _ _ _ _ _
  next c late _ =>
    have clocked : machineStands s v := h.clocked u hu
    unfold OpSpec.finish
    extract_lets status value audited noted answer
    have haudited : machineStands s audited := ((h.effect clocked c).auditCmd _ _ _ _ _ _).ite (h.effect clocked c)
    have hnoted : machineStands s noted := (haudited.denied _ _ _ _).ite haudited
    have hanswer : machineStands s answer := hnoted.reply _ _ _ _ _ _
    exact (h.after answer c hanswer).ite hanswer

theorem OpSpec.Stands.fromManager (p : Packet) : machineStands s (u.fromManager (some o) op p) := by
  unfold State.fromManager
  split
  · exact hu.sendBytes _ _
  · exact h.perform hu p _ _

theorem OpSpec.Stands.sessionless (p : Packet) : machineStands s (u.sessionless (some o) op p) := by
  unfold State.sessionless
  extract_lets _ v w
  have kept : machineStands s v := (hu.seq0 _).ite hu
  have counted : machineStands s w := kept.count _
  refine (hu.reply _ _ _ _ _ _).ite (((hu.count _).reply _ _ _ _ _ _).ite ?_)
  split
  · exact counted.forward _ _ _
  · exact h.perform counted p _ _

theorem OpSpec.Stands.inSession (p : Packet) (se : Session) : machineStands s (u.inSession (some o) op p se) := by
  unfold State.inSession
  extract_lets arrived v to_ w
  have learned : machineStands s v := hu.setSession _
  have counted : machineStands s w := (learned.setSession _).count _
  split
  · exact learned.count _
  · exact (learned.count _).sendBytes _ _
  · exact (learned.count _).reply _ _ _ _ _ _
  · split
    · exact (learned.setSession _).forward _ _ _
    · exact learned
  · clear_value to_
    cases to_ with
    | some d => exact counted.forward _ _ _
    | none => exact h.perform counted p _ _

theorem OpSpec.Stands.receive (p : Packet) : machineStands s (u.receive (some o) op p) := by
  unfold State.receive
  refine (hu.count _).ite ?_
  split
  · exact hu.ite (hu.headRefuse _ _ _)
  · refine (h.fromManager hu p).ite ((h.sessionless hu p).ite ?_)
    split
    · exact hu.reply _ _ _ _ _ _
    · exact h.inSession hu p _

end Stands

theorem OpSpec.Stands.packet {o : OpSpec} {op : Nat} {s : State} (h : o.Stands op s) (t : Nat) (p : Packet) : machineStands s (s.packet t (some o) op p) := by
  have touched : machineStands s (s.touch t) := machineStands.refl s
  have heard := h.receive (touched.frameAt p.port) p
  have effect := heard.ite (c := (s.touch t).hears p = true)
    (touched.ite (c := (s.touch t).takes p.port = false)
      ((touched.frameAt p.port).ite (c := (s.touch t).fits p.port (packetSize p) = true) (touched.frameLost p.port)))
  exact .ite (c := (s.touch t).runs = true) effect touched

/-- A packet command whose opcode leaves the machine standing. -/
def StandsAt (s : State) (i : Nat → Packet → Instr) : Prop := ∃ o op, (∀ t p, exec (i t p) s = .next (s.packet t (some o) op p)) ∧ o.Stands op s

theorem StandsAt.machine {s u : State} {i : Nat → Packet → Instr} (h : StandsAt s i) {t : Nat} {p : Packet} (answer : exec (i t p) s = .next u) : machineStands s u := by
  obtain ⟨o, op, meaning, stands⟩ := h
  obtain rfl := Host.Outcome.next.inj ((meaning t p).symm.trans answer)
  exact stands.packet t p

/-! ## What each reading or bookkeeping opcode does to the machine -/

section Runs

variable {s u : State} (h : machineStands s u) (c : Ctx)
include h

theorem opSessionOpen_stands : machineStands s (opSessionOpen.run u c).st := by
  simp only [opSessionOpen]
  split
  · exact h
  · exact ((h.draws _).front _).toWorkers _ _

theorem abortTransfer_stands (x : Transfer) (reason : Nat) : machineStands s (u.abortTransfer x reason) :=
  (h.front _).reported (.raise _ _ _ _ _ _)

theorem closeSession_stands (id : Word) : machineStands s (u.closeSession id) := by
  unfold State.closeSession
  extract_lets gone _ v w
  have closed : machineStands s v := h.front _
  have told : machineStands s w := closed.foldl (fun _ _ hv => hv.toWorkers _ _) _
  exact told.foldl (fun _ x hv => abortTransfer_stands hv x 2) _

theorem alertLost_stands (slot : Fin 8) : machineStands s (u.alertLost slot) := by
  unfold State.alertLost
  split
  · exact h
  · exact h.ite ((h.setSession _).reported ((Reported.tallyEvent _ _ _ _ _ _).trans (.queueAlert _ _ _ _ _ _ _ _)))

theorem execResult_stands (session seq : Word) (levels : List Nat) (st : Status) (late : Nat) : machineStands s (u.execResult session seq levels st late) :=
  (h.reported (.raise _ _ _ _ _ _)).ite (h.reported (.note _ _ _ _ _ _))

theorem abortSched_stands (e : Sched) : machineStands s (u.abortSched e) := by
  unfold State.abortSched
  extract_lets v
  have told : machineStands s v := (h.toWorkers _ _).ite h
  exact execResult_stands (told.front _) _ _ _ _ _

theorem opAlertMask_stands : machineStands s (opAlertMask.run u c).st := by
  simp only [opAlertMask]
  split
  · exact h.setSession _
  · exact h

theorem opAlertAck_stands : machineStands s (opAlertAck.run u c).st := by
  simp only [opAlertAck]
  split
  · exact alertLost_stands (h.setSession _) _
  · exact h

theorem opScheduleCancel_stands : machineStands s (opScheduleCancel.run u c).st := by
  simp only [opScheduleCancel]
  split
  · exact abortSched_stands h _
  · exact h

theorem opBulkAbort_stands : machineStands s (opBulkAbort.run u c).st := by
  simp only [opBulkAbort]
  split
  · exact h
  · exact h.front _

theorem opBulkStatus_stands : machineStands s (opBulkStatus.run u c).st := by
  simp only [opBulkStatus]
  split
  · exact h
  · exact h.front _

theorem laneStatus_stands (l : Leaf) : machineStands s (u.laneStatus l).1 := by
  cases l
  case rafter => exact h.draws _
  all_goals exact h

theorem meetPage_stands (p : Page) : machineStands s (u.meetPage p) := by
  unfold State.meetPage
  extract_lets q n v first mark _ w
  have drawn : machineStands s v := h.draws _
  have marked : machineStands s w := drawn.tally _
  exact drawn.ite (marked.reported (.raise _ _ _ _ _ _))

theorem meetPages_stands (keep : TRec → Bool) (start n room : Nat) (ps : List Page) (acc : List TRec) : machineStands s (State.meetPages keep start n room ps acc u) := by
  induction ps generalizing acc u with
  | nil => exact h
  | cons p ps ih =>
    unfold State.meetPages
    exact (ih h acc).ite (h.ite (ih (meetPage_stands h p) _))

theorem opRingsRead_stands : machineStands s (opRingsRead.run u c).st := by
  simp only [opRingsRead]
  split
  · exact h
  · split
    · exact h
    · exact h.draws _

theorem xferDone_stands (x : Transfer) : machineStands s (u.xferDone x) := by
  unfold State.xferDone
  extract_lets v
  have dropped : machineStands s v := h.front _
  split
  · exact dropped.front _
  · exact dropped.front _
  · exact dropped
  · exact dropped.front _
  · exact dropped.front _
  · exact dropped

end Runs

end Sys2Proof.Machine

namespace Sys2Proof.Machine

open Sys2Proof

/-! ## Closing a transfer where no word of memory is in error (R107, R527) -/

theorem closeRead_clean {s : State} (clean : s.ue = []) (x : Transfer) : s.closeRead x = s := by
  have none_met : s.ueIn ((s.bulkArea x.kind).1 + x.offset) x.length = [] := by simp only [State.ueIn, clean, List.filter_nil]
  rw [State.closeRead, none_met, ite_self]
  rfl

theorem opBulkClose_stands {s u : State} (clean : s.ue = []) (h : machineStands s u) (c : Ctx) : machineStands s (opBulkClose.effect u c).st := by
  have read (x : Transfer) : u.closeRead x = u := closeRead_clean (h.ue.trans clean) x
  cases named : u.named c with
  | none =>
    simp only [OpSpec.effect, opBulkClose, named]
    exact h
  | some x =>
    cases missing : x.missing with
    | cons g l =>
      rw [opBulkClose_missing named missing]
      exact h.front _
    | nil =>
      by_cases crc : crc32c (u.bulkRead x.kind x.offset x.length) = x.crc
      · rw [opBulkClose_valid named missing crc, read]
        exact xferDone_stands h x
      · rw [opBulkClose_crc named missing crc, read]
        exact h.front _

/-! ## Reading a block whose clock is gated (R25) -/

/-- Where no register write waits for the BEAM clock, its start changes nothing. -/
theorem beamClock_idle {s : State} (idle : ∀ x ∈ s.held, inBeamDomain x.1 = false) : s.beamClock = s := by
  have gone : (s.held.filter fun x => inBeamDomain x.1) = [] := List.filter_eq_nil_iff.mpr fun x hx => by simp [idle x hx]
  have rest : (s.held.filter fun x => !inBeamDomain x.1) = s.held := List.filter_eq_self.mpr fun x hx => by simp [idle x hx]
  rw [State.beamClock, gone, rest]
  rfl

/-- The opcodes of the blocks of the BEAM and SENSE domains find nothing to apply. -/
theorem clocked_stands {s : State} (idle : ∀ x ∈ s.held, inBeamDomain x.1 = false) {op : Nat} (group : (decide (0x0300 ≤ op) && decide (op < 0x0800)) = true) (u : State)
    (h : machineStands s u) : machineStands s (u.clocked op) := by
  rw [State.clocked, if_pos group, beamClock_idle (h.held ▸ idle)]
  exact h

/-- Settles O22: the way of a packet through R84 reports alone, and so does what each of these opcodes does. -/
theorem readsStand : Obligations.ReadsStand := by
  refine ⟨fun t p s u i listed answer => ?reads, fun t p s u clean answer => ?close, fun t p s u i listed idle answer => ?gated⟩
  case reads =>
    refine StandsAt.machine ?_ answer
    simp only [List.mem_cons, List.not_mem_nil, or_false] at listed
    rcases listed with rfl | rfl | rfl | rfl | rfl | rfl | rfl | rfl | rfl | rfl | rfl | rfl | rfl | rfl | rfl | rfl | rfl | rfl | rfl | rfl | rfl | rfl | rfl | rfl
    · exact ⟨opPing, _, fun _ _ => rfl, {}⟩
    · exact ⟨opDeviceInfo, _, fun _ _ => rfl, {}⟩
    · exact ⟨opStatusGet, _, fun _ _ => rfl, {}⟩
    · exact ⟨opScheduleList, _, fun _ _ => rfl, {}⟩
    · exact ⟨opLaneStatus, _, fun _ _ => rfl, { leafRun := fun _ _ l h => laneStatus_stands h l }⟩
    · exact ⟨opTimeGet, _, fun _ _ => rfl, {}⟩
    · exact ⟨opTimeStatus, _, fun _ _ => rfl, {}⟩
    · exact ⟨opAxisStatus, _, fun _ _ => rfl, {}⟩
    · exact ⟨opLedStatus, _, fun _ _ => rfl, {}⟩
    · exact ⟨opTallyRead, _, fun _ _ => rfl, { run := fun _ _ h => meetPages_stands h _ _ _ _ _ _ }⟩
    · exact ⟨opTallyInfo, _, fun _ _ => rfl, {}⟩
    · exact ⟨opAuditRead, _, fun _ _ => rfl, { run := fun _ _ h => meetPages_stands h _ _ _ _ _ _ }⟩
    · exact ⟨opRingsRead, _, fun _ _ => rfl, { run := fun _ c h => opRingsRead_stands h c }⟩
    · exact ⟨opSecInfo, _, fun _ _ => rfl, {}⟩
    · exact ⟨opFrameList, _, fun _ _ => rfl, {}⟩
    · exact ⟨opSessionOpen, _, fun _ _ => rfl, { run := fun _ c h => opSessionOpen_stands h c }⟩
    · exact ⟨opSessionClose, _, fun _ _ => rfl, { after := fun _ _ h => closeSession_stands h _ }⟩
    · exact ⟨opAlertMask, _, fun _ _ => rfl, { run := fun _ c h => opAlertMask_stands h c }⟩
    · exact ⟨opAlertAck, _, fun _ _ => rfl, { run := fun _ c h => opAlertAck_stands h c }⟩
    · exact ⟨opScheduleCancel, _, fun _ _ => rfl, { run := fun _ c h => opScheduleCancel_stands h c }⟩
    · exact ⟨opBulkAbort, _, fun _ _ => rfl, { run := fun _ c h => opBulkAbort_stands h c }⟩
    · exact ⟨opBulkStatus, _, fun _ _ => rfl, { run := fun _ c h => opBulkStatus_stands h c }⟩
    · exact ⟨opTallyMark, _, fun _ _ => rfl, { run := fun _ _ h => h.reported (.tallyNew _ _ _) }⟩
    · exact ⟨opRingsConfig, _, fun _ _ => rfl, { run := fun _ _ h => h.tally _ }⟩
  case close => exact StandsAt.machine ⟨opBulkClose, _, fun _ _ => rfl, { run := fun u c h => opBulkClose_stands clean h c }⟩ answer
  case gated =>
    refine StandsAt.machine ?_ answer
    have clocked {op : Nat} (group : (decide (0x0300 ≤ op) && decide (op < 0x0800)) = true) (u : State) (h : machineStands s u) := clocked_stands idle group u h
    simp only [List.mem_cons, List.not_mem_nil, or_false] at listed
    rcases listed with rfl | rfl | rfl | rfl | rfl | rfl
    · exact ⟨opLayerStatus, _, fun _ _ => rfl, { clocked := clocked rfl }⟩
    · exact ⟨opBeamStatus, _, fun _ _ => rfl, { clocked := clocked rfl }⟩
    · exact ⟨opTrussStatus, _, fun _ _ => rfl, { clocked := clocked rfl }⟩
    · exact ⟨opStickQuery, _, fun _ _ => rfl, { clocked := clocked rfl }⟩
    · exact ⟨opPlumbFeatures, _, fun _ _ => rfl, { clocked := clocked rfl }⟩
    · exact ⟨opScribeQuality, _, fun _ _ => rfl, { clocked := clocked rfl }⟩

end Sys2Proof.Machine

namespace Sys2Proof.Machine

open Sys2Proof

/-! ## Group 0x04: the beam commands (R138-R141) -/

/-- A fanned-out opcode runs its `leafRun` on each leaf that it reaches. -/
theorem OpSpec.effect_eachLeaf {o : OpSpec} {k : Leaf → Bool} {every : Bool} (fans : o.path = .fan k every) (s : State) (c : Ctx) :
    o.effect s c = eachLeaf o s c o.leafRun := by
  simp only [OpSpec.effect, eachLeaf, fans]

/-- A fanned-out opcode of which nothing follows its reply gives what its `leafRun` makes of each leaf. -/
theorem gives_eachLeaf {o : OpSpec} {op : Nat} {i : Nat → Packet → Instr} {k : Leaf → Bool} {every : Bool} (fans : o.path = .fan k every)
    (he : ∀ t p s, exec (i t p) s = .next (s.packet t (some o) op p)) (after : ∀ u c, o.after u c = u := by intros; rfl) :
    Gives o op i fun u c => eachLeaf o u c o.leafRun :=
  gives_done he (OpSpec.effect_eachLeaf fans) (fun _ _ => rfl) after

/-- Settles O31: each of the six opcodes fans out to beams, and its clause writes out its `leafRun`. -/
theorem beamCommands : Obligations.BeamCommands := by
  refine ⟨?enable, ?disable, ?load, ?status, ?safety, ?jog⟩
  case enable => exact gives_eachLeaf rfl fun _ _ _ => rfl
  case disable => exact gives_eachLeaf rfl fun _ _ _ => rfl
  case load => exact gives_eachLeaf rfl fun _ _ _ => rfl
  case status => exact gives_eachLeaf rfl fun _ _ _ => rfl
  case safety => exact gives_eachLeaf rfl fun _ _ _ => rfl
  case jog => exact gives_eachLeaf rfl fun _ _ _ => rfl

end Sys2Proof.Machine

namespace Sys2Proof.Machine

open Sys2Proof

/-! ## Events of the BEAM and DRIVE domains -/

/-- An event of the BEAM domain does `f` where its effect is `f`. -/
theorem doesBeams {i : Nat → Instr} {cond : State → Prop} {f g : State → State} (he : ∀ t s, exec (i t) s = .next (s.beamAct t g)) (hg : ∀ u, cond u → g u = f u) :
    Does i beamsOn cond f :=
  doesOf (fun t s h => (he t s).trans (congrArg _ (beE h))) hg

/-- An event of the DRIVE domain does `f` where its effect is `f`. -/
theorem doesDrives {i : Nat → Instr} {cond : State → Prop} {f g : State → State} (he : ∀ t s, exec (i t) s = .next (s.driveAct t g)) (hg : ∀ u, cond u → g u = f u) :
    Does i drivesOn cond f :=
  doesOf (fun t s h => (he t s).trans (congrArg _ (drE h))) hg

/-! ## Jogs and return frames (R117-R123, R141) -/

theorem State.jogDone_held {s : State} {b : Fin 48} {x y z : Int} {n : Nat} (jog : (s.chan b).jog = some (x, y, z, n)) (held : (s.chan b).hold = (x, y, z)) :
    s.jogDone b = (s.onChan b fun c => { c with jog := none }).raise 0x0401 0 0 [0, b]
      (leBytes 4 (s.reg (actReg b 0)).toNat ++ leBytes 4 (s.reg (actReg b 1)).toNat ++ leBytes 4 (s.reg (actReg b 2)).toNat) := by
  simp only [State.jogDone, jog, held, ne_eq, not_true_eq_false, if_false]

/-- The SEL that a port which waits for `want` expects after a frame; 4 stands for any (log entry 69). -/
def selAfter (frame : BitVec 50) (want : Nat) : Nat :=
  if (returnFields frame).1 = true then ((returnFields frame).2.2.2.1 + 1) % 4 else if want = 4 then 4 else (want + 1) % 4

/-- A frame that fails its CRC or comes out of turn is counted (R117, R122). -/
def State.returnInvalid (s : State) (b : Fin 48) (frame : BitVec 50) : State :=
  (s.count (beamReg b 0x1020)).onChan b fun c => { c with
    goodRun := 0, badRun := c.badRun + 1, nackRun := 0, selNext := selAfter frame (s.chan b).selNext
    invalids := s.now :: c.invalids.filter fun t => decide (s.now < t + nackWindow) }

/-- A frame that comes whole and in its turn is taken (R117, R118, R121). -/
def State.returnTaken (s : State) (b : Fin 48) (frame : BitVec 50) : State :=
  let r := returnFields frame
  let v := (s.setF (mtStatus b) 16 4 r.2.2.1).onChan b fun c => { c with
    goodRun := c.goodRun + 1, badRun := 0, selNext := (r.2.2.2.1 + 1) % 4, nackRun := if r.2.1 = true then c.nackRun else 0 }
  let w := if r.2.1 = true then v.nackSeen b else v
  if r.2.2.2.1 = 3 then w.servoStatus b r.2.2.2.2 else w.actualSeen b r.2.2.2.1 (signed 24 r.2.2.2.2)

section ReturnFrame

variable {s : State} {b : Fin 48} {frame : BitVec 50} (running : (s.chan b).running = true)
include running

theorem State.returnFrame_invalid
    (bad : (returnFields frame).1 = false ∨ (returnFields frame).2.2.2.1 ≠ (s.chan b).selNext ∧ (s.chan b).selNext ≠ 4) :
    s.returnFrame b frame = s.returnInvalid b frame := by
  simp only [State.returnFrame, running, if_pos bad, Bool.true_eq_false, if_false]
  rfl

theorem State.returnFrame_taken (whole : (returnFields frame).1 = true)
    (turn : (s.chan b).selNext = (returnFields frame).2.2.2.1 ∨ (s.chan b).selNext = 4) :
    s.returnFrame b frame = s.returnTaken b frame := by
  have good : ¬ ((returnFields frame).1 = false ∨ (returnFields frame).2.2.2.1 ≠ (s.chan b).selNext ∧ (s.chan b).selNext ≠ 4) := by
    rintro (crc | ⟨other, known⟩)
    · exact Bool.false_ne_true (crc.symm.trans whole)
    · exact turn.elim (fun same => other same.symm) known
  simp only [State.returnFrame, running, if_neg good, Bool.true_eq_false, if_false]
  rfl

theorem State.returnLock_locks {tap : Nat} (unlocked : s.rxLock b = false) (run : 8 ≤ (s.chan b).goodRun) :
    s.returnLock b tap = ((((s.setB (mtStatus b) 0 true).setF (mtStatus b) 8 6 tap).onChan b fun c => { c with
      lockedAt := s.now, haveSet := 0, startAt := none, linkSeen := true, trackX := 0, trackY := 0, trackZ := 0 }).causeEnds b .scannerLink).checkAttach b := by
  simp only [State.returnLock, running, unlocked, run.not_gt, Bool.true_eq_false, Bool.false_eq_true, or_self, if_false]

end ReturnFrame

theorem State.lockTimeout_fails {s : State} {b : Fin 48} {at_ : Nat} (started : (s.chan b).startAt = some at_) (unlocked : s.rxLock b = false) :
    s.lockTimeout b = ((s.reach (at_ + milli)).onChan b fun c => { c with startAt := none }).beamFail b .scannerLink := by
  have still : (s.reach (at_ + milli)).rxLock b = false := unlocked
  simp only [State.lockTimeout, started, still, Bool.false_eq_true, if_false]

theorem State.trackFail_fails {s : State} {b : Fin 48} (active : s.posActive b = true) (limited : s.regF (beamReg b 0x1004) 24 8 ≠ 0)
    (run : s.regF (beamReg b 0x1004) 24 8 ≤ max (s.chan b).trackX (max (s.chan b).trackY (s.chan b).trackZ)) :
    s.trackFail b = s.beamFail b .scannerTracking :=
  if_pos ⟨run, limited, active⟩

/-! ## The attachment check (R120) -/

/-- What a run of the check does to a beam that is enabled and ABSENT. -/
def State.attachRun (s : State) (b : Fin 48) (locked rdy alm : Bool) : State :=
  let v := if s.mode.mode.beamOn = true then s else (s.portStart b none).portStop b
  let w := (((v.setB (tnStatus b) 0 rdy).setB (tnStatus b) 1 alm).onChan b fun c => { c with linkSeen := c.linkSeen || locked, rdySeen := c.rdySeen || rdy }).checkAttach b
  if alm = true then w.beamFail b .laserAlarm else w

theorem State.attachCheck_runs {s : State} {b : Fin 48} {locked rdy alm : Bool} (enabled : s.beamEnabled b = true) (absent : s.unitState (.beam b) = stAbsent) :
    s.attachCheck b locked rdy alm = s.attachRun b locked rdy alm := by
  simp only [State.attachCheck, enabled, absent, ne_eq, not_true_eq_false, Bool.true_eq_false, if_false]
  rfl

theorem State.runCheck_runs {s : State} {b : Fin 48} {locked rdy alm : Bool} (enabled : s.beamEnabled b = true) (absent : s.unitState (.beam b) = stAbsent)
    (enabled' : s.beamClock.beamEnabled b = true) (absent' : s.beamClock.unitState (.beam b) = stAbsent) :
    s.runCheck b locked rdy alm = s.beamClock.attachRun b locked rdy alm := by
  rw [State.runCheck, if_pos (by simp [enabled, absent]), State.attachCheck_runs enabled' absent']

/-! ## RDY and ALM (R130) -/

theorem State.rdyGraceEnd_fails {s : State} {b : Fin 48} (fails : (s.reach (s.graceEnd b)).rdyFails b = true) (fresh : FailCause.laserNotReady ∉ (s.chan b).fails) :
    s.rdyGraceEnd b = (s.reach (s.graceEnd b)).beamFail b .laserNotReady := by
  have absent : (s.chan b).fails.contains .laserNotReady = false := by simpa using fresh
  have unknown : ((s.reach (s.graceEnd b)).chan b).fails.contains .laserNotReady = false := absent
  simp only [State.rdyGraceEnd, fails, unknown, Bool.not_false, Bool.and_self, if_true]

/-! ## Raster sync (R135-R137) -/

section Raster

variable {s : State} {b : Fin 48} {r : Raster} (sync : s.raster b = some r) (raster : s.isRaster b = true)
include sync raster

/-- The first lock: lines may begin at any facet. -/
theorem State.rasterLock_first (unlocked : r.locked = false) (run : 64 ≤ r.goodRun) (first : r.lostAt = none) :
    s.rasterLock b = ((s.onRaster b fun r => { r with locked := true, badRun := 0, lostAt := none, waitZero := false }).rasterBits b).causeEnds b .rasterSync := by
  simp only [State.rasterLock, sync, raster, unlocked, run.not_gt, first, Option.isSome_none, Bool.true_eq_false, Bool.false_eq_true, or_self, if_false]

/-- The lock after a loss: lines wait for facet 0, and the host hears of it. -/
theorem State.rasterLock_again (unlocked : r.locked = false) (run : 64 ≤ r.goodRun) (lost : r.lostAt ≠ none) :
    s.rasterLock b
      = (((s.onRaster b fun r => { r with locked := true, badRun := 0, lostAt := none, waitZero := true }).rasterBits b).rasterAlert b true).causeEnds b .rasterSync := by
  have again : r.lostAt.isSome = true := Option.isSome_iff_ne_none.mpr lost
  simp only [State.rasterLock, sync, raster, unlocked, run.not_gt, again, Bool.true_eq_false, Bool.false_eq_true, or_self, if_false, if_true]

/-- Whether a loss of the sync leaves a released record: one that is no raster line, or whose line has begun. -/
def State.keepsLine (s : State) (rel : Rel) : Bool := rel.record.ty != tyRaster || decide (rel.begins ≤ s.now)

/-- The released lines that have not begun are withdrawn; the scanner keeps the targets that it has been sent (R137, R196). -/
def State.linesWithdrawn (s : State) (b : Fin 48) : State :=
  match ((s.kerf b).rels.dropWhile s.keepsLine).head? with
  | some rel =>
    if rel.start ≤ (s.withdraw b s.keepsLine).commitPoint then
      (s.withdraw b s.keepsLine).onKerf b fun k => { k with coast := k.coast ++ rel.segs, pos := rel.endPt, raw := rel.rawEnd }
    else s.withdraw b s.keepsLine
  | none => s.withdraw b s.keepsLine

/-- The lines that are left expose no more, and the gate goes low. -/
def State.linesClosed (s : State) (b : Fin 48) : State :=
  let lines := ((s.kerf b).rels.filter fun rel => rel.record.ty == tyRaster).map (·.place)
  (s.onKerf b fun k => { k with planned := k.planned.filter fun g => !lines.contains g.place, gates := k.gates.filter fun g => !lines.contains g.place }).gateLow b

theorem State.rasterLoss_lost (locked : r.locked = true) (bad : 4 ≤ r.badRun ∨ r.misplaced = true) :
    s.rasterLoss b
      = ((((s.onRaster b fun r => { r with locked := false, goodRun := 0, lostAt := some s.now }).rasterBits b).linesWithdrawn b).linesClosed b).rasterAlert b false := by
  have lost : ¬ (r.badRun < 4 ∧ r.misplaced = false) := by
    rintro ⟨few, placed⟩
    exact bad.elim few.not_ge (by simp [placed])
  simp only [State.rasterLoss, sync, raster, locked, lost, Bool.true_eq_false, or_self, if_false]
  rfl

end Raster

theorem State.rasterLimit_fails {s : State} {b : Fin 48} {lost : Nat} (since : (s.raster b).bind (·.lostAt) = some lost) (raster : s.isRaster b = true)
    (laser : s.mode.mode.isLaser = true) (left : (s.reach (lost + s.regF (beamReg b 0x6004) 24 8 * milli)).rasterLeft b = true) :
    s.rasterLimit b = (s.reach (lost + s.regF (beamReg b 0x6004) 24 8 * milli)).beamFail b .rasterSync := by
  have raster' : (s.reach (lost + s.regF (beamReg b 0x6004) 24 8 * milli)).isRaster b = true := raster
  simp only [State.rasterLimit, since, raster', State.reach_mode, laser, left, Bool.and_self, if_true]

/-! ## Facet edges (R136) -/

/-- `u` is `s` but for registers, of which those in `but` alone differ. -/
def onlyRegs (s u : State) (but : List Nat) : Prop := (∃ l, u = { s with regs := l }) ∧ regsStand s u but

theorem onlyRegs.refl (s : State) (but : List Nat) : onlyRegs s s but := ⟨⟨s.regs, rfl⟩, fun _ _ => rfl⟩

theorem State.reg_setReg_other (s : State) {a a' : Nat} (w : Word) (other : a ≠ a') : (s.setReg a w).reg a' = s.reg a' := getKey_putKey_other _ _ _ _ other

theorem onlyRegs.setReg {s u : State} {but : List Nat} (h : onlyRegs s u but) {a : Nat} (listed : but.contains a = true) (w : Word) : onlyRegs s (u.setReg a w) but := by
  obtain ⟨⟨l, rfl⟩, stand⟩ := h
  refine ⟨⟨_, rfl⟩, fun a' outside => ?_⟩
  have other : a ≠ a' := by
    rintro rfl
    exact Bool.false_ne_true (outside.symm.trans listed)
  exact (State.reg_setReg_other _ w other).trans (stand a' outside)

theorem onlyRegs.ite {s u v : State} {but : List Nat} (h : onlyRegs s u but) (h' : onlyRegs s v but) (c : Prop) [Decidable c] : onlyRegs s (if c then u else v) but := by
  split
  · exact h
  · exact h'

theorem onlyRegs.rasterBits {s u : State} {but : List Nat} (h : onlyRegs s u but) {b : Fin 48} (listed : but.contains (beamReg b 0x600C) = true) :
    onlyRegs s (u.rasterBits b) but := by
  unfold State.rasterBits
  split
  · exact h
  · exact h.setReg listed _

theorem onlyRegs.onRaster {s u : State} {but : List Nat} (h : onlyRegs s u but) (b : Fin 48) (f : Raster → Raster) : onlyRegs (s.onRaster b f) (u.onRaster b f) but := by
  obtain ⟨⟨l, rfl⟩, stand⟩ := h
  unfold State.onRaster
  split <;> exact ⟨⟨l, rfl⟩, stand⟩

theorem State.onRaster_frame (s : State) (b : Fin 48) (f : Raster → Raster) : ∃ v, s.onRaster b f = { s with rasters := v } := by
  unfold State.onRaster
  split
  · exact ⟨_, rfl⟩
  · exact ⟨s.rasters, rfl⟩

theorem State.raster_onRaster_same {s : State} {b : Fin 48} {r : Raster} (sync : s.raster b = some r) (f : Raster → Raster) : (s.onRaster b f).raster b = some (f r) := by
  by_cases small : b.val < 8
  · simp only [State.raster, small, dif_pos, Option.some.injEq] at sync
    simp [State.onRaster, State.raster, small, vmod, sync]
  · simp [State.raster, small] at sync

theorem State.raster_onRaster_other (s : State) {b b' : Fin 48} (other : b' ≠ b) (f : Raster → Raster) : (s.onRaster b f).raster b' = s.raster b' := by
  have apart : b.val ≠ b'.val := fun e => other (Fin.ext e.symm)
  unfold State.onRaster
  split
  · simp [State.raster, vmod, apart]
  · rfl

section FacetEdge

variable {s : State} {b : Fin 48} {r : Raster} {stamp : Nat} (sync : s.raster b = some r) (raster : s.isRaster b = true) (later : r.lastStamp < stamp)
include sync raster later

/-- An edge touches the sync of its beam and two registers; its facet lies within the polygon and its stamp is kept. -/
theorem State.facetEdge_onlyRegs :
    ∃ f : Raster → Raster, onlyRegs (s.onRaster b f) (s.facetEdge b stamp) [beamReg b 0x600C, beamReg b 0x6010]
      ∧ (f r).lastStamp = stamp ∧ (f r).facet < max 2 (s.regF (beamReg b 0x6000) 8 6) ∧ (f r).locked = r.locked := by
  simp only [State.facetEdge, sync, raster, later.not_ge, Bool.true_eq_false, or_self, if_false]
  have status : [beamReg b 0x600C, beamReg b 0x6010].contains (beamReg b 0x600C) = true := by simp
  have period : [beamReg b 0x600C, beamReg b 0x6010].contains (beamReg b 0x6010) = true := by simp
  have counted (c : Prop) [Decidable c] (n : Nat) : onlyRegs s (if c then s else s.setF (beamReg b 0x600C) 16 16 n) [beamReg b 0x600C, beamReg b 0x6010] :=
    (onlyRegs.refl s _).ite ((onlyRegs.refl s _).setReg status _) c
  exact ⟨_, .rasterBits (.onRaster (.setReg (.setReg (counted _ _) period _) status _) b _) status, rfl, Nat.mod_lt _ (by omega), rfl⟩

/-- An edge in its place after its facet's own average period, too early for the missing tooth (log entry 23), is good (R137). -/
theorem State.facetEdge_good (whole : r.periods.length = 32) (near : 2 * (stamp - r.lastStamp) ≤ 3 * avgPeriod ((r.periods.map avgPeriod).filter (· ≠ 0)))
    (placed : r.facet + 1 < max 2 (s.regF (beamReg b 0x6000) 8 6)) (exact_ : avgPeriod (r.periods.getD (r.facet + 1) []) = stamp - r.lastStamp) :
    s.facetEdge b stamp =
      let ps := updAt r.periods (r.facet + 1) fun l => ((stamp - r.lastStamp) :: l).take 8
      let v := (s.setReg (beamReg b 0x6010) (BitVec.ofNat 32 (avgPeriod ((ps.map avgPeriod).filter (· ≠ 0)) / cyc % 2 ^ 24))).setF (beamReg b 0x600C) 8 6 (r.facet + 1)
      (v.onRaster b fun x => { x with facet := r.facet + 1, lastStamp := stamp, periods := ps, goodRun := x.goodRun + 1, badRun := 0, misplaced := false }).rasterBits b := by
  have nonzero : (stamp - r.lastStamp != 0) = true := by simp only [bne_iff_ne]; omega
  simp only [State.facetEdge, sync, raster, later.not_ge, near.not_gt, decide_false, Bool.and_false, Nat.mod_eq_of_lt placed, placed.not_ge, exact_, whole, nonzero,
    Bool.true_eq_false, Bool.false_eq_true, or_self, if_false, if_true, le_refl, Nat.sub_self, Nat.zero_div, Nat.zero_le, decide_true, Bool.not_false, Bool.and_true,
    Bool.true_or, Bool.false_and, Bool.or_self]

end FacetEdge

/-- Settles O49: each clause is one case of the event's meaning; an edge's frame is that it touches one beam's sync and two registers. -/
theorem beamPortEvents : Obligations.BeamPortEvents := by
  refine ⟨?ports, ?sync⟩
  case ports =>
    refine ⟨fun b x y z n => ?jog, fun b frame => ?invalid, fun b frame => ?taken, fun b tap => ?lock, fun b at_ => ?timeout, fun b locked rdy alm => ?attach, fun b => ?link,
      fun b => ?tracking, fun b => ?alm, fun b => ?almOff, fun b => ?almEnds, fun b => ?rdy, fun b => ?rdyOff, fun b => ?rdyBack, fun b => ?grace⟩
    case jog => exact doesBeams (fun _ _ => rfl) fun _ ⟨jog, held⟩ => State.jogDone_held jog held
    case invalid => exact doesUp (fun _ _ => rfl) fun _ ⟨running, bad⟩ => State.returnFrame_invalid running bad
    case taken => exact doesUp (fun _ _ => rfl) fun _ ⟨running, whole, turn⟩ => State.returnFrame_taken running whole turn
    case lock => exact doesUp (fun _ _ => rfl) fun _ ⟨running, unlocked, run⟩ => State.returnLock_locks running unlocked run
    case timeout => exact doesBeams (fun _ _ => rfl) fun _ ⟨started, unlocked⟩ => State.lockTimeout_fails started unlocked
    case attach => exact doesUp (fun _ _ => rfl) fun _ ⟨enabled, absent, enabled', absent'⟩ => State.runCheck_runs enabled absent enabled' absent'
    case link => exact doesBeams (fun _ _ => rfl) fun _ bad => if_pos bad
    case tracking => exact doesBeams (fun _ _ => rfl) fun _ ⟨active, limited, run⟩ => State.trackFail_fails active limited run
    case alm => exact doesUp (fun _ _ => rfl) fun _ enabled => if_pos enabled
    case almOff => exact doesUp (fun _ _ => rfl) fun _ disabled => if_neg (Bool.eq_false_iff.mp disabled)
    case almEnds => exact alwaysUp (fun _ _ => rfl) fun _ => rfl
    case rdy => exact doesUp (fun _ _ => rfl) fun _ fails => if_pos fails
    case rdyOff => exact doesUp (fun _ _ => rfl) fun _ passes => if_neg (Bool.eq_false_iff.mp passes)
    case rdyBack => exact alwaysUp (fun _ _ => rfl) fun _ => rfl
    case grace => exact doesBeams (fun _ _ => rfl) fun _ ⟨fails, fresh⟩ => State.rdyGraceEnd_fails fails fresh
  case sync =>
    refine ⟨fun b stamp r => ?edge, fun b stamp r => ?good, fun b r => ?lock, fun b r => ?again, fun b r => ?loss, fun b lost => ?limit, fun b count => ?refill⟩
    case edge =>
      intro t s on sync raster later
      obtain ⟨f, ⟨⟨l, edge⟩, stand⟩, kept, within, lock⟩ := State.facetEdge_onlyRegs (s := s.touch t) sync raster later
      obtain ⟨v, moved⟩ := (s.touch t).onRaster_frame b f
      have here : ((s.touch t).onRaster b f).raster b = some (f r) := State.raster_onRaster_same (s := s.touch t) sync f
      have there (b' : Fin 48) (other : b' ≠ b) : ((s.touch t).onRaster b f).raster b' = s.raster b' := State.raster_onRaster_other (s.touch t) other f
      have steps : exec (.facetEdge t b stamp) s = .next ((s.touch t).keep ((s.touch t).facetEdge b stamp)) := congrArg _ (drE on)
      rw [edge] at stand steps
      rw [moved] at stand steps here there
      exact ⟨_, f r, steps, here, kept, within, lock, rfl, rfl, rfl, rfl, rfl, stand, there⟩
    case good => exact doesDrives (fun _ _ => rfl) fun _ ⟨sync, raster, later, whole, near, placed, exact_⟩ => State.facetEdge_good sync raster later whole near placed exact_
    case lock => exact doesDrives (fun _ _ => rfl) fun _ ⟨sync, raster, unlocked, run, first⟩ => State.rasterLock_first sync raster unlocked run first
    case again => exact doesDrives (fun _ _ => rfl) fun _ ⟨sync, raster, unlocked, run, lost⟩ => State.rasterLock_again sync raster unlocked run lost
    case loss => exact doesDrives (fun _ _ => rfl) fun _ ⟨sync, raster, locked, bad⟩ => State.rasterLoss_lost sync raster locked bad
    case limit => exact doesBeams (fun _ _ => rfl) fun _ ⟨since, raster, laser, left⟩ => State.rasterLimit_fails since raster laser left
    case refill => exact doesUp (fun _ _ => rfl) fun _ ⟨runs, room⟩ => if_pos (by simp [runs, room])

end Sys2Proof.Machine

namespace Sys2Proof.Machine

open Sys2Proof

/-! ## The completion of a record (R132, R177, R181, R182) -/

/-- A step from `s` to `u`, with what follows where the layer has ended in it (R181). -/
def State.closing (s u : State) : State := if s.layers.active.ended = false ∧ u.layers.active.ended = true then u.layerEnded else u

theorem State.endsLayer_closing {s u : State} {f : State → State} (h : f s = u) : s.endsLayer f = s.closing u := by
  simp only [State.endsLayer, State.closing, h, Bool.and_eq_true, Bool.not_eq_true']

/-- A stick that begins to run changes no engine. -/
theorem State.commitStick_kerf (s : State) (b b' : Fin 48) : (s.commitStick b).kerf b' = s.kerf b' := by
  unfold State.commitStick
  split
  · split <;> rfl
  · rfl

/-- What a completed record leaves before its place is asked (R177, R178): its engine without it, the counters, and what hangs on its boundary. -/
def State.recordGone (s : State) (b : Fin 48) (r : Rel) (rest : List Rel) : State :=
  let v := ((s.reach r.complete).commitStick b).onKerf b fun k =>
    { k with rels := rest, coast := k.coast ++ r.segs, past := if (s.kerf b).failed = false then k.past ++ r.pieces else k.past }
  let w := if r.clamped = 0 then v else v.count (kfClamped b) r.clamped
  ((w.pruneQueries b r.place).count (kfRecords b)).plumbBoundary b

/-- The renderer takes a completed record of a beam that had not failed in `s`. -/
def State.recordDrawn (s u : State) (b : Fin 48) (r : Rel) : State := if (s.kerf b).failed = false then u.footprintAdd r.pieces else u

/-- A TAG marker at index `i` is reported. -/
def State.recordTagged (s : State) (b : Fin 48) (r : Rel) (i : Nat) : State := if r.record.ty = tyMarker ∧ r.record.sub = 1 then s.tagReached b r.record i else s

/-- A main record marks the resume point (R65, R177). -/
def State.mainDone (s : State) (b : Fin 48) (i : Nat) : State :=
  ((s.setReg (kfLastDone b) (BitVec.ofNat 32 i)).onResume fun q => { q with index := updAt q.index b.val fun _ => BitVec.ofNat 32 i }).onKerf b fun k =>
    { k with failIndex := BitVec.ofNat 32 i }

/-- The preheat stream of an engine ends (R182). -/
def State.preEnded (s : State) (b : Fin 48) : State := s.onKerf b fun k => { k with preDone := true, engine := if k.preheat then .done else k.engine }

/-- A stick's record is its progress, and its last one frees the engine (R201). -/
def State.stickStep (s : State) (b : Fin 48) (n i : Nat) : State :=
  let v := s.onKerf b fun k => { k with stickDone := i + 1 }
  if i + 1 = (v.layers.stick n).count then
    ((v.onStick n fun t => { t with state := .done }).markStick n).onKerf b fun k => { k with stick := none, stickDone := 0, queue := [], wantStick := true }
  else v

/-- The oldest released record of a beam completes: it had by the beam's failure, if the beam has failed (R132). -/
def State.recordDue (s : State) (b : Fin 48) (r : Rel) (rest : List Rel) : Prop :=
  (s.kerf b).rels = r :: rest ∧ ((s.kerf b).failed = true → r.complete / cyc ≤ (s.kerf b).failAt / cyc)

theorem State.recordDue.taken {s : State} {b : Fin 48} {r : Rel} {rest : List Rel} (due : s.recordDue b r rest) :
    ¬ ((s.kerf b).failed = true ∧ (s.kerf b).failAt / cyc < r.complete / cyc) :=
  fun ⟨failed, late⟩ => (due.2 failed).not_gt late

section RecordComplete

variable {s : State} {b : Fin 48} {r : Rel} {rest : List Rel} (due : s.recordDue b r rest)
include due

theorem State.recordComplete_main {i : Nat} (main : r.place = .main i) :
    s.recordComplete b = ((s.recordDrawn (s.recordGone b r rest) b r).recordTagged b r i).mainDone b i := by
  simp only [State.recordComplete, due.1, if_neg due.taken, main, State.commitStick_kerf, Bool.not_eq_true', State.recordGone]
  rfl

theorem State.recordComplete_preEnd {i : Nat} (pre : r.place = .pre i) (last : r.record.ty = tyMarker ∧ r.record.sub = 3) :
    s.recordComplete b = (s.recordGone b r rest).preEnded b := by
  have untagged : ¬ (r.record.ty = tyMarker ∧ r.record.sub = 1) := fun tag => absurd (tag.2.symm.trans last.2) (by decide)
  simp only [State.recordComplete, due.1, if_neg due.taken, pre, if_pos last, if_neg untagged, State.commitStick_kerf, Bool.not_eq_true', State.recordGone]
  rfl

theorem State.recordComplete_pre {i : Nat} (pre : r.place = .pre i) (other : ¬ (r.record.ty = tyMarker ∧ r.record.sub = 3)) :
    s.recordComplete b = (s.recordGone b r rest).recordTagged b r i := by
  simp only [State.recordComplete, due.1, if_neg due.taken, pre, if_neg other, State.commitStick_kerf, Bool.not_eq_true', State.recordGone]
  rfl

theorem State.recordComplete_stick {n i : Nat} (stick : r.place = .stick n i) :
    s.recordComplete b = ((s.recordDrawn (s.recordGone b r rest) b r).recordTagged b r i).stickStep b n i := by
  simp only [State.recordComplete, due.1, if_neg due.taken, stick, State.commitStick_kerf, Bool.not_eq_true', State.recordGone]
  rfl

end RecordComplete

/-- RECORD_COMPLETE does `f` of what `recordComplete` leaves, and closes the layer where that ends it. -/
theorem completes {b : Fin 48} {cond : State → Prop} {f : State → State} (h : ∀ s, cond s → s.recordComplete b = f s) :
    Does (fun t => .recordComplete t b) beamsOn cond fun s => s.closing (f s).completeLayer.preheatDone :=
  doesBeams (fun _ _ => rfl) fun s hc => State.endsLayer_closing (congrArg (fun u : State => u.completeLayer.preheatDone) (h s hc))

/-! ## The scanner tick (R114) -/

theorem State.scannerTick_eq (s : State) :
    s.scannerTick = beams.foldl (fun st b =>
      if st.mode.mode.beamOn = true then
        let v := ((st.starveCheck b).commitTick b (st.commitPoint / tickNs)).mortiseTick b (s.now / tickNs)
        (((if s.now / tickNs % 2 = 0 then v.tenonFrame b else v).gateTick b).deposit b (s.now / tickNs - 1)).prunePlan b
      else st.mortiseTick b (s.now / tickNs)) s := by
  simp only [State.scannerTick, beq_iff_eq]

/-! ## The round (R194) and the alerts of waits and gas (R200, R207) -/

/-- The state in which a round's release test begins: notices of failures, imports and revocations are settled. -/
def State.roundOpened (s : State) : State :=
  let v := (beams.filter fun b => (s.gasUpdate.kerf b).notice).foldl (fun st b => st.takeFailure b (roundStart s.now + s.leadNs) (roundLabel s.now)) s.gasUpdate
  (beams.foldl (fun st b => st.commitStick b) v.pruneImports).settleRevocations

/-- Whether a round releases records: in EXPOSE and PREHEAT while no move has begun. -/
def State.releases (s : State) : Prop := (s.mode.mode = .expose ∨ s.mode.mode = .preheat) ∧ s.mode.transition = none

/-- A round that releases nothing lets the engines drain. -/
theorem State.trussRound_drains {s : State} (idle : ¬ s.roundOpened.releases) :
    s.trussRound = ((if s.roundOpened.mode.mode = .expose then beams.foldl (fun st b => st.drained b) s.roundOpened else s.roundOpened).heartbeat (roundLabel s.now)).completeLayer :=
  if_neg idle

/-- A round that releases goes through the release test, the sticks and the token. -/
theorem State.trussRound_releases {s : State} (works : s.roundOpened.releases) :
    s.trussRound =
      let c := roundStart s.now + s.leadNs
      let v := (s.roundOpened.roundOrder c).foldl (fun st b => State.releaseLoop (st.fetched b) st b c (roundLabel s.now) false) s.roundOpened
      let w := if v.mode.mode = .expose then (cyclic v.truss.token).foldl (fun st b => st.stickRequest b c (roundLabel s.now)) v else v
      ((w.moveToken c (roundLabel s.now)).heartbeat (roundLabel s.now)).completeLayer.preheatDone :=
  if_pos works

theorem State.waitLong_first {s : State} {b : Fin 48} {since : Nat} (waits : (s.kerf b).waitSince = some since) (unsent : (s.kerf b).waitSent = false) :
    s.waitLong b =
      let v := s.reach (since + s.regF 0x04000000 16 8 * milli)
      (v.onKerf b fun k => { k with waitSent := true }).raise 0x0502 1 0 [0, b]
        (leBytes 1 b ++ leBytes 1 (((s.kerf b).lastRule.map Rule.code).getD 0) ++ leBytes 1 (s.kerf b).blocker ++ leBytes 1 0
          ++ leBytes 4 (min ((v.now - since) / micro) 0xFFFFFFFF)) := by
  simp only [State.waitLong, waits, unsent, Bool.false_eq_true, if_false]

theorem State.gasStale_first {s : State} {v at_ : Nat} (blower : s.headBlower = some (v, at_)) (used : s.gasSource = 2) (unsent : s.truss.gasSent ≠ some at_) :
    s.gasStale =
      let w : State := { s.reach (at_ + 100 * milli) with truss := { s.truss with gasSent := some at_ } }
      w.raise 0x0505 1 0 [] (leBytes 1 w.gasLane ++ leBytes 3 0 ++ leBytes 4 (min ((w.now - at_) / milli) 0xFFFFFFFF)) := by
  simp only [State.gasStale, blower, used, unsent, ne_eq, not_true_eq_false, or_self, if_false]
  rfl

/-- Settles O51: a record's place decides what its completion marks, and the round's mode whether it releases. -/
theorem exposureEvents : Obligations.ExposureEvents := by
  unfold Obligations.ExposureEvents
  intro closed gone drawn tagged due opened
  refine ⟨fun b r rest i => ?main, fun b r rest i => ?pre, fun b r rest i => ?preEnd, fun b r rest n i => ?stick, ?tick, ?drains, ?releases, fun b since => ?wait, fun v at_ => ?gas⟩
  case main => exact completes fun _ ⟨due, main⟩ => State.recordComplete_main due main
  case pre => exact completes fun _ ⟨due, pre, other⟩ => State.recordComplete_pre due pre other
  case preEnd => exact completes fun _ ⟨due, pre, last⟩ => State.recordComplete_preEnd due pre last
  case stick => exact completes fun _ ⟨due, stick⟩ => State.recordComplete_stick due stick
  case tick => exact alwaysUp (fun _ _ => rfl) fun _ => State.scannerTick_eq _
  case drains => exact doesUp (fun _ _ => rfl) fun _ idle => State.endsLayer_closing (State.trussRound_drains idle)
  case releases => exact doesUp (fun _ _ => rfl) fun _ works => State.endsLayer_closing (State.trussRound_releases works)
  case wait => exact doesUp (fun _ _ => rfl) fun _ ⟨waits, unsent⟩ => State.waitLong_first waits unsent
  case gas => exact doesUp (fun _ _ => rfl) fun _ ⟨blower, used, unsent⟩ => State.gasStale_first blower used unsent

end Sys2Proof.Machine

namespace Sys2Proof.Machine

open Sys2Proof

/-! ## Group 0x05: the TRUSS commands (R207, R213, R214) -/

/-- Settles O32: none of the five opcodes fans out, so each clause writes out its `run`, with its register writes in full. -/
theorem trussCommands : Obligations.TrussCommands := by
  refine ⟨?config, ?territory, ?gas, ?status, ?stick⟩
  case config => exact gives_done (fun _ _ _ => rfl) (fun _ _ => rfl)
  case territory => exact gives_done (fun _ _ _ => rfl) (fun _ _ => rfl)
  case gas => exact gives_done (fun _ _ _ => rfl) (fun _ _ => rfl)
  case status => exact gives_done (fun _ _ _ => rfl) (fun _ _ => rfl)
  case stick => exact gives_done (fun _ _ _ => rfl) (fun _ _ => rfl)

end Sys2Proof.Machine

namespace Sys2Proof.Machine

open Sys2Proof

/-! ## Messages of a rafter port (R339, R341, R357) -/

/-- A message of a type comes to a port whole, with its CRC and with every stripe. -/
def State.comesWhole (s : State) (p : RPort) (type : Nat) (m : Msg) : Prop := msgGood type m = true ∧ ¬ ((s.rport p).port = .up ∧ m.parity ≠ 0)

section RafterMessage

variable {s : State} {p : RPort} {type : Nat} {m : Msg}

theorem State.rafterMsg_whole (whole : s.comesWhole p type m) (f : State → State) : s.rafterMsg p type m f = f s := by
  obtain ⟨good, striped⟩ := whole
  have kept : s.parityErrs p m = s := if_neg striped
  simp only [State.rafterMsg, kept, good, striped, Bool.true_eq_false, or_self, if_false]

theorem State.rafterMsg_spoilt (spoilt : ¬ s.comesWhole p type m) (f : State → State) : s.rafterMsg p type m f = (s.parityErrs p m).count (rpReg p 0x28) := by
  have bad : msgGood type m = false ∨ ((s.rport p).port = .up ∧ m.parity ≠ 0) := by
    by_contra sound
    obtain ⟨good, striped⟩ := not_or.mp sound
    exact spoilt ⟨eq_true_of_ne_false good, striped⟩
  exact if_pos bad

variable (carries : (s.rport p).carries = true)
include carries

theorem State.streamMsg_whole (whole : s.comesWhole p type m) (f : State → State) : s.streamMsg p type m f = f s :=
  (if_pos carries).trans (State.rafterMsg_whole whole f)

theorem State.streamMsg_spoilt (spoilt : ¬ s.comesWhole p type m) (f : State → State) : s.streamMsg p type m f = (s.parityErrs p m).count (rpReg p 0x28) :=
  (if_pos carries).trans (State.rafterMsg_spoilt spoilt f)

end RafterMessage

/-! ## Truss messages (R210-R212, R362) -/

/-- Whether the number of a message does not follow that of the last one (R362). -/
def State.trussGap (s : State) (p : RPort) (m : Msg) : Bool :=
  match (s.rport p).trussSeq with
  | some q => m.seq != q + 1
  | none => false

theorem State.trussGap_iff {s : State} {p : RPort} {m : Msg} : s.trussGap p m = true ↔ ∃ q, (s.rport p).trussSeq = some q ∧ m.seq ≠ q + 1 := by
  cases seq : (s.rport p).trussSeq <;> simp [State.trussGap, seq]

/-- A port has heard a message: its number is the last one, and its 5 us begin anew (R212, R362). -/
def State.trussSeen (s : State) (p : RPort) (m : Msg) : State := s.onRport p fun r => { r with trussSeq := some m.seq, lastMsg := s.now }

/-- A stale import memory that waits for no resynchronisation, or hears the end of one, becomes fresh (R212). -/
def State.freshened (s : State) (p : RPort) (ends : Bool) : State :=
  if (s.rport p).stale = true ∧ ((s.rport p).resync = false ∨ ends = true) then s.goFresh p else s

/-- How `trussIn` decides whether the memory becomes fresh. -/
theorem State.freshened_eq (s : State) (p : RPort) (gap last : Bool) :
    (if (s.rport p).stale = false then s else if (s.rport p).resync = false ∨ (gap = false ∧ last = true) then s.goFresh p else s) = s.freshened p (!gap && last) := by
  cases stale : (s.rport p).stale <;> simp [State.freshened, stale]

/-- A message of Truss comes whole to a port that carries a stream, and is of a kind (R210). -/
def State.trussFits (s : State) (p : RPort) (kind : Nat) (m : Msg) : Prop :=
  s.crossEn = true ∧ (s.rport p).carries = true ∧ s.comesWhole p 0x10 m ∧ m.payload.length = 40 ∧ byteAt m.payload 0 = kind

section TrussMessage

variable {s : State} {p : RPort} {kind : Nat} {m : Msg} (f : State → State)

theorem State.trussIn_fits (fits : s.trussFits p kind m) :
    s.trussIn p kind m f = (f (if s.trussGap p m = true then (s.trussSeen p m).startResync p else s.trussSeen p m)).freshened p (!s.trussGap p m && m.flags.getLsbD 1) := by
  obtain ⟨cross, carries, whole, length, ofKind⟩ := fits
  have known : ¬ (m.payload.length ≠ 40 ∨ byteAt m.payload 0 ≠ kind) := by simp [length, ofKind]
  rw [← State.freshened_eq, State.trussIn, if_neg (by simp [cross]), State.streamMsg_whole carries whole, if_neg known]
  rfl

/-- A message that follows the last one is taken, and may end a resynchronisation. -/
theorem State.trussIn_follows (fits : s.trussFits p kind m) (follows : s.trussGap p m = false) :
    s.trussIn p kind m f = (f (s.trussSeen p m)).freshened p (m.flags.getLsbD 1) := by
  simp [State.trussIn_fits f fits, follows]

/-- A message after a gap starts a resynchronisation before it is taken, and ends none. -/
theorem State.trussIn_gap (fits : s.trussFits p kind m) (gap : s.trussGap p m = true) :
    s.trussIn p kind m f = (f ((s.trussSeen p m).startResync p)).freshened p false := by
  simp [State.trussIn_fits f fits, gap]

theorem State.trussIn_spoilt (cross : s.crossEn = true) (carries : (s.rport p).carries = true) (spoilt : ¬ s.comesWhole p 0x10 m) :
    s.trussIn p kind m f = (s.parityErrs p m).count (rpReg p 0x28) := by
  rw [State.trussIn, if_neg (by simp [cross]), State.streamMsg_spoilt carries spoilt]

end TrussMessage

/-- An event that hands a message of Truss to `trussIn` takes it by `f` where it fits, after a gap once a resynchronisation has begun, and discards it where it is spoilt. -/
theorem takesTruss {i : Nat → RPort → Msg → Instr} {kind : Nat} {f : RPort → Msg → State → State}
    (he : ∀ port m t s, exec (i t port m) s = .next (s.act t fun u => u.trussIn port kind m (f port m))) :
    (∀ port m, Does (fun t => i t port m) isUp (fun s => s.trussFits port kind m ∧ ¬ ∃ q, (s.rport port).trussSeq = some q ∧ m.seq ≠ q + 1) fun s =>
        (f port m (s.trussSeen port m)).freshened port (m.flags.getLsbD 1))
      ∧ (∀ port m, Does (fun t => i t port m) isUp (fun s => s.trussFits port kind m ∧ ∃ q, (s.rport port).trussSeq = some q ∧ m.seq ≠ q + 1) fun s =>
        (f port m ((s.trussSeen port m).startResync port)).freshened port false)
      ∧ (∀ port m, Does (fun t => i t port m) isUp (fun s => s.crossEn = true ∧ (s.rport port).carries = true ∧ ¬ s.comesWhole port 0x10 m) fun s =>
        (s.parityErrs port m).count (rpReg port 0x28)) := by
  refine ⟨fun port m => ?follows, fun port m => ?gap, fun port m => ?spoilt⟩
  case follows =>
    exact doesUp (he port m) fun _ ⟨fits, follows⟩ => State.trussIn_follows _ fits (Bool.eq_false_iff.mpr (mt State.trussGap_iff.mp follows))
  case gap => exact doesUp (he port m) fun _ ⟨fits, gap⟩ => State.trussIn_gap _ fits (State.trussGap_iff.mpr gap)
  case spoilt => exact doesUp (he port m) fun _ ⟨cross, carries, spoilt⟩ => State.trussIn_spoilt _ cross carries spoilt

theorem State.rport_reach (s : State) (t : Nat) (p : RPort) : (s.reach t).rport p = s.rport p := by cases p <;> rfl

/-- 5 us without a message make a fresh import memory stale, with one alert (R212). -/
theorem State.importStale_silent {s : State} {p : RPort} (cross : s.crossEn = true) (fresh : (s.rport p).stale = false) :
    s.importStale p = ((s.reach ((s.rport p).lastMsg + 5 * micro)).onRport p fun r => { r with stale := true }).crossStale p false := by
  simp only [State.importStale, State.goStale, State.rport_reach, cross, fresh, Bool.true_eq_false, Bool.false_eq_true, or_self, if_false]

section ResyncAsked

variable {s : State} {p : RPort} {m : Msg} (carries : (s.rport p).carries = true) (whole : s.comesWhole p 0x11 m)
include carries whole

/-- A neighbour that asks hears a HEARTBEAT, marked LAST, where nothing is live (R362). -/
theorem State.resyncAsked_nothing (none_ : s.liveExports p = []) :
    s.resyncAsked p m = s.sendRafter p 0x10 0xFF 2 (trussMsg 5 s.chain.index 0xFF 0 (roundLabel s.now % eraLen) 0 0 0 0 0 0 0) := by
  simp only [State.resyncAsked, State.streamMsg_whole carries whole, none_, List.isEmpty_nil, if_true]

/-- A neighbour that asks hears everything that is live, the last message marked LAST (R362). -/
theorem State.resyncAsked_live (live : s.liveExports p ≠ []) :
    s.resyncAsked p m = (s.liveExports p).zipIdx.foldl (fun st x =>
      st.sendPiece p x.1.1 x.1.2.1 x.1.2.2.1 (if x.2 + 1 = (s.liveExports p).length then 2 else 0) x.1.2.2.2) s := by
  simp only [State.resyncAsked, State.streamMsg_whole carries whole, List.isEmpty_iff, live, if_false]

end ResyncAsked

/-- Settles O52: the five kinds of message share `trussIn`; a silent port and a neighbour's request have a rule each. -/
theorem trussMessages : Obligations.TrussMessages := by
  unfold Obligations.TrussMessages
  intro comes fits gap seen fresh takes
  refine ⟨?release, ?withdraw, ?claim, ?unclaim, ?heartbeat, fun port => ?stale, fun port m => ?nothing, fun port m => ?live⟩
  case release => exact takesTruss (i := .release) fun _ _ _ _ => rfl
  case withdraw => exact takesTruss (i := .withdraw) fun _ _ _ _ => rfl
  case claim => exact takesTruss (i := .claim) fun _ _ _ _ => rfl
  case unclaim => exact takesTruss (i := .unclaim) fun _ _ _ _ => rfl
  case heartbeat => exact takesTruss (i := .heartbeat) fun _ _ _ _ => rfl
  case stale => exact doesUp (fun _ _ => rfl) fun _ ⟨cross, stale⟩ => State.importStale_silent cross stale
  case nothing => exact doesUp (fun _ _ => rfl) fun _ ⟨carries, whole, none_⟩ => State.resyncAsked_nothing carries whole none_
  case live => exact doesUp (fun _ _ => rfl) fun _ ⟨carries, whole, live⟩ => State.resyncAsked_live carries whole live

end Sys2Proof.Machine

namespace Sys2Proof.Machine

open Sys2Proof

/-! ## Group 0x06: the PLUMB and GRAIN commands (R246, R247, R272-R274) -/

/-- What a fanned-out command makes of its leaves depends on `f` at this command alone. -/
theorem eachLeaf_congr {o : OpSpec} {c : Ctx} {f g : State → Ctx → Leaf → State × List Byte} (same : ∀ s l, f s c l = g s c l) (s : State) :
    eachLeaf o s c f = eachLeaf o s c g := by
  simp only [eachLeaf, same]

/-- A fanned-out opcode gives `f` of each leaf where `cond` makes that of its `leafRun`. -/
theorem givesIf_eachLeaf {o : OpSpec} {op : Nat} {i : Nat → Packet → Instr} {k : Leaf → Bool} {every : Bool} {cond : State → Ctx → Prop}
    {f : State → Ctx → Leaf → State × List Byte} (fans : o.path = .fan k every) (he : ∀ t p s, exec (i t p) s = .next (s.packet t (some o) op p))
    (leaf : ∀ u c, cond u c → ∀ s l, o.leafRun s c l = f s c l) (after : ∀ u c, o.after u c = u := by intros; rfl) :
    GivesIf o op i cond fun u c => eachLeaf o u c f :=
  givesIf_done he (fun u c h => (OpSpec.effect_eachLeaf fans u c).trans (eachLeaf_congr (leaf u c h) u)) (fun _ _ => rfl) after

theorem opPlumbFeatures_leafRun_features {c : Ctx} (select : byteAt c.params 0 = 0) (s : State) (l : Leaf) :
    opPlumbFeatures.leafRun s c l = (s, s.features (leafBeam l)) :=
  congrArg (Prod.mk s) (if_pos select)

theorem opPlumbFeatures_leafRun_trace {c : Ctx} (select : byteAt c.params 0 ≠ 0) (s : State) (l : Leaf) :
    opPlumbFeatures.leafRun s c l
      = (s, (tabulate (byteAt c.params 2) fun i => ((s.plumb (leafBeam l)).trace.getD (byteAt c.params 1 + i) []) ++ List.replicate 16 0).flatMap fun e => e.take 16) :=
  congrArg (Prod.mk s) (if_neg select)

/-- Settles O33: the PLUMB opcodes fan out to beams, PLUMB_FEATURES by its selector; the GRAIN clauses write out each opcode's `run`. -/
theorem sensingCommands : Obligations.SensingCommands := by
  refine ⟨?config, ?features, ?trace, ?material, ?read, ?clear⟩
  case config => exact gives_eachLeaf rfl fun _ _ _ => rfl
  case features => exact givesIf_eachLeaf rfl (fun _ _ _ => rfl) fun _ _ select => opPlumbFeatures_leafRun_features select
  case trace => exact givesIf_eachLeaf rfl (fun _ _ _ => rfl) fun _ _ select => opPlumbFeatures_leafRun_trace select
  case material => exact gives_done (fun _ _ _ => rfl) (fun _ _ => rfl)
  case read => exact gives_done (fun _ _ _ => rfl) (fun _ _ => rfl)
  case clear => exact gives_done (fun _ _ _ => rfl) (fun _ _ => rfl)

end Sys2Proof.Machine

namespace Sys2Proof.Machine

open Sys2Proof

/-! ## Excursions that open (R239, R240) -/

/-- A kind that is not open has qualified often enough to open. -/
def State.excDue (s : State) (b : Fin 48) (k : Nat) (x : Exc) : Prop := (s.plumb b).exc[k]? = some x ∧ x.opened = none ∧ s.excMin b ≤ x.runIn

/-- The event of a kind has opened, with the figures of its first window. -/
def State.excOpened (s : State) (b : Fin 48) (k : Nat) (x : Exc) : State :=
  s.onPlumb b fun c => { c with exc := updAt c.exc k fun y => { y with opened := some x.first } }

/-- The alert of an excursion that has opened (R240): the count of those merged into it is that of the state before. -/
def State.excAlert (s : State) (b : Fin 48) (k : Nat) (x : Exc) : State :=
  ((s.excOpened b k x).onPlumb b fun c => { c with excAt := some s.now, excMerged := 0 }).raise 0x0600 0 0 [0, b]
    (leBytes 1 (k + 1) ++ leBytes 1 x.first.profile ++ leBytes 2 (s.plumb b).excMerged ++ placeBytes x.first.place ++ leBytes 4 (unsignedOf 32 x.first.x)
      ++ leBytes 4 (unsignedOf 32 x.first.y))

/-- No alert of the beam is less than 10 ms old. -/
def State.alertFree (s : State) (b : Fin 48) : Bool := match (s.plumb b).excAt with | none => true | some a => decide (a + 10 * milli ≤ s.now)

theorem State.alertFree_iff {s : State} {b : Fin 48} : s.alertFree b = true ↔ ∀ a, (s.plumb b).excAt = some a → a + 10 * milli ≤ s.now := by
  cases h : (s.plumb b).excAt <;> simp [State.alertFree, h]

section Opens

variable {s : State} {b : Fin 48} {k : Nat} {x : Exc} (due : s.excDue b k x)
include due

/-- What an excursion that opens does turns on EXC_ALERT and on the beam's last alert alone. -/
theorem State.excOpen_due :
    s.excOpen b k = if s.regB (beamReg b 0x5000) 1 = false then s.excOpened b k x
      else if s.alertFree b = true then s.excAlert b k x
      else (s.excOpened b k x).onPlumb b fun c => { c with excMerged := min (c.excMerged + 1) 0xFFFF } := by
  obtain ⟨kind, closed, long⟩ := due
  have stays : ¬ (x.opened.isSome = true ∨ x.runIn < s.excMin b) := by simp [closed, long]
  have found : (s.plumb b).exc.getD k ⟨0, 0, noExc, none⟩ = x := by simp [List.getD_eq_getElem?_getD, kind]
  simp only [State.excOpen, found]
  exact if_neg stays

theorem State.excOpen_silent (silent : s.regB (beamReg b 0x5000) 1 = false) : s.excOpen b k = s.excOpened b k x :=
  (State.excOpen_due due).trans (if_pos silent)

theorem State.excOpen_alerts (alerts : s.regB (beamReg b 0x5000) 1 = true) (free : ∀ a, (s.plumb b).excAt = some a → a + 10 * milli ≤ s.now) :
    s.excOpen b k = s.excAlert b k x := by
  rw [State.excOpen_due due, if_neg (by simp [alerts]), if_pos (State.alertFree_iff.mpr free)]

theorem State.excOpen_merges {a : Nat} (alerts : s.regB (beamReg b 0x5000) 1 = true) (last : (s.plumb b).excAt = some a) (recent : s.now < a + 10 * milli) :
    s.excOpen b k = (s.excOpened b k x).onPlumb b fun c => { c with excMerged := min (c.excMerged + 1) 0xFFFF } := by
  have taken : ¬ s.alertFree b = true := fun free => Nat.not_le.mpr recent (State.alertFree_iff.mp free a last)
  rw [State.excOpen_due due, if_neg (by simp [alerts]), if_neg taken]

end Opens

/-- Settles O54: an excursion that opens is silent, alerts, or is counted towards the next alert. -/
theorem excursionAlerts : Obligations.ExcursionAlerts := by
  unfold Obligations.ExcursionAlerts
  intro opens due
  refine ⟨fun b kind x => ?silent, fun b kind x => ?alerts, fun b kind x a => ?merges⟩
  case silent => exact doesBeams (fun _ _ => rfl) fun _ ⟨due, silent⟩ => State.excOpen_silent due silent
  case alerts => exact doesBeams (fun _ _ => rfl) fun _ ⟨due, alerts, free⟩ => State.excOpen_alerts due alerts free
  case merges => exact doesBeams (fun _ _ => rfl) fun _ ⟨due, alerts, last, recent⟩ => State.excOpen_merges due alerts last recent

end Sys2Proof.Machine

namespace Sys2Proof.Machine

open Sys2Proof

/-! ## Group 0x07: the SCRIBE commands (R285-R288, R298, R299) -/

/-- Settles O34: TABLE_WRITE, PASS and QUALITY fan out to beams; TABLE_READ, FIDUCIALS and CONFIRM have one target each, and their clauses write out the `run`. -/
theorem scribeCommands : Obligations.ScribeCommands := by
  refine ⟨?write, ?read, ?fiducials, ?pass, ?confirm, ?quality⟩
  case write => exact gives_eachLeaf rfl fun _ _ _ => rfl
  case read => exact gives_done (fun _ _ _ => rfl) (fun _ _ => rfl)
  case fiducials => exact gives_done (fun _ _ _ => rfl) (fun _ _ => rfl)
  case pass => exact gives_eachLeaf rfl fun _ _ _ => rfl
  case confirm => exact gives_done (fun _ _ _ => rfl) (fun _ _ => rfl)
  case quality => exact gives_eachLeaf rfl fun _ _ _ => rfl

end Sys2Proof.Machine

namespace Sys2Proof.Machine

open Sys2Proof

/-! ## Group 0x08: the VENEER commands (R320, R324, R326, R327, R330, R333) -/

theorem opVeneerCommit_effect {s : State} {c : Ctx} (staged : s.emptySlot (leAt c.params 0 2) = false) :
    opVeneerCommit.effect s c = c.done (s.commitLayers (leAt c.params 0 2)) :=
  if_neg (Bool.eq_false_iff.mp staged)

/-- VENEER_FENCE answers the fence in the state that its operation leaves. -/
theorem opVeneerFence_effect (s : State) (c : Ctx) :
    opVeneerFence.effect s c =
      let v := if byteAt c.params 1 = 1 then s.advance (byteAt c.params 0) else s.setFence (byteAt c.params 0) (leWord c.params 4)
      { c.done v with body := leBytes 4 (v.fence (byteAt c.params 0)).toNat } := rfl

theorem opVeneerFence_effect_advance {s : State} {c : Ctx} (advances : byteAt c.params 1 = 1) :
    opVeneerFence.effect s c =
      let v := s.setFence (byteAt c.params 0) (s.fence (byteAt c.params 0) + 1)
      { c.done v with body := leBytes 4 (v.fence (byteAt c.params 0)).toNat } := by
  rw [opVeneerFence_effect, if_pos advances, State.advance]

theorem opVeneerFence_effect_set {s : State} {c : Ctx} (sets : byteAt c.params 1 ≠ 1) :
    opVeneerFence.effect s c =
      let v := s.setFence (byteAt c.params 0) (leWord c.params 4)
      { c.done v with body := leBytes 4 (v.fence (byteAt c.params 0)).toNat } := by
  rw [opVeneerFence_effect, if_neg sets]

/-- Settles O35: COMMIT and FENCE branch on their parameters; the other clauses write out each opcode's `run`. -/
theorem veneerCommands : Obligations.VeneerCommands := by
  refine ⟨?config, ?commit, ?advance, ?set, ?coefficients, ?frame, ?live⟩
  case config => exact gives_done (fun _ _ _ => rfl) (fun _ _ => rfl)
  case commit => exact givesIf_done (fun _ _ _ => rfl) fun _ _ staged => opVeneerCommit_effect staged
  case advance => exact givesIf_done (fun _ _ _ => rfl) fun _ _ advances => opVeneerFence_effect_advance advances
  case set => exact givesIf_done (fun _ _ _ => rfl) fun _ _ sets => opVeneerFence_effect_set sets
  case coefficients => exact gives_done (fun _ _ _ => rfl) (fun _ _ => rfl)
  case frame => exact gives_done (fun _ _ _ => rfl) (fun _ _ => rfl)
  case live => exact gives_done (fun _ _ _ => rfl) (fun _ _ => rfl)

end Sys2Proof.Machine

namespace Sys2Proof.Machine

open Sys2Proof

/-! ## Group 0x09: the lane and head commands (R343, R344, R352, R353, R369) -/

theorem opLaneBitslip_effect {s : State} {c : Ctx} {l : Lane} (names : c.slipLane = some l) :
    opLaneBitslip.effect s c =
      let v := s.bitslip l (byteAt c.params 1) ((byteAt c.params 2).testBit 0)
      { c.done v with body := leBytes 1 (bit (v.lane l).syncOk) ++ leBytes 1 (v.lane l).slip ++ leBytes 2 0 } := by
  simp only [OpSpec.effect, opLaneBitslip, names]

/-- A scan of the root stays in the device where no worker is to scan the chain's end. -/
theorem State.discover_root_alone {s : State} {c : Ctx} (root : c.target = .root)
    (alone : s.rescan.chain.manager = false ∨ (s.rescan.workers.map (·.1)).max? = none) : s.discover c = s.rescan := by
  unfold State.discover
  simp only [root]
  obtain worker | none_ := alone
  · split
    · rw [if_neg (by simp [worker])]
    · rfl
  · simp only [none_]

/-- A manager's scan of the root goes on at the chain's last worker (log entry 25). -/
theorem State.discover_root_chain {s : State} {c : Ctx} {d : Nat} (root : c.target = .root) (manager : s.rescan.chain.manager = true)
    (last : (s.rescan.workers.map (·.1)).max? = some d) : s.discover c = s.rescan.sendControl .down ctlScan d [] := by
  simp only [State.discover, root, last, manager, if_true]

theorem State.discover_under {s : State} {c : Ctx} (under : c.target ≠ .root) :
    s.discover c = ((s.leavesUnder c.target c.lv).flatMap fun x => leafLanes x.2.1).foldl (fun st l => st.rescanLane l) s := by
  unfold State.discover
  split
  · contradiction
  · rfl

/-- Settles O36: CONFIG and STATUS fan out; BITSLIP turns on the lane that it names, and a scan on its target and on the device's place in the chain. -/
theorem laneCommands : Obligations.LaneCommands := by
  refine ⟨?config, fun l => ?bitslip, ?status, ?bond, ?alone, fun d => ?chain, ?under, ?head⟩
  case config => exact gives_eachLeaf rfl fun _ _ _ => rfl
  case bitslip => exact givesIf_done (fun _ _ _ => rfl) fun _ _ names => opLaneBitslip_effect names
  case status => exact gives_eachLeaf rfl fun _ _ _ => rfl
  case bond => exact gives_done (fun _ _ _ => rfl) (fun _ _ => rfl)
  case alone => exact givesIf_done (fun _ _ _ => rfl) fun _ c ⟨root, alone⟩ => congrArg c.done (State.discover_root_alone root alone)
  case chain => exact givesIf_done (fun _ _ _ => rfl) fun _ c ⟨root, manager, last⟩ => congrArg c.done (State.discover_root_chain root manager last)
  case under => exact givesIf_done (fun _ _ _ => rfl) fun _ c under => congrArg c.done (State.discover_under under)
  case head => exact gives_done (fun _ _ _ => rfl) (fun _ _ => rfl)

end Sys2Proof.Machine

namespace Sys2Proof.Machine

open Sys2Proof

/-! ## Events of lanes and chain, and what reporting leaves of the chain and of device time -/

/-- An event of a block that is awake does `f` where its effect is `f`. -/
theorem doesAwake {i : Nat → Instr} {cond : State → Prop} {f g : State → State} (he : ∀ t s, exec (i t) s = .next (s.chainAct t g)) (hg : ∀ u, cond u → g u = f u) :
    Does i isAwake cond f :=
  doesOf (fun t s h => (he t s).trans (congrArg _ (awE h))) hg

theorem Reported.now {s u : State} (h : Reported s u) : u.now = s.now := by
  obtain ⟨_, _, _, _, _, _, _, rfl, _⟩ := h
  rfl

theorem Reported.chain {s u : State} (h : Reported s u) : u.chain = s.chain := by
  obtain ⟨_, _, _, _, _, _, _, rfl, _⟩ := h
  rfl

theorem Reported.onRport (s : State) (p : RPort) (f : Rafter → Rafter) : Reported s (s.onRport p f) := by
  cases p <;> exact ⟨_, _, _, _, _, _, _, rfl, rfl, rfl, rfl⟩

theorem Reported.syncPort (s : State) (p : RPort) : Reported s (s.syncPort p) :=
  .foldl (fun st _ => .ite ((Reported.sendFrom st _ _ _ _ _ _).trans (.onRport _ _ _)) (.refl st)) _ s

/-! ## PORT_HELLO and INDEX (R364, R365, R367) -/

section Handshake

variable {s : State} {p : RPort} {m : Msg}

theorem State.portHello_neighbour (whole : s.comesWhole p 0x01 m) (near : m.dst = 0xFF) : s.portHello p m = s.neighbourHello p m :=
  (State.rafterMsg_whole whole _).trans (if_pos near)

/-- The manager hears of a worker's neighbour from that worker. -/
theorem State.portHello_found (whole : s.comesWhole .down 0x01 m) (far : m.dst ≠ 0xFF) (manager : s.chain.manager = true) :
    s.portHello .down m = s.partnerFound { helloOf m with via := m.src.toNat } := by
  rw [State.portHello, State.rafterMsg_whole whole, if_neg far, if_neg (by decide), if_pos manager]

/-- A worker passes on what another one has found. -/
theorem State.portHello_passes (whole : s.comesWhole .down 0x01 m) (far : m.dst ≠ 0xFF) (worker : s.chain.manager = false) :
    s.portHello .down m = s.sendFrom .up 0x01 m.src.toNat m.dst.toNat 0 m.payload := by
  rw [State.portHello, State.rafterMsg_whole whole, if_neg far, if_neg (by decide), if_neg (by simp [worker])]

theorem State.indexSeen_own (worker : s.chain.manager = false) (whole : s.comesWhole .up 0x02 m) (own : m.dst = 0xFF) :
    s.indexSeen m = s.takeIndex (byteAt m.payload 0) (timeAt m.payload 4) := by
  rw [State.indexSeen, if_neg (by simp [worker]), State.rafterMsg_whole whole, if_pos (.inl own)]

end Handshake

/-! ## TIME_SYNC and its echo (R366) -/

theorem State.sendSync_manager {s : State} (manager : s.chain.manager = true) : s.sendSync = s.syncPort .down :=
  if_pos ((congrArg Chain.manager (Reported.syncPort s .down).chain).trans manager)

theorem State.sendSync_worker {s : State} (worker : (s.syncPort .down).chain.manager = false) : s.sendSync = (s.syncPort .down).syncPort .up :=
  if_neg (by simp [worker])

/-- TIME_SYNC has been answered on its lane; the turnaround is the implementation's. -/
def State.syncAnswered (s : State) (p : RPort) (k : Nat) (m : Msg) : State :=
  s.draw.2.sendRafter p 0x04 0xFF 0 (leBytes 1 m.seq.toNat ++ leBytes 1 k ++ leBytes 2 0 ++ leBytes 4 s.draw.1)

theorem State.lane_portLane (s : State) (p : RPort) (k : Fin 4) : s.lane (portLane p k) = (s.rport p).lanes.getD k noLane := by cases p <;> rfl

/-- A worker measures its error by the TIME_SYNC on the lowest lane of its upstream port. -/
theorem State.syncSeen_measures {s : State} {m : Msg} (worker : (s.syncAnswered .up 0 m).chain.manager = false) (up : (s.lane (portLane .up 0)).link = .up)
    (whole : s.comesWhole .up 0x03 m) :
    s.syncSeen .up 0 m =
      let v := s.syncAnswered .up 0 m
      v.setReg 0x0800800C (wordOfInt (clampInt (-0x80000000) 0x7FFFFFFF
        (((v.now : Nat) : Int) * 100 - ((timeAt m.payload 0 * 100 + (v.reg (hopDelay .up 0)).toNat : Nat) : Int)))) := by
  have here : ¬ ((s.syncAnswered .up 0 m).chain.manager = true ∨ RPort.up = .down) := by simp [worker]
  rw [State.lane_portLane] at up
  rw [State.syncSeen, if_neg (not_not_intro up), State.rafterMsg_whole whole]
  exact (if_neg here).trans (if_neg Bool.false_ne_true)

/-- What comes from downstream is answered and no more. -/
theorem State.syncSeen_answers {s : State} {k : Fin 4} {m : Msg} (up : (s.lane (portLane .down k)).link = .up) (whole : s.comesWhole .down 0x03 m) :
    s.syncSeen .down k m = s.syncAnswered .down k m := by
  rw [State.lane_portLane] at up
  rw [State.syncSeen, if_neg (not_not_intro up), State.rafterMsg_whole whole]
  exact if_pos (.inr rfl)

theorem State.echoSeen_measures {s : State} {p : RPort} {k : Fin 4} {m : Msg} {q : Byte} {at_ : Nat} (whole : s.comesWhole p 0x04 m)
    (sent : (s.rport p).timeAt.find? (fun e => e.1 == k.val && e.2.1.toNat == byteAt m.payload 0) = some (k.val, q, at_)) :
    s.echoSeen p k m = s.setReg (hopDelay p k) (BitVec.ofNat 32 (((s.now - at_) * 100 - leAt m.payload 4 4) / 2)) := by
  simp only [State.echoSeen, State.rafterMsg_whole whole, sent]

/-! ## CONTROL (R361) -/

/-- A CONTROL message has been acknowledged. -/
def State.ctlAcked (s : State) (p : RPort) (m : Msg) : State := s.sendRafter p 0x21 0xFF 0 ([m.src, m.seq] ++ leBytes 2 0)

/-- Its number is known from now on. -/
def State.ctlNoted (s : State) (p : RPort) (m : Msg) : State := (s.ctlAcked p m).onRport p fun r => { r with ctlSeen := (m.seq :: r.ctlSeen).take 64 }

section Control

variable {s : State} {p : RPort} {m : Msg} (carries : (s.rport p).carries = true)
include carries

theorem State.controlSeen_known (whole : s.comesWhole p 0x20 m) (known : ((s.ctlAcked p m).rport p).ctlSeen.contains m.seq = true) :
    s.controlSeen p m = s.ctlAcked p m := by
  rw [State.controlSeen, State.streamMsg_whole carries whole]
  exact if_pos known

/-- A CONTROL message with a new number is passed on, or executed by the manager or a worker. -/
theorem State.controlSeen_new (whole : s.comesWhole p 0x20 m) (new : ((s.ctlAcked p m).rport p).ctlSeen.contains m.seq = false) :
    s.controlSeen p m =
      let v := s.ctlNoted p m
      if m.dst.toNat ≠ v.chain.index then v.controlFrom (otherPort p) m.src.toNat m.dst.toNat m.payload
      else if v.chain.manager = true then v.managerControl m.src.toNat (byteAt m.payload 0) (m.payload.drop 4)
      else v.workerControl (byteAt m.payload 0) (m.payload.drop 4) := by
  rw [State.controlSeen, State.streamMsg_whole carries whole]
  exact if_neg (Bool.eq_false_iff.mp new)

theorem State.controlAck_whole (whole : s.comesWhole p 0x21 m) :
    s.controlAck p m = s.onRport p fun r => { r with controls := r.controls.filter fun c => !(c.m.src.toNat == byteAt m.payload 0 && c.m.seq.toNat == byteAt m.payload 1) } :=
  State.streamMsg_whole carries whole _

end Control

/-- A CONTROL message that is about to be sent again waits anew for its acknowledgement. -/
def State.ctlWaits (s : State) (p : RPort) (c : Ctl) : State :=
  let v := s.reach (c.sentAt + 5 * micro)
  v.onRport p fun r => { r with controls := r.controls.map fun x => if x.m = c.m then { x with sentAt := v.now } else x }

theorem State.controlRetry_oldest {s : State} {p : RPort} {c : Ctl} {l : List Ctl} (oldest : sortBy (fun (c : Ctl) => c.sentAt) (s.rport p).controls = c :: l)
    (carries : ((s.ctlWaits p c).rport p).carries = true) : s.controlRetry p = (s.ctlWaits p c).emitRafter p 0x20 c.m := by
  simp only [State.controlRetry, oldest]
  exact if_pos carries

/-! ## TIRRIL (R363) -/

section Tirril

variable {s : State} {p : RPort} {m : Msg} (carries : (s.rport p).carries = true) (whole : s.comesWhole p 0x30 m)
include carries whole

theorem State.tirrilSeen_passes (other : m.dst.toNat ≠ s.chain.index) :
    s.tirrilSeen p m = s.sendFrom (otherPort p) 0x30 m.src.toNat m.dst.toNat m.flags.toNat m.payload := by
  rw [State.tirrilSeen, State.streamMsg_whole carries whole, if_pos other]

/-- A segment that is FIRST and LAST is a whole packet. -/
theorem State.tirrilSeen_single (own : m.dst.toNat = s.chain.index) (first : m.flags.getLsbD 0 = true) (last : m.flags.getLsbD 1 = true) :
    s.tirrilSeen p m = (s.onRport p fun r => { r with segs := putKey m.src.toNat [] [] r.segs }).chainPacket m.src.toNat m.payload := by
  simp only [State.tirrilSeen, State.streamMsg_whole carries whole, own, ne_eq, not_true_eq_false, if_false, first, last, if_true]

/-- A segment that is neither joins those before it. -/
theorem State.tirrilSeen_middle (own : m.dst.toNat = s.chain.index) (first : m.flags.getLsbD 0 = false) (last : m.flags.getLsbD 1 = false) :
    s.tirrilSeen p m = s.onRport p fun r => { r with segs := putKey m.src.toNat (getKey m.src.toNat [] (s.rport p).segs ++ m.payload) [] r.segs } := by
  simp only [State.tirrilSeen, State.streamMsg_whole carries whole, own, ne_eq, not_true_eq_false, if_false, first, last, Bool.false_eq_true]

end Tirril

/-- A worker that was present is lost (R367). -/
theorem State.workerGone_lost {s : State} {i : Fin 16} (manager : s.chain.manager = true) (worker : i ≠ 0) (present : s.chain.present.getLsbD i.val = true) :
    s.workerGone i = (s.deviceLost i.val 1).holdCause 8 :=
  if_pos (by simp [manager, present, worker])

/-- Settles O57: a message that came whole is taken as its type and its destination say; the manager's part of TIME_SYNC rests on what sending it leaves of the chain. -/
theorem chainEvents : Obligations.ChainEvents := by
  unfold Obligations.ChainEvents
  intro comes sync acked fresh noted
  have sends (p : RPort) (s : State) : sync p s = s.syncPort p := rfl
  refine ⟨fun m => ?neighbour, fun m => ?found, fun m => ?helloPasses, fun p m => ?helloSpoilt, fun m => ?index, ?syncManager, ?syncWorker, fun m => ?measures,
    fun k m => ?answers, fun p k m q at_ => ?echo, fun p m => ?known, fun p m => ?passes, fun p m => ?manager, fun p m => ?worker, fun s b => ?mode, fun p m => ?ack,
    fun p c l => ?retry, fun p m => ?segmentPasses, fun p m => ?single, fun p m => ?middle, fun i => ?lost⟩
  case neighbour => exact doesAwake (fun _ _ => rfl) fun _ ⟨whole, near⟩ => State.portHello_neighbour whole near
  case found => exact doesAwake (fun _ _ => rfl) fun _ ⟨whole, far, manager⟩ => State.portHello_found whole far manager
  case helloPasses => exact doesAwake (fun _ _ => rfl) fun _ ⟨whole, far, worker⟩ => State.portHello_passes whole far worker
  case helloSpoilt => exact doesAwake (fun _ _ => rfl) fun _ spoilt => State.rafterMsg_spoilt spoilt _
  case index => exact doesAwake (fun _ _ => rfl) fun _ ⟨worker, whole, own⟩ => State.indexSeen_own worker whole own
  case syncManager => exact doesAwake (fun _ _ => rfl) fun _ manager => State.sendSync_manager manager
  case syncWorker =>
    refine doesAwake (fun _ _ => rfl) fun u worker => ?_
    rw [sends] at worker
    rw [sends, sends]
    exact State.sendSync_worker worker
  case measures => exact doesAwake (fun _ _ => rfl) fun _ ⟨worker, up, whole⟩ => State.syncSeen_measures worker up whole
  case answers => exact doesAwake (fun _ _ => rfl) fun _ ⟨up, whole⟩ => State.syncSeen_answers up whole
  case echo => exact doesAwake (fun _ _ => rfl) fun _ ⟨whole, sent⟩ => State.echoSeen_measures whole sent
  case known => exact doesUp (fun _ _ => rfl) fun _ ⟨carries, whole, known⟩ => State.controlSeen_known carries whole known
  case passes => exact doesUp (fun _ _ => rfl) fun _ ⟨⟨carries, whole, new⟩, other⟩ => (State.controlSeen_new carries whole new).trans (if_pos other)
  case manager =>
    exact doesUp (fun _ _ => rfl) fun _ ⟨⟨carries, whole, new⟩, own, manager⟩ =>
      (State.controlSeen_new carries whole new).trans ((if_neg (not_not_intro own)).trans (if_pos manager))
  case worker =>
    exact doesUp (fun _ _ => rfl) fun _ ⟨⟨carries, whole, new⟩, own, worker⟩ =>
      (State.controlSeen_new carries whole new).trans ((if_neg (not_not_intro own)).trans (if_neg (Bool.eq_false_iff.mp worker)))
  case mode => exact if_pos rfl
  case ack => exact doesUp (fun _ _ => rfl) fun _ ⟨carries, whole⟩ => State.controlAck_whole carries whole
  case retry => exact doesUp (fun _ _ => rfl) fun _ ⟨oldest, carries⟩ => State.controlRetry_oldest oldest carries
  case segmentPasses => exact doesAwake (fun _ _ => rfl) fun _ ⟨carries, whole, other⟩ => State.tirrilSeen_passes carries whole other
  case single => exact doesAwake (fun _ _ => rfl) fun _ ⟨carries, whole, own, first, last⟩ => State.tirrilSeen_single carries whole own first last
  case middle => exact doesAwake (fun _ _ => rfl) fun _ ⟨carries, whole, own, first, last⟩ => State.tirrilSeen_middle carries whole own first last
  case lost => exact doesUp (fun _ _ => rfl) fun _ ⟨manager, worker, present⟩ => State.workerGone_lost manager worker present

end Sys2Proof.Machine

namespace Sys2Proof.Machine

open Sys2Proof

/-! ## Training and losses of a lane (R340, R342-R345) -/

section Training

variable {s : State} {l : Lane}

theorem State.laneSignalLost_up {c : LossCause} (on : s.laneOn l = true) (up : (s.lane l).link = .up) :
    s.laneSignalLost l c = (s.loseLane l c).onLane l fun x => x.lose c := by
  rw [State.laneSignalLost, if_neg (by simp [on]), if_pos up]

/-- A lane short of UP shows a loss in LOS and LOL alone (R368). -/
theorem State.laneSignalLost_training {c : LossCause} (on : s.laneOn l = true) (down : (s.lane l).link ≠ .up) (trains : (s.lane l).link.trains = true) :
    s.laneSignalLost l c = s.onLane l fun x => x.lose c := by
  rw [State.laneSignalLost, if_neg (by simp [on]), if_neg down, if_pos trains]

theorem State.laneSignalOk_signal (waits : (s.lane l).link = .signal) :
    s.laneSignalOk l = s.onLane l fun x => { x with los := false, lol := false, link := .align, manualDone := false } :=
  if_pos waits

theorem State.laneAligned_joist {n : Fin 16} {pos : Nat} (searches : (s.lane (.joist n)).link = .align) (auto : s.alignManual (.joist n) = false) :
    s.laneAligned (.joist n) pos = s.onLane (.joist n) fun x => { x with link := .hello, slip := pos, syncOk := true } :=
  if_pos ⟨searches, auto⟩

/-- A rafter lane that is aligned says PORT_HELLO. -/
theorem State.laneAligned_rafter {p : RPort} {k pos : Nat} (rafter : lanePort l = some (p, k)) (searches : (s.lane l).link = .align) (auto : s.alignManual l = false) :
    s.laneAligned l pos = (s.onLane l fun x => { x with link := .hello, slip := pos, syncOk := true }).sendHello p := by
  simp only [State.laneAligned, searches, auto, and_self, if_true, rafter]

theorem State.attemptTimeout_fails
    (tries : (s.lane l).link = .signal ∨ (s.lane l).link = .hello ∨ ((s.lane l).link = .align ∧ (s.alignManual l && !(s.lane l).manualDone) = false)) :
    s.attemptTimeout l = (s.reach ((s.lane l).since + 20 * milli)).attemptFails l := by
  refine if_pos ?_
  obtain signal | hello | ⟨align, searches⟩ := tries
  · simp [signal]
  · simp [hello]
  · simpa [align] using searches

end Training

/-! ## The stripe of a rafter port (R356-R358) -/

theorem State.onRport_onRport (s : State) (p : RPort) (f g : Rafter → Rafter) : (s.onRport p f).onRport p g = s.onRport p fun r => g (f r) := by
  cases p <;> rfl

section Stripe

variable {s : State} {p : RPort} {k : Nat}

/-- The last ALIGN block of a lane is kept. -/
def State.alignKept (s : State) (p : RPort) (k c : Nat) : State := s.onRport p fun r => { r with aligns := updAt r.aligns k fun _ => (s.now, c) }

theorem State.alignBlock_match {num c : Nat} {l : Lane} (up : (s.lane l).link = .up) (ok : (s.rport p).alignOk s.now k num c = true) :
    s.alignBlock p k num c l = (s.alignKept p k c).alignSeen p k := by
  rw [State.alignBlock, if_neg (not_not_intro up)]
  exact if_pos ok

theorem State.alignBlock_mismatch {num c : Nat} {l : Lane} (up : (s.lane l).link = .up) (bad : (s.rport p).alignOk s.now k num c = false) :
    s.alignBlock p k num c l = (s.alignKept p k c).laneSignalLost l .align := by
  rw [State.alignBlock, if_neg (not_not_intro up)]
  exact if_neg (Bool.eq_false_iff.mp bad)

/-- A lane outside the stripe of a DEGRADED port rejoins it at the second block in a row with clean headers between (R358). -/
theorem State.alignSeen_rejoins (up : ((s.rport p).lanes.getD k noLane).link = .up) (out : (s.rport p).inStripe.getD k false = false) (three : (s.rport p).port = .degraded) :
    s.alignSeen p k =
      if (s.rport p).clean.getD k false then ((s.countRebuilt p).onRport p fun r => { r with inStripe := updAt r.inStripe k fun _ => true, port := .up }).settle (portLeaf p)
      else s.onRport p fun r => { r with clean := updAt r.clean k fun _ => true } := by
  have waits : ¬ (((s.rport p).lanes.getD k noLane).link ≠ .up ∨ (s.rport p).inStripe.getD k false = true) :=
    not_or.mpr ⟨not_not_intro up, Bool.eq_false_iff.mp out⟩
  exact (if_neg waits).trans (if_pos three)

/-- The first lane that leaves the stripe of a port that is UP leaves it DEGRADED (R357). -/
theorem State.erase_first (member : (s.rport p).inStripe.getD k false = true) (four : (s.rport p).port = .up) :
    s.erase p k = (s.onRport p fun r => { r with
      inStripe := updAt r.inStripe k fun _ => false, erasedAt := updAt r.erasedAt k fun _ => s.now, clean := updAt r.clean k fun _ => false, port := .degraded }).unitFault
        (portLeaf p) stDegraded 0x42 := by
  simp only [State.erase, member, four, Bool.true_eq_false, if_false, if_true, State.onRport_onRport]

end Stripe

/-! ## Messages of a head (R339, R341) -/

section HeadMessage

variable {s : State} {n : Fin 16} {type : Nat} {m : Msg} {f : State → State}

theorem State.headMsg_good (good : msgGood type m = true) : s.headMsg n type m f = f s := if_neg (by simp [good])

theorem State.upMsg_good (good : msgGood type m = true) (up : (s.joist n).lane.link = .up) : s.upMsg n type m f = f s :=
  (State.headMsg_good good).trans (if_pos up)

theorem State.headMsg_bad (bad : msgGood type m = false) (up : (s.joist n).lane.link = .up) : s.headMsg n type m f = s.count (jlReg n 0x10) :=
  (if_pos bad).trans (if_pos (.inl up))

theorem State.frameHit_good (good : msgGood type m = true) : s.frameHit n type m = s := if_pos good

theorem State.frameHit_bad (bad : msgGood type m = false) :
    s.frameHit n type m = s.onJoist (s.headLane n) fun j => { j with frame := j.frame.map fun f => { f with bad := true } } :=
  if_neg (by simp [bad])

theorem State.joist_onJoist_same (s : State) (n : Fin 16) (g : Joist → Joist) : (s.onJoist n g).joist n = g (s.joist n) := vmod_same _ _ _

theorem State.joist_onJoist_other (s : State) {n k : Fin 16} (g : Joist → Joist) (other : n ≠ k) : (s.onJoist n g).joist k = s.joist k := vmod_other _ _ _ _ other

/-- A change that leaves a joist's lane alone leaves every lane's. -/
theorem State.lane_onJoist (s : State) (n k : Fin 16) {g : Joist → Joist} (stays : ∀ j, (g j).lane = j.lane) : ((s.onJoist n g).joist k).lane = (s.joist k).lane := by
  by_cases same : n = k
  · subst same
    rw [State.joist_onJoist_same, stays]
  · rw [State.joist_onJoist_other s g same]

end HeadMessage

/-! ## HELLO (R346) -/

/-- The 32 bytes that a HELLO says. -/
def helloSaid (m : Msg) : List Byte := (m.payload ++ List.replicate 32 0).take 32

theorem State.onLane_now (s : State) (l : Lane) (f : LaneSt → LaneSt) : (s.onLane l f).now = s.now := by cases l <;> rfl

theorem State.laneUp_now (s : State) (l : Lane) (role : Nat) : (s.laneUp l role).now = s.now := by
  refine (Reported.raise _ _ _ _ _ _).now.trans ((State.onLane_now _ _ _).trans ?_)
  split <;> rfl

section Hello

variable {s : State} {n : Fin 16} {m : Msg} (good : msgGood 0x01 m = true)
include good

/-- A HELLO of an unknown class fails the attempt. -/
theorem State.headHello_unknown (waits : (s.joist n).lane.link = .hello) (unknown : byteAt (helloSaid m) 0 = 0 ∨ 3 < byteAt (helloSaid m) 0) (first : (s.joist n).head = []) :
    s.headHello n m = (s.takeHead n (helloSaid m)).attemptFails (.joist n) := by
  rw [helloSaid] at unknown ⊢
  simp only [State.headHello, State.headMsg_good good, waits, first, bne_self_eq_false, Bool.false_and, unknown, ne_eq, not_true_eq_false, reduceCtorEq, false_and,
    Bool.false_eq_true, if_false, if_true]

/-- A head that says HELLO again is welcomed again. -/
theorem State.headHello_again (up : (s.joist n).lane.link = .up) (same : headId (s.joist n).head = headId (helloSaid m)) :
    s.headHello n m = (s.takeHead n (helloSaid m)).sendJoist n 0x41 [] := by
  rw [helloSaid] at same ⊢
  simp only [State.headHello, State.headMsg_good good, up, same, bne_self_eq_false, Bool.and_false, ne_eq, not_true_eq_false, and_false, Bool.false_eq_true, if_false, if_true]

/-- Another head on a lane that is up makes the lane train again; what the former one was asked is lost. -/
theorem State.headHello_other (up : (s.joist n).lane.link = .up) (known : (s.joist n).head ≠ []) (other : headId (s.joist n).head ≠ headId (helloSaid m)) :
    s.headHello n m =
      let v := s.takeHead n (helloSaid m)
      let w := v.onJoist (v.headLane n) fun j => { j with command := loseReply j.command }
      ((w.dropFrame (w.headLane n)).count (jlReg n 0x20)).startLane (.joist n) false 0 := by
  rw [helloSaid] at other ⊢
  have changed : ((s.joist n).head != [] && headId (s.joist n).head != headId ((m.payload ++ List.replicate 32 0).take 32)) = true :=
    Bool.and_eq_true_iff.mpr ⟨bne_iff_ne.mpr known, bne_iff_ne.mpr other⟩
  simp only [State.headHello, State.headMsg_good good, up, changed, ne_eq, not_true_eq_false, and_false, and_self, if_false, if_true]

/-- The first HELLO of a known class brings a training lane up. -/
theorem State.headHello_known (waits : (s.joist n).lane.link = .hello) (atLeast : 1 ≤ byteAt (helloSaid m) 0) (atMost : byteAt (helloSaid m) 0 ≤ 3)
    (first : (s.joist n).head = []) :
    s.headHello n m =
      let v := ((s.takeHead n (helloSaid m)).sendJoist n 0x41 []).laneUp (.joist n) (byteAt (helloSaid m) 0)
      let w := (v.onJoist n fun j => { j with echoAt := v.now }).rateBack n
      if w.unitState (.joist n) = stAbsent then w.setUnit (.joist n) stOk else w.settle (.joist n) := by
  have known : ¬ (byteAt (helloSaid m) 0 = 0 ∨ 3 < byteAt (helloSaid m) 0) := by omega
  rw [helloSaid] at known ⊢
  simp only [State.headHello, State.headMsg_good good, waits, first, bne_self_eq_false, Bool.false_and, known, ne_eq, not_true_eq_false, reduceCtorEq, false_and,
    Bool.false_eq_true, if_false, State.laneUp_now]
  rfl

end Hello

end Sys2Proof.Machine

namespace Sys2Proof.Machine

open Sys2Proof

/-! ## Camera frames (R347, R349, R353) -/

section Frames

variable {s : State} {n : Fin 16} {m : Msg}

/-- A new frame drops the open one. -/
theorem State.frameStart_opens (good : msgGood 0x02 m = true) (up : (s.joist n).lane.link = .up) (full : ((s.dropFrame (s.headLane n)).joist (s.headLane n)).half = false) :
    s.frameStart n m = (s.dropFrame (s.headLane n)).onJoist (s.headLane n) fun j => { j with
      frame := some { num := leWord m.payload 0, width := leAt m.payload 4 2, height := leAt m.payload 6 2, bits := byteAt m.payload 8, lines := [], bad := false } } := by
  simp only [State.frameStart, State.upMsg_good good up, full, Bool.false_and, Bool.false_eq_true, if_false]

/-- A line that did not come whole is counted, and spoils the open frame. -/
theorem State.lineSeen_bad (bad : msgGood 0x03 m = false) (up : (s.joist n).lane.link = .up) :
    s.lineSeen n m = (s.onJoist (s.headLane n) fun j => { j with frame := j.frame.map fun f => { f with bad := true } }).count (jlReg n 0x10) := by
  have lane := State.lane_onJoist s (s.headLane n) n (g := fun j => { j with frame := j.frame.map fun f => { f with bad := true } }) fun _ => rfl
  rw [State.lineSeen, State.frameHit_bad bad]
  exact State.headMsg_bad bad ((congrArg LaneSt.link lane).trans up)

/-- A line of the open frame that it does not have yet. -/
theorem State.lineSeen_new {f : RxFrame} (good : msgGood 0x03 m = true) (up : (s.joist n).lane.link = .up) (opened : (s.joist (s.headLane n)).frame = some f)
    (named : leAt m.payload 0 2 = f.num.toNat % 65536) (within : leAt m.payload 2 2 < f.height)
    (length : (m.payload.drop 4).length = f.width * (if f.bits = 8 then 1 else 2)) (new : ∀ l ∈ f.lines, l.1 ≠ leAt m.payload 2 2) :
    s.lineSeen n m = s.onJoist (s.headLane n) fun j => { j with frame := some { f with lines := (leAt m.payload 2 2, m.payload.drop 4) :: f.lines } } := by
  have unseen : (f.lines.any fun l => l.1 == leAt m.payload 2 2) = false := by simpa using new
  simp only [State.lineSeen, State.frameHit_good good, State.upMsg_good good up, opened, named, within, length, unseen, BEq.rfl, decide_true, Bool.not_false, Bool.and_self,
    if_true]

section FrameEnd

variable (good : msgGood 0x04 m = true) (up : (s.joist n).lane.link = .up)
include good up

theorem State.frameEnd_none (none_ : (s.joist (s.headLane n)).frame = none) :
    s.frameEnd n m = if byteAt (s.joist (s.headLane n)).head 0 = 3 then s else (s.count (jlReg (s.headLane n) 0x18)).coaxBad (s.headLane n) := by
  simp only [State.frameEnd, State.frameHit_good good, State.upMsg_good good up, none_]

variable {f : RxFrame} (opened : (s.joist (s.headLane n)).frame = some f)
include opened

/-- A camera's frame that is not whole is counted as bad. -/
theorem State.frameEnd_bad (torn : f.whole m = none) (camera : byteAt (s.joist (s.headLane n)).head 0 ≠ 3) :
    s.frameEnd n m = ((s.onJoist (s.headLane n) fun j => { j with frame := none }).count (jlReg (s.headLane n) 0x18)).coaxBad (s.headLane n) := by
  simp only [State.frameEnd, State.frameHit_good good, State.upMsg_good good up, opened, torn, camera, if_false]

variable {rows : List (List Byte)} (whole : f.whole m = some rows)
include whole

/-- A layer camera's frame goes to its capture ring. -/
theorem State.frameEnd_layer (layer : byteAt (s.joist (s.headLane n)).head 0 = 1) :
    s.frameEnd n m = ((s.onJoist (s.headLane n) fun j => { j with frame := none }).count (jlReg (s.headLane n) 0x14)).capture (s.headLane n) f rows := by
  simp only [State.frameEnd, State.frameHit_good good, State.upMsg_good good up, opened, whole, layer, OfNat.one_ne_ofNat, false_and, or_self, if_false]

/-- A coaxial camera's frame goes to the beams of that camera. -/
theorem State.frameEnd_coax (coax : byteAt (s.joist (s.headLane n)).head 0 = 2)
    (watched : (s.onJoist (s.headLane n) fun j => { j with frame := none }).camBeams (s.headLane n) ≠ []) :
    s.frameEnd n m =
      let v := (s.onJoist (s.headLane n) fun j => { j with frame := none }).count (jlReg (s.headLane n) 0x14)
      (v.camBeams (s.headLane n)).foldl (fun st b =>
        st.coaxFrame b f.width f.height f.bits (timeAt m.payload 4) (timeAt m.payload 12) (rows.map (pixelsOf f.bits)) false (st.gNext b)) v := by
  simp only [State.frameEnd, State.frameHit_good good, State.upMsg_good good up, opened, whole, coax, List.isEmpty_iff, watched, Nat.reduceEqDiff, and_false, or_self,
    if_false, if_true]

end FrameEnd

theorem RxFrame.whole_of_rows {f : RxFrame} {rows : List (List Byte)} (complete : f.rows = some rows) (sound : f.bad = false) (named : leWord m.payload 0 = f.num)
    (crc : crc32c rows.flatten = leWord m.payload 20) : f.whole m = some rows := by
  simp only [RxFrame.whole, complete, sound, named, crc, and_self, if_true]

end Frames

/-! ## Sensors, replies and time (R348, R350-R352) -/

section Heads

variable {s : State} {n : Fin 16} {m : Msg}

section Up

variable (up : (s.joist n).lane.link = .up)
include up

theorem State.sensor_empty (good : msgGood 0x05 m = true) (short : m.payload.length < 12) : s.sensor n m = s := by
  have none_ : min 16 ((m.payload.length - 8) / 4) = 0 := by omega
  rw [State.sensor, State.upMsg_good good up]
  simp only [none_, List.range_zero, List.foldl_nil]

/-- One entry gives one channel its value and time. -/
theorem State.sensor_one (good : msgGood 0x05 m = true) (length : m.payload.length = 12) (channel : byteAt m.payload 8 ≤ 15) :
    s.sensor n m =
      let c := byteAt m.payload 8
      let t := timeAt m.payload 0
      let v := byteAt m.payload 9 * 65536 + leAt m.payload 10 2
      let h := s.headLane n
      ((s.onJoist h fun j => { j with sensors := putSensor (c, v, t) j.sensors }).setReg (jlReg h (0x80 + 8 * c)) (BitVec.ofNat 32 v)).setReg
        (jlReg h (0x84 + 8 * c)) (BitVec.ofNat 32 (nsOf t)) := by
  rw [State.sensor, State.upMsg_good good up, length]
  exact if_neg channel.not_gt

theorem State.replySeen_awaited {tag : BitVec 16} {at_ : Nat} (good : msgGood 0x06 m = true) (awaited : (s.joist (s.headLane n)).command = some (tag, at_, false))
    (tagged : leAt m.payload 0 2 = tag.toNat) :
    s.replySeen n m = (s.onJoist (s.headLane n) fun j => { j with command := none }).headReply (s.headLane n) tag.toNat 0 ((m.payload.drop 4).take 1024) := by
  simp only [State.replySeen, State.upMsg_good good up, awaited, tagged, and_self, if_true]

theorem State.timeEcho_measures {q at_ : Nat} (good : msgGood 0x08 m = true)
    (sent : (s.joist n).timeAt.find? (fun e => e.1 == byteAt m.payload 0) = some (q, at_)) :
    s.timeEcho n m = (s.onJoist n fun j => { j with echoAt := s.now }).setReg (jlReg n 0xC) (BitVec.ofNat 32 ((s.now - at_ - leAt m.payload 4 4) / 2)) := by
  simp only [State.timeEcho, State.upMsg_good good up, State.joist_onJoist_same, sent, State.onJoist_now]

end Up

theorem State.replyTimeout_gone {tag : BitVec 16} {at_ : Nat} {gone : Bool} (awaited : (s.joist n).command = some (tag, at_, gone)) :
    s.replyTimeout n = ((s.reach (at_ + 100 * milli)).onJoist n fun j => { j with command := none }).headReply n tag.toNat 1 [] := by
  simp only [State.replyTimeout, awaited]

end Heads

/-- Settles O56: a lane's link decides what an event of it does, and a head's message is taken where it came whole over a lane that is up. -/
theorem laneAndHeadEvents : Obligations.LaneAndHeadEvents := by
  refine ⟨?lanes, ?heads⟩
  case lanes =>
    refine ⟨fun l c => ?lost, fun l c => ?noted, fun l => ?signal, fun n pos => ?joistAligned, fun l p k pos rafter => ?rafterAligned, fun l => ?timeout, fun l => ?backoff,
      ?rescan, fun p k num c => ?joins, fun p k num c => ?misaligned, fun p k num c => ?early, fun s p k => ?rejoins, fun p k => ?erased, fun p k => ?spoils, fun s p k => ?first⟩
    case lost => exact doesAwake (fun _ _ => rfl) fun _ ⟨on, up⟩ => State.laneSignalLost_up on up
    case noted => exact doesAwake (fun _ _ => rfl) fun _ ⟨on, down, trains⟩ => State.laneSignalLost_training on down trains
    case signal => exact doesAwake (fun _ _ => rfl) fun _ waits => State.laneSignalOk_signal waits
    case joistAligned => exact doesAwake (fun _ _ => rfl) fun _ ⟨searches, auto⟩ => State.laneAligned_joist searches auto
    case rafterAligned => exact doesAwake (fun _ _ => rfl) fun _ ⟨searches, auto⟩ => State.laneAligned_rafter rafter searches auto
    case timeout => exact doesAwake (fun _ _ => rfl) fun _ tries => State.attemptTimeout_fails tries
    case backoff => exact doesAwake (fun _ _ => rfl) fun _ waits => if_pos waits
    case rescan => exact alwaysUp (fun _ _ => rfl) fun _ => rfl
    case joins => exact doesAwake (fun _ _ => rfl) fun _ ⟨up, ok⟩ => State.alignBlock_match up ok
    case misaligned => exact doesAwake (fun _ _ => rfl) fun _ ⟨up, bad⟩ => State.alignBlock_mismatch up bad
    case early => exact doesAwake (fun _ _ => rfl) fun _ down => if_pos down
    case rejoins => exact State.alignSeen_rejoins
    case erased => exact doesAwake (fun _ _ => rfl) fun _ member => if_pos member
    case spoils => exact doesAwake (fun _ _ => rfl) fun _ out => if_neg (Bool.eq_false_iff.mp out)
    case first => exact State.erase_first
  case heads =>
    refine ⟨fun n m => ?helloBad, fun n m => ?unknown, fun n m => ?again, fun n m => ?other, fun n m => ?known, fun n m => ?frameStart, fun n m => ?lineBad, fun n m f => ?line,
      fun n m => ?noFrame, fun n m f => ?frameBad, fun n m f rows => ?layer, fun n m f rows => ?coax, fun n m => ?noSensor, fun n m c => ?sensor, fun n m tag at_ => ?reply,
      fun n m => ?window, fun n => ?time, fun n m q at_ => ?echo, fun n => ?miss, fun n tag at_ gone => ?replyTimeout⟩
    case helloBad => exact doesAwake (fun _ _ => rfl) fun _ ⟨bad, up⟩ => State.headMsg_bad bad up
    case unknown => exact doesAwake (fun _ _ => rfl) fun _ ⟨good, waits, unknown, first⟩ => State.headHello_unknown good waits unknown first
    case again => exact doesAwake (fun _ _ => rfl) fun _ ⟨⟨good, up⟩, _, same⟩ => State.headHello_again good up same
    case other => exact doesAwake (fun _ _ => rfl) fun _ ⟨⟨good, up⟩, known, other⟩ => State.headHello_other good up known other
    case known => exact doesAwake (fun _ _ => rfl) fun _ ⟨good, waits, atLeast, atMost, first⟩ => State.headHello_known good waits atLeast atMost first
    case frameStart => exact doesUp (fun _ _ => rfl) fun _ ⟨⟨good, up⟩, full⟩ => State.frameStart_opens good up full
    case lineBad => exact doesUp (fun _ _ => rfl) fun _ ⟨bad, up⟩ => State.lineSeen_bad bad up
    case line => exact doesUp (fun _ _ => rfl) fun _ ⟨⟨good, up⟩, opened, named, within, length, new⟩ => State.lineSeen_new good up opened named within length new
    case noFrame => exact doesUp (fun _ _ => rfl) fun s ⟨⟨good, up⟩, none_⟩ => congrArg (State.memMet · (s.captureMeets n m)) (State.frameEnd_none good up none_)
    case frameBad =>
      exact doesUp (fun _ _ => rfl) fun s ⟨⟨good, up⟩, opened, torn, camera⟩ => congrArg (State.memMet · (s.captureMeets n m)) (State.frameEnd_bad good up opened torn camera)
    case layer =>
      exact doesUp (fun _ _ => rfl) fun s ⟨⟨good, up⟩, opened, complete, sound, named, crc, layer⟩ =>
        congrArg (State.memMet · (s.captureMeets n m)) (State.frameEnd_layer good up opened (RxFrame.whole_of_rows complete sound named crc) layer)
    case coax =>
      exact doesUp (fun _ _ => rfl) fun s ⟨⟨good, up⟩, opened, whole, coax, watched⟩ =>
        congrArg (State.memMet · (s.captureMeets n m)) (State.frameEnd_coax good up opened whole coax watched)
    case noSensor => exact doesUp (fun _ _ => rfl) fun _ ⟨⟨good, up⟩, short⟩ => State.sensor_empty up good short
    case sensor =>
      refine doesUp (fun _ _ => rfl) fun _ ⟨⟨good, up⟩, length, channel, within⟩ => ?_
      subst channel
      exact State.sensor_one up good length within
    case reply => exact doesUp (fun _ _ => rfl) fun _ ⟨⟨good, up⟩, awaited, tagged⟩ => State.replySeen_awaited up good awaited tagged
    case window => exact doesUp (fun _ _ => rfl) fun _ ⟨good, up⟩ => State.upMsg_good good up
    case time => exact doesUp (fun _ _ => rfl) fun _ up => if_pos up
    case echo => exact doesUp (fun _ _ => rfl) fun _ ⟨⟨good, up⟩, sent⟩ => State.timeEcho_measures up good sent
    case miss => exact doesUp (fun _ _ => rfl) fun _ up => if_pos up
    case replyTimeout => exact doesUp (fun _ _ => rfl) fun _ awaited => State.replyTimeout_gone awaited

end Sys2Proof.Machine

namespace Sys2Proof.Machine

open Sys2Proof

/-! ## Group 0x0A: the time commands (R391, R395) -/

/-- TIME_STEP steps OFFSET as FORCE or as the host does, and a servo that held a step tracks again. -/
theorem opTimeStep_effect (s : State) (c : Ctx) :
    opTimeStep.effect s c =
      { c.done (s.offsetStep fun u =>
          let v := u.stepTo (if stepForce c then 3 else 2) (s.stepTarget c)
          if v.time.servo = .stepHeld then v.setServo .tracking else v.timeStatus) with body := s64 s.newOffset ++ s64 (s.stepTarget c) } := rfl

/-- Settles O37: TIME_GET and TIME_STATUS read alone, two commands write registers, and TIME_STEP is `opTimeStep_effect`. -/
theorem timeCommands : Obligations.TimeCommands := by
  refine ⟨?get, ?servo, ?step, ?ptp, ?status⟩
  case get => exact gives_done (fun _ _ _ => rfl) (fun _ _ => rfl)
  case servo => exact gives_done (fun _ _ _ => rfl) (fun _ _ => rfl)
  case step => exact gives_done (fun _ _ _ => rfl) opTimeStep_effect
  case ptp => exact gives_done (fun _ _ _ => rfl) (fun _ _ => rfl)
  case status => exact gives_done (fun _ _ _ => rfl) (fun _ _ => rfl)

end Sys2Proof.Machine

namespace Sys2Proof.Machine

open Sys2Proof

/-! ## Links of the Ethernet ports, ARP and echo (R378, R380) -/

section Ethernet

variable {s : State} {n : Fin 2}

theorem State.ethFrame_enabled (enabled : s.regB (ethReg n 4) 0 = true) (f : State → State) : s.ethFrame n f = f (s.count (ethReg n 0x20)) :=
  if_pos enabled

/-- The link of an enabled port rises: its status shows it before the unit recovers, and PTP joins its group before the alert. -/
theorem State.ethUp_rises (enabled : s.regB (ethReg n 4) 0 = true) (down : s.linkUp (if n = 0 then .eth0 else .eth1) = false) :
    s.ethUp n =
      let v := (s.onTime fun u => if n = 0 then { u with linkUp0 := true, everUp0 := true } else { u with linkUp1 := true, everUp1 := true }).setF (ethReg n 0x18) 0 3
        (3 + 4 * bit (s.regB (ethReg n 4) 2))
      let w := if v.unitState (.eth n) = stAbsent then v.setUnit (.eth n) stOk else v.settle (.eth n)
      (if w.ptpOn n = true then w.emit (.igmp n) else w).linkAlert n true :=
  if_neg (by simp [enabled, down])

theorem State.ethUp_disabled (disabled : s.regB (ethReg n 4) 0 = false) : s.ethUp n = s := if_pos (.inl disabled)

theorem State.ethDown_falls (up : s.linkUp (if n = 0 then .eth0 else .eth1) = true) :
    s.ethDown n =
      let v := s.onTime fun u => if n = 0 then { u with linkUp0 := false } else { u with linkUp1 := false }
      ((((v.setF (ethReg n 0x18) 0 3 0).count (ethReg n 0x1C)).unitFault (.eth n) stFault 0x50).linkAlert n false).ptpLeaves n :=
  if_neg (by simp [up])

theorem State.arp_own {sender : HostAddr} {target : Word} (enabled : s.regB (ethReg n 4) 0 = true) (own : target = s.reg (ethReg n 0x10)) :
    s.arp n sender target = (s.count (ethReg n 0x20)).emit (.arp n sender) :=
  if_pos (by simp [enabled, own])

theorem State.echo_own {sender : HostAddr} {target : Word} {data : List Byte} (enabled : s.regB (ethReg n 4) 0 = true) (own : target = s.reg (ethReg n 0x10))
    (short : data.length ≤ 1472) : s.echo n sender target data = (s.count (ethReg n 0x20)).emit (.icmp n sender data) :=
  if_pos (by simp [enabled, own, short])

end Ethernet

/-! ## The choice of the master (R384, R385) -/

/-- The sender of an Announce becomes the port's master: it qualifies, and it is the one already in use or a better one. -/
def PtpPort.takes (p : PtpPort) (a : Announce) (now : Nat) : Bool :=
  p.qualifies a now && match p.best with
    | some b => b.sender == a.sender || betterMaster a b
    | none => true

/-- The senders that a port has heard of, the last one first. -/
def PtpPort.heardOf (p : PtpPort) (a : Announce) (now : Nat) : List (BitVec 80 × Nat) := (a.sender, now) :: (p.heard.filter fun h => h.1 != a.sender).take 4

/-- A port after an Announce that fits it. -/
def PtpPort.hears (p : PtpPort) (a : Announce) (now : Nat) : PtpPort :=
  if p.takes a now = true then ⟨some a, now, p.heardOf a now⟩ else { p with heard := p.heardOf a now }

theorem PtpPort.hears_master {p : PtpPort} {a : Announce} {now : Nat} (qualified : p.qualifies a now = true)
    (better : ∀ b, p.best = some b → b.sender = a.sender ∨ betterMaster a b = true) : p.hears a now = ⟨some a, now, p.heardOf a now⟩ := by
  refine if_pos ?_
  rw [PtpPort.takes, qualified, Bool.true_and]
  cases best : p.best with
  | none => rfl
  | some b => simpa using better b best

theorem PtpPort.hears_unqualified {p : PtpPort} {a : Announce} {now : Nat} (unqualified : p.qualifies a now = false) :
    p.hears a now = { p with heard := p.heardOf a now } :=
  if_neg (by simp [PtpPort.takes, unqualified])

/-- An Announce that fits its port is heard there, stale masters dropped first, and the choice is made anew. -/
theorem State.announce_fits {s : State} {n : Fin 2} {a : Announce} (runs : s.ptpRuns = true) (on : s.ptpOn n = true) (domain : a.domain.toNat = s.regF ptpConfig 0 8)
    (sdo : a.sdo.toNat = s.regF ptpConfig 20 4) :
    s.announce n a = (s.dropStale.onTime fun u =>
      { u with ports := updAt u.ports n.1 fun _ => (s.dropStale.time.ports.getD n.1 ⟨none, 0, []⟩).hears a s.dropStale.now }).chooseMaster := by
  rw [State.announce, if_neg (by simp [runs, on, domain, sdo])]
  rfl

/-! ## Syncs and Follow_Ups (R387) -/

section Servo

variable {s : State} {n : Fin 2} {m : PtpTime}

section Master

variable (master : s.fromMaster n m = true)
include master

/-- A two-step Sync waits for its Follow_Up. -/
theorem State.ptpSync_twoStep {stamp interval : Int} (twoStep : m.twoStep = true) :
    s.ptpSync n m stamp interval = s.dropSync.onTime fun u => { u with sync := some (m.seqId, stamp - s.latRx n, interval) } := by
  simp only [State.ptpSync, master, twoStep, Bool.true_eq_false, if_false, if_true]

/-- A one-step Sync brings its origin time itself and updates the servo. -/
theorem State.ptpSync_oneStep {stamp interval d : Int} (oneStep : m.twoStep = false) (idle : s.time.sync = none) (path : s.time.pathDelay = some d) :
    s.ptpSync n m stamp interval =
      (s.onTime fun u => { u with lastT2 := some (m.time, stamp - s.latRx n) }).servoUpdate n m.time (stamp - s.latRx n) interval.toNat d := by
  have kept : s.dropSync = s := if_neg (by simp [idle])
  simp only [State.ptpSync, master, oneStep, kept, State.onTime_time, path, Bool.true_eq_false, Bool.false_eq_true, if_false]

/-- A Follow_Up completes the Sync that waits for it. -/
theorem State.ptpFollow_completes {t2 interval d : Int} (waits : s.time.sync = some (m.seqId, t2, interval)) (path : s.time.pathDelay = some d) :
    s.ptpFollow n m = (s.onTime fun u => { u with sync := none, lastT2 := some (m.time, t2) }).servoUpdate n m.time t2 interval.toNat d := by
  have taken : ¬ (s.fromMaster n m = false ∨ m.seqId ≠ m.seqId) := by simp [master]
  simp only [State.ptpFollow, waits, if_neg taken, State.onTime_time, path]

/-! ## The path delay and holdover (R384, R385, R388) -/

/-- A Delay_Resp to the request on its way ends a measurement. -/
theorem State.ptpDelayResp_measures {t1 t2 t3 : Int} (sent : s.time.reqAt = some (m.seqId, t3)) (synced : s.time.lastT2 = some (t1, t2)) :
    s.ptpDelayResp n m = s.onTime fun u => { u with
      reqAt := none, delays := min (u.delays + 1) 2, pathDelay := if 1 ≤ u.delays then some (((t2 - t1) + (m.time - t3)) / 2) else u.pathDelay } := by
  have taken : ¬ (s.fromMaster n m = false ∨ m.seqId ≠ m.seqId) := by simp [master]
  simp only [State.ptpDelayResp, sent, synced, if_neg taken]

end Master

theorem State.ptpDelayReq_sends (port : s.time.ptpPort = some n) (runs : s.ptpRuns = true) :
    s.ptpDelayReq =
      let v := s.draw.2
      let id := s.time.reqId + 1
      let t3 : Int := 100 * (v.now : Int) + (s.draw.1 % 100 : Nat) + v.latTx n
      (v.onTime fun u => { u with reqId := id, reqAt := some (id, t3) }).emit (.delayReq n id t3) := by
  simp only [State.ptpDelayReq, port, runs, Bool.true_eq_false, if_false]

/-- A servo that follows a master has lost it, unless the choice made anew finds another. -/
theorem State.holdover_follows (runs : s.ptpRuns = true)
    (follows : s.time.servo = .acquiring ∨ s.time.servo = .tracking ∨ s.time.servo = .locked ∨ s.time.servo = .stepHeld) :
    s.holdover =
      let v := s.dropStale.chooseMaster
      if v.time.ptpPort.isSome = true ∧ (v.time.ptpPort ≠ s.time.ptpPort ∨ v.time.chosen ≠ s.time.chosen) then v else v.lostServo := by
  refine if_neg ?_
  obtain acquiring | tracking | locked | held := follows
  · simp [runs, acquiring]
  · simp [runs, tracking]
  · simp [runs, locked]
  · simp [runs, held]

/-! ## OFFSET in the chain (R392) -/

theorem State.sendOffset_manager (manager : s.chain.manager = true) (members : s.workers ≠ []) :
    s.sendOffset = s.toWorkers ctlOffset (timeBytes (s.now + 50 * micro) ++ s64 s.newOffset) :=
  if_pos (by simp [manager, members])

theorem State.offsetApply_due {at_ : Nat} {v : Int} (waits : s.time.apply = some (at_, v)) :
    s.offsetApply = ((s.reach at_).onTime fun u => { u with offset := v, valid := true, apply := none }).timeStatus := by
  simp only [State.offsetApply, waits]

end Servo

/-- Settles O58: a port's ENABLE and link decide what reaches it, the master in use which messages of PTP count, and the place in the chain where OFFSET goes. -/
theorem networkEvents : Obligations.NetworkEvents := by
  refine ⟨fun n => ?up, fun n => ?disabled, fun n => ?down, fun n sender target => ?arp, fun n sender target data => ?echo, fun n a => ?master, fun n a => ?unqualified,
    fun n m stamp interval => ?sync, fun n m => ?followUp, fun s n m stamp interval master twoStep => ?twoStep, fun s n m stamp interval d master oneStep idle path => ?oneStep,
    fun s n m t2 interval d master waits path => ?completes, fun n => ?delayReq, fun n m t1 t2 t3 => ?delayResp, ?holdover, ?broadcast, fun at_ v => ?apply⟩
  case up => exact doesUp (fun _ _ => rfl) fun _ ⟨enabled, down⟩ => congrArg State.chooseMaster (State.ethUp_rises enabled down)
  case disabled => exact doesUp (fun _ _ => rfl) fun _ disabled => congrArg State.chooseMaster (State.ethUp_disabled disabled)
  case down => exact doesUp (fun _ _ => rfl) fun _ up => State.ethDown_falls up
  case arp => exact doesUp (fun _ _ => rfl) fun _ ⟨enabled, own⟩ => State.arp_own enabled own
  case echo => exact doesUp (fun _ _ => rfl) fun _ ⟨enabled, own, short⟩ => State.echo_own enabled own short
  case master =>
    refine doesUp (fun _ _ => rfl) fun _ ⟨⟨enabled, runs, on, domain, sdo⟩, qualified, better⟩ => ?_
    rw [State.ethFrame_enabled enabled, State.announce_fits runs on domain sdo, PtpPort.hears_master qualified better]
    rfl
  case unqualified =>
    refine doesUp (fun _ _ => rfl) fun _ ⟨⟨enabled, runs, on, domain, sdo⟩, unqualified⟩ => ?_
    rw [State.ethFrame_enabled enabled, State.announce_fits runs on domain sdo, PtpPort.hears_unqualified unqualified]
    rfl
  case sync => exact doesUp (fun _ _ => rfl) fun _ enabled => State.ethFrame_enabled enabled _
  case followUp => exact doesUp (fun _ _ => rfl) fun _ enabled => State.ethFrame_enabled enabled _
  case twoStep => exact State.ptpSync_twoStep master twoStep
  case oneStep => exact State.ptpSync_oneStep master oneStep idle path
  case completes => exact State.ptpFollow_completes master waits path
  case delayReq => exact doesUp (fun _ _ => rfl) fun _ ⟨port, runs⟩ => State.ptpDelayReq_sends port runs
  case delayResp =>
    exact doesUp (fun _ _ => rfl) fun _ ⟨enabled, sent, synced, master⟩ => (State.ethFrame_enabled enabled _).trans (State.ptpDelayResp_measures master sent synced)
  case holdover => exact doesUp (fun _ _ => rfl) fun _ ⟨runs, follows⟩ => State.holdover_follows runs follows
  case broadcast => exact doesUp (fun _ _ => rfl) fun _ ⟨manager, members⟩ => State.sendOffset_manager manager members
  case apply => exact doesUp (fun _ _ => rfl) fun _ waits => State.offsetApply_due waits

end Sys2Proof.Machine

namespace Sys2Proof.Machine

open Sys2Proof

/-! ## Group 0x0B: the axis commands (R409-R411, R415, R424, R428) -/

/-- Settles O38: seven opcodes fan out to motor ports, and each clause writes out the `leafRun`; PASSTHROUGH_CONFIG writes one register. -/
theorem axisCommands : Obligations.AxisCommands := by
  refine ⟨?config, ?move, ?stop, ?home, ?limits, ?status, ?position, ?passthrough⟩
  case config => exact gives_eachLeaf rfl fun _ _ _ => rfl
  case move => exact gives_eachLeaf rfl fun _ _ _ => rfl
  case stop => exact gives_eachLeaf rfl fun _ _ _ => rfl
  case home => exact gives_eachLeaf rfl fun _ _ _ => rfl
  case limits => exact gives_eachLeaf rfl fun _ _ _ => rfl
  case status => exact gives_eachLeaf rfl fun _ _ _ => rfl
  case position => exact gives_eachLeaf rfl fun _ _ _ => rfl
  case passthrough => exact gives_done (fun _ _ _ => rfl) (fun _ _ => rfl)

end Sys2Proof.Machine

namespace Sys2Proof.Machine

open Sys2Proof

/-! ## Group 0x0C: the LED commands (R441, R443, R446, R448) -/

/-- A device that needs no time to tell a chain applies a commit at once. -/
theorem opLedCommit_alone {s : State} {c : Ctx} (alone : s.chainLead = 0) : opLedCommit.effect s c = c.done (s.ledCommit (leAt c.params 0 2)) := by
  simp only [OpSpec.effect, opLedCommit, alone, BEq.rfl, Bool.or_true, if_true]

/-- In a chain a commit that was not scheduled waits until every worker has heard of it (log entry 63). -/
theorem opLedCommit_chain {s : State} {c : Ctx} (chain : s.chainLead ≠ 0) (unscheduled : c.later = false) :
    opLedCommit.effect s c
      = c.done ((s.sendCommit (leAt c.params 0 2) (s.now + s.chainLead)).awaitCommit (s.now + s.chainLead) (leAt c.params 0 2)) := by
  simp only [OpSpec.effect, opLedCommit, unscheduled, beq_eq_false_iff_ne.mpr chain, Bool.or_self, Bool.false_eq_true, if_false]

/-- Settles O39: CONFIG, STAGE and STATUS fan out to LED channels; a commit turns on the time that the chain needs. -/
theorem ledCommands : Obligations.LedCommands := by
  refine ⟨?config, ?stage, ?alone, ?chain, ?status, ?adjacency⟩
  case config => exact gives_eachLeaf rfl fun _ _ _ => rfl
  case stage => exact gives_eachLeaf rfl fun _ _ _ => rfl
  case alone => exact givesIf_done (fun _ _ _ => rfl) fun _ _ ⟨alone, _⟩ => opLedCommit_alone alone
  case chain => exact givesIf_done (fun _ _ _ => rfl) fun _ _ ⟨chain, unscheduled⟩ => opLedCommit_chain chain unscheduled
  case status => exact gives_eachLeaf rfl fun _ _ _ => rfl
  case adjacency => exact gives_done (fun _ _ _ => rfl) (fun _ _ => rfl)

end Sys2Proof.Machine

namespace Sys2Proof.Machine

open Sys2Proof

/-! ## Group 0x0D: the recorder commands (R454, R471, R474) -/

/-- RINGS_READ of the live image. -/
theorem opRingsRead_live {s : State} {c : Ctx} (live : byteAt c.params 0 = 0) :
    opRingsRead.effect s c = { st := s, body := leBytes 8 s.tally.rings.seq ++ (s.tally.rings.image.drop (leAt c.params 4 4)).take (leAt c.params 8 4) } := by
  simp only [OpSpec.effect, opRingsRead, if_pos live]

/-- RINGS_READ of the image that was committed last. -/
theorem opRingsRead_committed {s : State} {c : Ctx} {r : Rings} {l : List Rings} (stored : byteAt c.params 0 ≠ 0) (last : s.tally.ringsNv = r :: l) :
    opRingsRead.effect s c = { st := s, body := leBytes 8 r.seq ++ (r.image.drop (leAt c.params 4 4)).take (leAt c.params 8 4) } := by
  simp only [OpSpec.effect, opRingsRead, if_neg stored, last, List.head?_cons]

/-- Before the first commit the stored image is free (log entry 5). -/
theorem opRingsRead_uncommitted {s : State} {c : Ctx} (stored : byteAt c.params 0 ≠ 0) (none_ : s.tally.ringsNv = []) :
    opRingsRead.effect s c =
      { st := { s with draws := s.draws + leAt c.params 8 4 + 8 }
        body := tabulate (leAt c.params 8 4 + 8) fun i => BitVec.ofNat 8 (Config.freeNat (s.draws + i)) } := by
  simp only [OpSpec.effect, opRingsRead, if_neg stored, none_, List.head?_nil]

/-- Settles O40: RINGS_READ depends on the image that it names and on whether one has been committed; each other clause is its opcode's `run`. -/
theorem recorderCommands : Obligations.RecorderCommands := by
  refine ⟨?tally, ?info, ?audit, ?live, fun r l => ?committed, ?uncommitted, ?mark, ?config⟩
  case tally => exact gives_done (fun _ _ _ => rfl) (fun _ _ => rfl)
  case info => exact gives_done (fun _ _ _ => rfl) (fun _ _ => rfl)
  case audit => exact gives_done (fun _ _ _ => rfl) (fun _ _ => rfl)
  case live => exact givesIf_done (fun _ _ _ => rfl) fun _ _ live => opRingsRead_live live
  case committed => exact givesIf_done (fun _ _ _ => rfl) fun _ _ ⟨stored, last⟩ => opRingsRead_committed stored last
  case uncommitted => exact givesIf_done (fun _ _ _ => rfl) fun _ _ ⟨stored, none_⟩ => opRingsRead_uncommitted stored none_
  case mark => exact gives_done (fun _ _ _ => rfl) (fun _ _ => rfl)
  case config => exact gives_done (fun _ _ _ => rfl) (fun _ _ => rfl)

end Sys2Proof.Machine

namespace Sys2Proof.Machine

open Sys2Proof

/-! ## Group 0x0E: the security commands (R480, R484-R488) -/

/-- UPDATE_VERIFY of an image that passes every check. -/
theorem opUpdateVerify_passes {s : State} {c : Ctx} {b : Bool} (slot : s.sec.find .writing = some b) (passes : s.imageResult b = 0) :
    opUpdateVerify.effect s c =
      let h := Memory.reads s.nv (if b then 0x1000000 else 0) 256
      { st := s.setSlots (s.sec.setSlot b { s.sec.slot b with st := .written, sigOk := true, secVer := leAt h 6 2, fwVer := leWord h 8 }) 0
        body := leBytes 1 0 ++ leBytes 3 0, audit := some (.params c.params) } := by
  simp only [OpSpec.effect, opUpdateVerify, slot, Option.getD_some, passes, if_true]

/-- UPDATE_VERIFY of an image that fails a check. -/
theorem opUpdateVerify_fails {s : State} {c : Ctx} {b : Bool} (slot : s.sec.find .writing = some b) (fails : s.imageResult b ≠ 0) :
    opUpdateVerify.effect s c =
      { st := s.setSlots (s.sec.setSlot b { s.sec.slot b with st := .invalid, sigOk := false }) (s.imageResult b)
        body := leBytes 1 (s.imageResult b) ++ leBytes 3 0, audit := some (.params c.params) } := by
  simp only [OpSpec.effect, opUpdateVerify, slot, Option.getD_some, if_neg fails]

theorem opUpdateCommit_after (s : State) (c : Ctx) : opUpdateCommit.after s c = (s.resetState 0x100 false).loadTime.startUp false := by
  simp only [opUpdateCommit, State.deviceReset]

/-- Slot `b` becomes ACTIVE, and SEC_FLOOR rises to its version (R486). -/
def State.confirmSlot (s : State) (k : Security) (b : Bool) : State :=
  s.setSlots { k.setState b .active with secFloor := max (k.setState b .active).secFloor ((k.setState b .active).slot b).secVer } 0

/-- UPDATE_CONFIRM beside an ACTIVE slot puts that one on standby. -/
theorem opUpdateConfirm_replaces {s : State} {c : Ctx} {b a : Bool} (trial : s.sec.find .trial = some b) (active : s.sec.find .active = some a) :
    opUpdateConfirm.effect s c = c.done (s.confirmSlot (s.sec.setState a .standby) b) := by
  simp only [OpSpec.effect, opUpdateConfirm, trial, active, Option.getD_some, State.confirmSlot]

/-- UPDATE_CONFIRM where no slot is ACTIVE. -/
theorem opUpdateConfirm_first {s : State} {c : Ctx} {b : Bool} (trial : s.sec.find .trial = some b) (inactive : s.sec.find .active = none) :
    opUpdateConfirm.effect s c = c.done (s.confirmSlot s.sec b) := by
  simp only [OpSpec.effect, opUpdateConfirm, trial, inactive, Option.getD_some, State.confirmSlot]

/-- Settles O41: UPDATE_VERIFY and UPDATE_CONFIRM depend on the slots; three opcodes act once more after their reply. -/
theorem securityCommands : Obligations.SecurityCommands := by
  refine ⟨?info, ?world, ?key, ?begins, fun b => ?passes, fun b r => ?fails, ?commit, fun b a => ?replaces, fun b => ?first⟩
  case info => exact gives_done (fun _ _ _ => rfl) (fun _ _ => rfl)
  case world => exact givesThen_done (fun _ _ _ => rfl) (fun _ _ => rfl) (fun _ _ => rfl)
  case key => exact givesThen_done (fun _ _ _ => rfl) (fun _ _ => rfl) (fun _ _ => rfl)
  case begins => exact gives_done (fun _ _ _ => rfl) (fun _ _ => rfl)
  case passes => exact givesIf_done (fun _ _ _ => rfl) fun _ _ ⟨slot, passes⟩ => opUpdateVerify_passes slot passes
  case fails => exact givesIf_done (fun _ _ _ => rfl) fun _ _ ⟨slot, result, fails⟩ => by subst result; exact opUpdateVerify_fails slot fails
  case commit => exact givesThen_done (fun _ _ _ => rfl) (fun _ _ => rfl) opUpdateCommit_after
  case replaces => exact givesIf_done (fun _ _ _ => rfl) fun _ _ ⟨trial, active⟩ => opUpdateConfirm_replaces trial active
  case first => exact givesIf_done (fun _ _ _ => rfl) fun _ _ ⟨trial, inactive⟩ => opUpdateConfirm_first trial inactive

end Sys2Proof.Machine

namespace Sys2Proof.Machine

open Sys2Proof

/-! ## The queue (log entry 28) -/

/-- Settles O1: `step` asks whether the queue is empty. -/
theorem stepRunsTheFront : Obligations.StepRunsTheFront := by
  refine ⟨fun c q s => ?front, fun s empty => ?idle⟩
  case front => rfl
  case idle => simp only [step, empty]

end Sys2Proof.Machine

namespace Sys2Proof.Machine

open Sys2Proof

/-- An event of the DRIVE domain does `f` in every state where its effect is `f`. -/
theorem alwaysDrives {i : Nat → Instr} {f g : State → State} (he : ∀ t s, exec (i t) s = .next (s.driveAct t g)) (hg : ∀ u, g u = f u) : Always i drivesOn f :=
  alwaysOf (fun t s h => (he t s).trans (congrArg _ (drE h))) hg

/-! ## Light windows (R438, R442) -/

theorem State.windowStart_waits {s : State} {n : Fin 16} {w : Win} (waits : (s.joist n).windows.find? (fun w => !w.running) = some w) :
    s.windowStart n =
      leds16.foldl (fun st c => if st.ledOn c && st.ledPhased c && st.headLane (st.ledLane c) == n then st.onLed c fun l => { l with pwmStart := w.start } else st)
        ((s.reach w.start).onJoist n fun j => { j with windows := j.windows.map fun x => if x = w then { x with running := true } else x }) := by
  simp only [State.windowStart, waits]

theorem State.windowEnd_runs {s : State} {n : Fin 16} {w : Win} (runs : (s.joist n).windows.find? (fun w => w.running) = some w) :
    s.windowEnd n = ((s.reach (w.start + w.dur)).onJoist n fun j => { j with windows := j.windows.filter fun x => x != w }).endWindow n := by
  simp only [State.windowEnd, runs]

/-! ## Shorts and opens (R435, R444) -/

theorem State.ledOpen_found {s : State} {c : Fin 16} (emits : s.ledEmits c = true) (long : s.ledBrief c = false) (new : 0x31 ∉ (s.led c).faults) :
    s.ledOpen c = (s.onLed c fun l => { l with faults := l.faults ++ [0x31] }).unitFault (.led c) stFault 0x31 := by
  have fresh : (s.led c).faults.contains 0x31 = false := by simpa using new
  simp only [State.ledOpen, emits, long, fresh, Bool.not_false, Bool.and_self, if_true]

/-! ## Proving pulses (R444, R445) -/

section ProvingPulse

variable {s : State} {c : Fin 16}

/-- A channel whose on-times are long proves its lamp by itself. -/
theorem State.provingPulse_long (on : s.ledOn c = true) (clear : s.ledOff c = false) (long : s.ledProves c = false) (drive : s.mode.mode.driveOn = true) (slot : Bool) :
    s.provingPulse c slot true = (s.onLed c fun l => { l with openOk := true }).ledConfirm c := by
  simp only [State.provingPulse, on, clear, long, drive, Bool.true_eq_false, Bool.false_eq_true, or_self, if_false, if_true]

/-- A slot that a window or an adjacency step takes proves nothing (R445, R447; log entry 107). -/
theorem State.provingPulse_taken (proves : s.ledProves c = true) (taken : s.ledShut c = true ∨ s.stepFirst c = true) (pass : Bool) :
    s.provingPulse c true pass = s := by
  simp only [State.provingPulse, proves, Bool.or_eq_true, taken, and_self, if_true, ite_self]

theorem State.provingPulse_passes (on : s.ledOn c = true) (clear : s.ledOff c = false) (proves : s.ledProves c = true) (opens : s.ledShut c = false)
    (free : s.stepFirst c = false) (drive : s.mode.mode.driveOn = true) :
    s.provingPulse c true true =
      let v := s.reach ((s.led c).provedAt + second)
      (((v.onLed c fun l => { l with provedAt := v.now }).count (ledReg c 0x18)).onLed c fun l => { l with openOk := true, faults := l.faults.filter (· != 0x31) }).ledConfirm
        c := by
  simp only [State.provingPulse, on, clear, proves, opens, free, drive, Bool.true_eq_false, Bool.false_eq_true, Bool.or_self, or_self, and_false, if_false, if_true]

/-- With no slot a channel that is OK becomes UNVERIFIED. -/
theorem State.provingPulse_missed (on : s.ledOn c = true) (clear : s.ledOff c = false) (proves : s.ledProves c = true) (drive : s.mode.mode.driveOn = true) (pass : Bool) :
    s.provingPulse c false pass =
      let v := s.reach ((s.led c).provedAt + second)
      let w := v.onLed c fun l => { l with provedAt := v.now }
      let x := if w.unitState (.led c) = stOk then w.setUnit (.led c) stUnverified else w
      x.raise 0x0C02 1 0 [2, c] (leBytes 1 c ++ leBytes 3 0 ++ leBytes 4 (x.ledOnNs c)) := by
  simp only [State.provingPulse, on, clear, proves, drive, Bool.true_eq_false, Bool.false_eq_true, or_self, false_and, if_false, if_true]

end ProvingPulse

/-! ## Adjacency steps (R446) -/

/-- The neighbours that a step sees shorted to its channel. -/
def adjNear (seen : AdjSeen) (c : Fin 16) : List (Fin 16) := leds16.filter fun d => (seen.below && d.val + 1 == c.val) || (seen.above && d.val == c.val + 1)

theorem adjNear_none (c : Fin 16) : adjNear ⟨false, false⟩ c = [] := List.filter_eq_nil_iff.mpr fun _ _ => Bool.false_ne_true

theorem adjNear_both (c : Fin 16) : adjNear ⟨true, true⟩ c = leds16.filter fun d => d.val + 1 == c.val || d.val == c.val + 1 := by
  simp only [adjNear, Bool.true_and]

/-- Every channel has a neighbour. -/
theorem adjNear_both_isEmpty : ∀ c : Fin 16, (adjNear ⟨true, true⟩ c).isEmpty = false := by decide

/-- The step of a channel has been made. -/
def State.stepMade (s : State) (c : Fin 16) : State := s.onLights fun l => { l with testing := l.testing.filter (· != c.val) }

/-- A channel that no neighbour is shorted to passes its test. -/
def State.adjacencyPass (s : State) (c : Fin 16) : State := (s.onLed c fun l => { l with adjOk := true, faults := l.faults.filter (· != 0x33) }).ledConfirm c

/-- Channels that are shorted to each other are faulted and reported. -/
def State.adjacencyFault (s : State) (shorted : List (Fin 16)) : State :=
  let v := shorted.foldl (fun st d => (st.onLed d fun l => { l with faults := l.faults.filter (· != 0x33) ++ [0x33] }).unitFault (.led d) stFault 0x33) s
  let w := v.onLights fun l => { l with found := (shorted.map fun d => 2 ^ d.val).foldl Nat.lor l.found }
  w.raise 0x0C01 2 0x33 [2] (leBytes 2 w.lights.found ++ leBytes 2 0)

section AdjacencyStep

variable {s : State} {c : Fin 16} (tested : c.val ∈ s.lights.testing) (drive : s.mode.mode.driveOn = true)
include tested drive

/-- A step of the test that runs turns on the neighbours that it sees shorted. -/
theorem State.adjacencyStep_tested (seen : AdjSeen) :
    s.adjacencyStep c seen = if (adjNear seen c).isEmpty then (s.stepMade c).adjacencyPass c else (s.stepMade c).adjacencyFault (c :: adjNear seen c) := by
  have runs : s.lights.testing.isEmpty = false := List.isEmpty_eq_false_iff.mpr (List.ne_nil_of_mem tested)
  have waits : s.lights.testing.contains c.val = true := List.contains_iff_mem.mpr tested
  simp only [State.adjacencyStep, drive, runs, waits, Bool.true_eq_false, Bool.false_and, Bool.false_eq_true, if_false, if_true]
  rfl

theorem State.adjacencyStep_passes : s.adjacencyStep c ⟨false, false⟩ = (s.stepMade c).adjacencyPass c := by
  rw [State.adjacencyStep_tested tested drive, adjNear_none, List.isEmpty_nil, if_pos rfl]

theorem State.adjacencyStep_shorted :
    s.adjacencyStep c ⟨true, true⟩ = (s.stepMade c).adjacencyFault (c :: leds16.filter fun d => d.val + 1 == c.val || d.val == c.val + 1) := by
  rw [State.adjacencyStep_tested tested drive, adjNear_both_isEmpty, if_neg Bool.false_ne_true, adjNear_both]

end AdjacencyStep

/-! ## The recorder's events (R464, R465, R470) -/

theorem State.pageCommit_due {s : State} (due : s.pageDue = true) (token : 0 < s.tally.tokens) :
    s.pageCommit = (s.commitOldest 1).onTally fun t => { t with tokens := t.tokens - 1 } := by
  simp only [State.pageCommit, due, decide_eq_true token, Bool.and_self, if_true]

/-- A second has brought its token and counts in the Rings, before the temperatures of the heads do. -/
def State.secondCounted (s : State) : State :=
  let w := (s.onTally fun t => { t with tokens := min (t.tokens + 1) (max t.tokens s.burst) }).rings fun r => { r with hubSecs := r.hubSecs + 1 }
  w.ringHist 1 (centi (signed 16 (regView w 0x0B00001C).toNat))

theorem State.secondPassed_hottest {s : State} {v : Int} (hottest : s.secondCounted.hottest = some v) : s.secondPassed = s.secondCounted.ringHist 2 v := by
  simp only [State.secondCounted] at hottest
  simp only [State.secondPassed, hottest, State.secondCounted]

theorem State.stagingWritten_some {s : State} (writing : s.tally.writing ≠ none) : s.stagingWritten = s.stagingDone.reportLost := by
  simp only [State.stagingWritten, Option.isNone_iff_eq_none, if_neg writing]

theorem State.stagingWritten_none {s : State} (idle : s.tally.writing = none) : s.stagingWritten = s := by
  simp only [State.stagingWritten, idle, Option.isNone_none, if_true]

/-- Settles O60: each clause is one case of the event's meaning. -/
theorem lightAndRecorderEvents : Obligations.LightAndRecorderEvents := by
  refine ⟨?lights, ?recorder⟩
  case lights =>
    refine ⟨fun n w => ?start, fun n w => ?ends, fun ohms => ?ntc, fun c => ?short, fun c => ?opens, fun c slot => ?long, fun c => ?passes, fun c pass => ?taken,
      fun c pass => ?missed, fun c => ?shorted, fun c => ?apart⟩
    case start => exact doesDrives (fun _ _ => rfl) fun _ waits => State.windowStart_waits waits
    case ends => exact doesDrives (fun _ _ => rfl) fun _ runs => State.windowEnd_runs runs
    case ntc => exact alwaysDrives (fun _ _ => rfl) fun _ => rfl
    case short => exact doesDrives (fun _ _ => rfl) fun _ emits => if_pos emits
    case opens => exact doesDrives (fun _ _ => rfl) fun _ ⟨emits, long, new⟩ => State.ledOpen_found emits long new
    case long => exact doesDrives (fun _ _ => rfl) fun _ ⟨on, clear, long, drive⟩ => State.provingPulse_long on clear long drive slot
    case passes =>
      exact doesDrives (fun _ _ => rfl) fun _ ⟨on, clear, proves, opens, free, drive⟩ => State.provingPulse_passes on clear proves opens free drive
    case taken => exact doesDrives (fun _ _ => rfl) fun _ ⟨_, _, proves, taken⟩ => State.provingPulse_taken proves taken pass
    case missed => exact doesDrives (fun _ _ => rfl) fun _ ⟨on, clear, proves, drive⟩ => State.provingPulse_missed on clear proves drive pass
    case shorted => exact doesDrives (fun _ _ => rfl) fun _ ⟨tested, drive⟩ => State.adjacencyStep_shorted tested drive
    case apart => exact doesDrives (fun _ _ => rfl) fun _ ⟨tested, drive⟩ => State.adjacencyStep_passes tested drive
  case recorder =>
    refine ⟨?page, fun v => ?second, ?rings, ?era, ?written, ?idle⟩
    case page => exact doesUp (fun _ _ => rfl) fun _ ⟨due, token⟩ => State.pageCommit_due due token
    case second => exact doesUp (fun _ _ => rfl) fun _ hottest => State.secondPassed_hottest hottest
    case rings => exact alwaysUp (fun _ _ => rfl) fun _ => rfl
    case era => exact alwaysUp (fun _ _ => rfl) fun _ => rfl
    case written => exact doesUp (fun _ _ => rfl) fun _ writing => State.stagingWritten_some writing
    case idle => exact doesUp (fun _ _ => rfl) fun _ idle => State.stagingWritten_none idle

end Sys2Proof.Machine
